-- ==== Sys2Proof/Word.lean ====
section
/-! DEFINITION. Words, bytes, lines and the sparse table that holds every numbered array of the bridge. -/

namespace Sys2Proof

/-- A byte. -/
abbrev Byte := BitVec 8
/-- A 32-bit register word. -/
abbrev Word := BitVec 32
/-- One line of 64 bytes (R12): byte `k` is bits `8k+7 .. 8k`. -/
abbrev Line := BitVec 512
/-- A byte mask of a line: bit `k` names byte `k` (R87). -/
abbrev LineMask := BitVec 64

/-- A line as an RDATA returns it or a WR carries it (R82, R284): ciphertext, the POISON bit of its metadata byte, and check bytes. -/
structure Codeword where
  /-- R82: ciphertext -/
  data : Line
  /-- R82: POISON -/
  poison : Bool := false
  /-- R82, R284: the three check bytes, the first lowest -/
  check : BitVec 24 := 0
  deriving DecidableEq, Repr

/-- The state of a line's code as a read finds it (R82). -/
inductive LineCheck where
  | good | corrected | uncorrectable
  deriving DecidableEq, Repr

/-- A numbered array held sparsely: number and value pairs. -/
abbrev Tbl (α : Type) := List (Nat × α)

/-- The value at number `k`; `d` where none is listed. -/
def Tbl.get {α : Type} (d : α) (k : Nat) : Tbl α → α
  | [] => d
  | (j, v) :: t => if j = k then v else Tbl.get d k t

/-- The value listed at number `k`, if one is. -/
def Tbl.find {α : Type} (k : Nat) : Tbl α → Option α
  | [] => none
  | (j, v) :: t => if j = k then some v else Tbl.find k t

/-- List `v` at number `k`, in the place that keeps the numbers rising. -/
def Tbl.put {α : Type} (k : Nat) (v : α) : Tbl α → Tbl α
  | [] => [(k, v)]
  | (j, w) :: t =>
    if k < j then (k, v) :: (j, w) :: t
    else if j = k then (k, v) :: t
    else (j, w) :: Tbl.put k v t

/-- Take number `k` off the list. -/
def Tbl.del {α : Type} (k : Nat) : Tbl α → Tbl α
  | [] => []
  | (j, w) :: t => if j = k then t else (j, w) :: Tbl.del k t

/-- Keep the entries that `p` accepts. -/
def Tbl.keep {α : Type} (p : Nat → α → Bool) (t : Tbl α) : Tbl α :=
  List.filter (fun e => p e.1 e.2) t

/-- Change every listed value. -/
def Tbl.mapv {α : Type} (f : Nat → α → α) (t : Tbl α) : Tbl α :=
  List.map (fun e => (e.1, f e.1 e.2)) t

/-- The values, in rising number order. -/
def Tbl.vals {α : Type} (t : Tbl α) : List α := List.map Prod.snd t

/-- The numbers listed, rising. -/
def Tbl.keys {α : Type} (t : Tbl α) : List Nat := List.map Prod.fst t

/-- The numbers of a table rise strictly from the lower bound on. -/
def Tbl.risingFrom {α : Type} : Nat → Tbl α → Bool
  | _, [] => true
  | lo, (k, _) :: t => decide (lo ≤ k) && Tbl.risingFrom (k + 1) t

/-- The canonical form: strictly rising numbers. -/
def Tbl.rising {α : Type} (t : Tbl α) : Bool := Tbl.risingFrom 0 t

/-- A count that saturates at `top`. -/
def satAdd (top a b : Nat) : Nat := if a + b ≤ top then a + b else top

/-- A 32-bit event counter that saturates at 0xFFFF_FFFF (R526). -/
def cnt32 (a b : Nat) : Nat := satAdd 0xFFFFFFFF a b

/-- Division rounded up. -/
def ceilDiv (a b : Nat) : Nat := (a + b - 1) / b

/-- Bit `k` of a number. -/
def bitOf (n k : Nat) : Bool := n / 2 ^ k % 2 = 1

/-- Bits `hi..lo` of a number. -/
def bitsOf (n hi lo : Nat) : Nat := n / 2 ^ lo % 2 ^ (hi - lo + 1)

/-- 1 for true. -/
def b2n (b : Bool) : Nat := if b then 1 else 0

/-- A number whose bit `k` is `f k`, for `k` below `n`. -/
def packBits (f : Nat → Bool) : Nat → Nat
  | 0 => 0
  | n + 1 => packBits f n + (if f n then 2 ^ n else 0)

/-- The set bits of a number below `n`, rising. -/
def setBits (w : Nat) (n : Nat) : List Nat := (List.range n).filter (bitOf w)

/-- Number of bits set among the lowest `n`. -/
def popCount (w n : Nat) : Nat := (setBits w n).length

/-- A signed `w`-bit reading of a number. -/
def signedOf (w n : Nat) : Int := if n % 2 ^ w < 2 ^ (w - 1) then (n % 2 ^ w : Nat) else (n % 2 ^ w : Nat) - (2 ^ w : Nat)

end Sys2Proof
end

