-- ==== Sys2Proof/Machine/TypesChannel.lean ====
section
/-! DEFINITION. The plain data of one channel's scheduler, translation slice, write-combining buffer and line protection, and of the near tier and the Herder. -/

namespace Sys2Proof.Machine

open Sys2Proof

/-- The colour the Leash gives a request (R46, R328). -/
inductive Colour where
  | green | yellow | red
  deriving DecidableEq, Repr

/-- Where a line's ciphertext is held (chapter 03): a near-tier frame (stack × 2^24 + frame), or a sled granule of a channel. -/
inductive Loc where
  | near (frame : Nat)
  | sled (ch granule : Nat)
  deriving DecidableEq, Repr

/-- Slots on the three resources of a channel (R32). -/
structure Slots where
  /-- R32: outbound link slots -/
  out : Nat := 0
  /-- R32: inbound link slots -/
  inb : Nat := 0
  /-- R32: encryption engine slots -/
  eng : Nat := 0
  deriving DecidableEq, Repr

/-- What a unit of work does (R36). `link` is the link part of a split access (R79): resolving channel and unit there. `second` reads
one line of a unit again at another place: a mirror partner's copy, or the home of a clean frame's line (R84, R121). -/
inductive UnitKind where
  | mgmt (send : Bool)
  | hostRead (rid first n : Nat)
  | drain (ln : Nat)
  | retriever (lane first n : Nat)
  | copySrc (copy first n : Nat)
  | copyDst (copy first n : Nat)
  | scrubRead (first n : Nat)
  | scrubWb (ln : Nat) (place : Loc) (w : Codeword)
  | selfTest (cost : Slots)
  | window (cost : Slots)
  | link (resCh uid : Nat) (cost : Slots)
  | second (resCh uid idx ln : Nat) (place : Loc)
  | grace (ln : Nat) (full : Bool)
  deriving DecidableEq, Repr

/-- One unit of work (R36, R37). -/
structure WorkUnit where
  /-- R37: serial number, in order of arrival in the device -/
  id : Nat
  /-- R38: class 1-6 -/
  cls : Nat
  /-- R45: instance (0 for classes 1, 5 and 6) -/
  inst : Nat
  /-- R36: what the unit does -/
  kind : UnitKind
  /-- R37: arrival port (0 host port, 1 Herder, 2 retriever lanes, 3 scrubber) -/
  port : Nat := 0
  /-- R37: FCLK timestamp of its arrival; of a copy's destination part, that of its source part's admission (R44) -/
  born : Nat := 0
  /-- R46: colour -/
  colour : Colour := .green
  /-- R47: ticks passed since its arrival -/
  ticks : Nat := 0
  /-- R46: stride of the tick at which it re-entered as red, plus 1 -/
  reentry : Nat := 0
  /-- R47: it is treated as green by age -/
  aged : Bool := false
  /-- R49: its deficit debit has been made -/
  debited : Bool := false
  deriving DecidableEq, Repr

/-- A unit admitted and not finished (R34). -/
structure Running where
  /-- R36: the unit -/
  unit : WorkUnit
  /-- R30: stride it was admitted to -/
  stride : Nat
  /-- R54: its place in the order of admission, over all channels -/
  seq : Nat := 0
  /-- R37: FCLK timestamp of its admission -/
  born : Nat := 0
  /-- R324: number of its instance's key at its admission -/
  gen : Nat := 0
  /-- R36: cost taken -/
  cost : Slots := {}
  /-- R39: part of the cost that its class's reservation gave -/
  fromRsv : Slots := {}
  /-- R48: part of the cost that the overhang gave -/
  fromOvh : Slots := {}
  /-- R55: lines with their locations as resolved at admission -/
  places : List (Nat × Loc) := []
  /-- R136: a write-through of frame and home -/
  through : Bool := false
  /-- R79: link part still to report -/
  remote : Bool := false
  /-- R79: the link part's completion is to be reported -/
  report : Bool := false
  /-- R90: numbers of the lines whose data is still awaited -/
  await : List Nat := []
  /-- R54: numbers of the lines whose access has still to be handed to the link -/
  hold : List Nat := []
  /-- R54: the read half of its line has been asked for -/
  asked : Bool := false
  /-- R284: what it writes, by number of the line, where no buffer entry holds it -/
  words : Tbl Codeword := []
  /-- R84: numbers of the lines whose first copy failed, with the location that failed -/
  tried : List (Nat × Loc) := []
  deriving DecidableEq, Repr

/-- One channel scheduler (R29-R65). -/
structure Sched where
  /-- R64, 10 b: C, link slots per direction in the current stride -/
  c : Nat := 0
  /-- R64, 16 b: D, round-trip delay in FCLK -/
  rtt : Nat := 0
  /-- R37: units waiting, in order of arrival (classes 1 to 6, red units held among them) -/
  queue : List WorkUnit := []
  /-- R50: head list of the current stride -/
  head : List WorkUnit := []
  /-- R49, R51: units deferred or withdrawn in the current stride, which join the next stride's head list -/
  deferred : List WorkUnit := []
  /-- R44, R118: destination parts of copies whose data has come and which are still to be admitted in the slots set aside -/
  carried : List WorkUnit := []
  /-- R33: inbound slots of the last stride of the issue frame that are unused, while its return frame runs -/
  retLeft : Nat := 0
  /-- R34: units admitted and not finished, in order of admission -/
  running : List Running := []
  /-- R39: common pool left -/
  pool : Slots := {}
  /-- R39: class 4 reservation left -/
  rsv4 : Slots := {}
  /-- R39: class 5 reservation left -/
  rsv5 : Slots := {}
  /-- R39: class 6 reservation left -/
  rsv6 : Slots := {}
  /-- R39: inbound reservations of the stride as granted (classes 4, 5, 6; CHn_SCH_RSV) -/
  shown : Nat × Nat × Nat := (0, 0, 0)
  /-- R39: head-list units charged to the class reservation, bit k for class k -/
  charged : Nat := 0
  /-- R39: the plan of the stride is sealed -/
  sealedPlan : Bool := false
  /-- R41: slots class 1 took in the stride -/
  c1 : Slots := {}
  /-- R42: slots class 5 took in the stride -/
  mig : Slots := {}
  /-- R42: migration ceiling in slots -/
  ceil : Nat := 0
  /-- R48: overhang used in the stride -/
  ovh : Slots := {}
  /-- R35: overhang of the previous stride -/
  carry : Slots := {}
  /-- R64, 8 b: units on the head list at the tick, saturating -/
  headAtTick : Nat := 0
  /-- R49: closed classes, bit k-1 for class k -/
  closed : Nat := 0
  /-- R45: deficit counters, number class × 256 + instance -/
  deficit : Tbl Nat := []
  /-- R45: round-robin pointers of classes 2, 3 and 4: the instance last visited (so that instance 0 is visited first) -/
  ptr : Tbl Nat := []
  /-- R45: class 6 last admitted a scrub unit -/
  scrubLast : Bool := false
  /-- R58: an exclusive window has opened in the stride -/
  windowUsed : Bool := false
  /-- R388: the scrubber is fenced -/
  scrubOff : Bool := false
  /-- R43: class 3 ranks above class 2 -/
  flip : Bool := false
  /-- R52: link paused -/
  paused : Bool := false
  /-- R60: data path clock-gated -/
  gated : Bool := false
  /-- R235: slots classes 2 and 3 used in the stride -/
  fore : Slots := {}
  /-- R235: slots classes 2 and 3 used on the engine for near-tier locations -/
  foreNear : Nat := 0
  /-- R235: a class 2 unit was deferred or held as red in the stride -/
  stress : Bool := false
  /-- R235, 2 b: DevLoad of the channel -/
  devload : Nat := 0
  /-- R65, 64 b each: lines admitted, by class -/
  lines : Tbl Nat := []
  /-- R65, 32 b: units deferred -/
  defers : Nat := 0
  /-- R65, 32 b: units admitted in the overhang -/
  ovhs : Nat := 0
  /-- R65, 32 b: units held as red -/
  reds : Nat := 0
  /-- R65, 32 b: yellow units treated as green by age -/
  aged : Nat := 0
  /-- R65, 32 b: units withdrawn -/
  withdraws : Nat := 0
  /-- R65, 32 b: strides with an overrun -/
  overruns : Nat := 0
  /-- R65: the stride last counted there, plus 1 -/
  overAt : Nat := 0
  /-- R65, 32 b: times class 3 was ranked above class 2 -/
  flips : Nat := 0
  /-- R115: inbound link slots used in the stride -/
  inbUse : Nat := 0
  /-- R443: the caps of classes 1 and 5 are suspended -/
  uncapped : Bool := false
  deriving DecidableEq, Repr

/-- A write-combining entry (R87). -/
structure WcbEntry where
  /-- R87: the line, as DLA number -/
  ln : Nat
  /-- R87: instance -/
  inst : Nat
  /-- R324: generation of the key that its drain uses: the one in force at the drain's admission (log entry 26) -/
  gen : Nat := 0
  /-- R87: buffered bytes -/
  data : Line := 0
  /-- R87: byte mask -/
  mask : LineMask := 0
  /-- R86: POISON flag -/
  poison : Bool := false
  /-- R46: colour of the last merged write -/
  colour : Colour := .green
  /-- R87: sealed (its drain has been admitted) -/
  sealed : Bool := false
  /-- R89: offered for drain -/
  offered : Bool := false
  deriving DecidableEq, Repr

/-- The translation slice, write-combining buffer and line protection of a channel (R66-R105). -/
structure Access where
  /-- R104, 1 b: map state loaded -/
  mapLoaded : Bool := false
  /-- R77: the translation cache, by descriptor index: instance, and whether the bitmap has been fetched -/
  cached : Tbl (Nat × Bool) := []
  /-- R87: entries, oldest first -/
  wcb : List WcbEntry := []
  /-- R92: a write waited for an entry in the stride -/
  waited : Bool := false
  /-- R395: one more than the time at which the channel was last fenced, or its link in retry, replaying or not UP, where it no longer is -/
  badAt : Nat := 0
  /-- R104, 7 b: HIGH_WATER -/
  high : Nat := 0
  /-- R103, 64 b: translation-cache hits -/
  hit : Nat := 0
  /-- R103, 64 b: translation-cache misses -/
  miss : Nat := 0
  /-- R103, 32 b: exception-table lookups -/
  excLookup : Nat := 0
  /-- R103, 32 b: directory-cache misses -/
  dirMiss : Nat := 0
  /-- R103, 32 b: unbacked accesses -/
  unbacked : Nat := 0
  /-- R103, 32 b: instance mismatches -/
  tagMismatch : Nat := 0
  /-- R103, 32 b: descriptor map errors -/
  crcErr : Nat := 0
  /-- R103, 64 b: host writes entered -/
  writes : Nat := 0
  /-- R103, 64 b: writes merged into an open entry -/
  coalesce : Nat := 0
  /-- R103, 64 b: reads that took buffered bytes -/
  rdmerge : Nat := 0
  /-- R103, 32 b: strides in which a write waited -/
  full : Nat := 0
  /-- R103, 32 b: correctable line errors -/
  corr : Nat := 0
  /-- R103, 32 b: uncorrectable line errors -/
  uncorr : Nat := 0
  /-- R103, 32 b: lines returned as poison -/
  poisonRd : Nat := 0
  /-- R103, 32 b: lines corrected from a mirror partner -/
  mirrorFix : Nat := 0
  /-- R103, 32 b: host writes carrying poison -/
  poisonWr : Nat := 0
  /-- R104: last uncorrectable line: DLA, instance -/
  last : Nat × Nat := (0, 0)
  /-- R104, 1 b: ECC_LAST.VALID -/
  lastValid : Bool := false
  deriving DecidableEq, Repr

/-- The state of a near-tier directory entry (R76). -/
inductive FrameState where
  | filling | clean | dirty | writingBack
  deriving DecidableEq, Repr

/-- A near-tier directory entry (R76, R106, R111), held under the granule's DLA number. -/
structure DirEntry where
  /-- R76: frame (stack × 2^24 + frame) -/
  frame : Nat
  /-- R322: instance -/
  inst : Nat
  /-- R76: resolving channel -/
  resCh : Nat
  /-- R76: state -/
  state : FrameState := .filling
  /-- R106, 64 b: dirty-line mask -/
  dirty : BitVec 64 := 0
  /-- R85: lines that left the frame and are at home -/
  atHome : BitVec 64 := 0
  /-- R85: the frame is being emptied (residency ends once written back) -/
  leaving : Bool := false
  /-- R108: lines whose write-back destination part is not yet admitted -/
  wbFlight : BitVec 64 := 0
  /-- R135: it counts as dirty -/
  counts : Bool := false
  /-- R114: a demotion is to take effect at the next tick -/
  demote : Bool := false
  deriving DecidableEq, Repr

/-- The kinds of movement (R112), with write-back (R108). -/
inductive CopyKind where
  | promotion | relocation | evacuation | retirement | homeMove | writeBack | mirror
  deriving DecidableEq, Repr

/-- A granule copy in progress (R117). -/
structure Copy where
  /-- R112: kind -/
  kind : CopyKind
  /-- R112: for a home move, the movement it stands for -/
  cause : CopyKind := .relocation
  /-- R117: granule, as DLA number -/
  gran : Nat
  /-- R322: instance -/
  inst : Nat
  /-- R120: source channel, which schedules the source part -/
  srcCh : Nat
  /-- R120: destination channel -/
  dstCh : Nat
  /-- R117: source location -/
  src : Loc
  /-- R117: destination location -/
  dst : Loc
  /-- R108: lines this copy is to move -/
  want : BitVec 64 := 0xFFFFFFFFFFFFFFFF
  /-- R117, 64 b: IN_FLIGHT -/
  inFlight : BitVec 64 := 0
  /-- R117, 64 b: MOVED -/
  moved : BitVec 64 := 0
  /-- R117, 64 b: WRITTEN -/
  written : BitVec 64 := 0
  /-- R117, 64 b: DIRTIED -/
  dirtied : BitVec 64 := 0
  /-- R121: lines to be written at the destination with POISON -/
  poison : BitVec 64 := 0
  /-- R120: stride in which source parts were last admitted -/
  stride : Nat := 0
  /-- R108: lines whose write at the destination has taken effect -/
  landed : BitVec 64 := 0
  /-- R119: its switch has been prepared -/
  ready : Bool := false
  /-- R126: destination extent of an evacuation move (channel, extent) -/
  ext : Nat × Nat := (0, 0)
  /-- R118: lines in flight as read at the source, by line -/
  buf : Tbl Codeword := []
  /-- R118: outbound slots set aside at the destination, and the stride in which they were -/
  aside : Nat × Nat := (0, 0)
  deriving DecidableEq, Repr

/-- The extent use of a sled (R138, R514): one 2 MiB extent of capacity, held under channel × 2^22 + extent. -/
structure SledExt where
  /-- R72: the whole extent is an extent's home, or set aside for one -/
  whole : Bool := false
  /-- R138, 512 b: granules holding a moved granule's home, or claimed for one -/
  gran : BitVec 512 := 0
  /-- R116, 512 b: retired granules -/
  retired : BitVec 512 := 0
  /-- R435: part of a journal copy -/
  journal : Bool := false
  /-- R119, 512 b: granules of a whole extent whose home has moved away and which are free since -/
  away : BitVec 512 := 0
  /-- R20, 512 b: granules that count as reserve in use: stand-ins of retired ones, and what an evacuation has homed in the reserve -/
  resv : BitVec 512 := 0
  deriving DecidableEq, Repr

/-- An extent descriptor with its remap bitmap (R72, R75), held under channel × 2^22 + descriptor index. -/
structure Desc where
  /-- R72: VALID -/
  valid : Bool := false
  /-- R72: MIRROR -/
  mirror : Bool := false
  /-- R72, 4 b: STATE -/
  state : Nat := 0
  /-- R72, 8 b: INSTANCE -/
  inst : Nat := 0
  /-- R72: PIN_NEAR -/
  pinNear : Bool := false
  /-- R72: KEEP_FAR -/
  keepFar : Bool := false
  /-- R72: NO_MIGRATE -/
  noMigrate : Bool := false
  /-- R72: HOME_CH, HOME_EXT -/
  home : Nat × Nat := (0, 0)
  /-- R72: PART_CH, PART_EXT -/
  part : Nat × Nat := (0, 0)
  /-- R72, 32 b: GEN -/
  gen : Nat := 0
  /-- R75, 512 b: granules moved from the extent's home; REMAP is set while one is -/
  bitmap : BitVec 512 := 0
  /-- R72: the extent this descriptor describes, as DLA number -/
  ext : Nat := 0
  /-- R126: destination extent of an evacuation in progress -/
  evac : Option (Nat × Nat) := none
  deriving DecidableEq, Repr

/-- A remap exception entry (R75), held under resolving channel × 2^35 + the granule's DLA number. -/
structure ExcEntry where
  /-- R75: instance -/
  inst : Nat
  /-- R75: home channel and sled granule index -/
  home : Nat × Nat
  /-- R123: allocated to a copy in progress (its bitmap bit is not set yet) -/
  pending : Bool := false
  deriving DecidableEq, Repr

/-- A segment translation entry (R71), held under instance × 2^17 + window index. -/
structure SegEntry where
  /-- R71, 17 b: DLA_SEG -/
  dlaSeg : Nat
  /-- R71: RES_CH, SLOT -/
  res : Nat × Nat
  /-- R71: ALT_CH, ALT_SLOT -/
  alt : Nat × Nat := (0, 0)
  /-- R71: MIRRORED -/
  mirrored : Bool := false
  /-- R71: VALID -/
  valid : Bool := false
  /-- R71, 8 b: INSTANCE -/
  inst : Nat
  /-- R71: ON_ALT -/
  onAlt : Bool := false
  /-- R318: extents allocated in the segment -/
  extents : Nat := 512
  /-- R327, 2 b: pre-colour -/
  pre : Nat := 0
  /-- R520: one copy of the mirror is lost -/
  degraded : Bool := false
  deriving DecidableEq, Repr

/-- The Herder's tunables (R132). -/
structure Tune where
  /-- R132: SAMPLE_SHIFT -/
  sampleShift : Nat := 4
  /-- R132: DECAY_PERIOD -/
  decayPeriod : Nat := 10
  /-- R132: DECAY_SHIFT -/
  decayShift : Nat := 2
  /-- R132: PROMOTE -/
  promote : Nat := 24
  /-- R132: DEMOTE -/
  demote : Nat := 6
  /-- R132: MIG_BUDGET -/
  migBudget : Nat := 4
  /-- R132: EVAC_BUDGET -/
  evacBudget : Nat := 16
  /-- R132: BAL_ENABLE -/
  balEnable : Nat := 1
  /-- R132: BAL_SPREAD -/
  balSpread : Nat := 20
  /-- R132: AUTO_EVAC -/
  autoEvac : Nat := 1
  /-- R132: DIRTY_CEIL in GiB -/
  dirtyCeil : Nat := 88
  deriving DecidableEq, Repr

/-- The Herder's and near tier's part of one channel (R138-R142). -/
structure HerdCh where
  /-- R137: dirty ceiling in granules, as of the tick -/
  ceil : Nat := 0
  /-- R137: over its ceiling -/
  isOver : Bool := false
  /-- R127: EVAC_BUDGET in force -/
  raised : Bool := false
  /-- R140: the sled is being evacuated -/
  evac : Bool := false
  /-- R140: the evacuation was started automatically -/
  auto : Bool := false
  /-- R370: the evacuation is to stop after the extents in progress fold -/
  stopping : Bool := false
  /-- R126: destination extents that the sled's evacuation has allocated, by channel -/
  took : Tbl Nat := []
  /-- R115: inbound slots of the current 1,024-stride window -/
  inbSum : Nat := 0
  /-- R115: inbound slots of the last 1,024-stride window -/
  inbAvg : Nat := 0
  deriving DecidableEq, Repr

/-- The Herder and the near tier (R106-R143). -/
structure Herder where
  /-- R132: tunables in force -/
  tune : Tune := {}
  /-- R140: RUNNING -/
  running : Bool := false
  /-- R23: the Herder is fenced -/
  fenced : Bool := false
  /-- R76: near-tier directory -/
  dir : Tbl DirEntry := []
  /-- R111, 8 b each: heat of granules, resident or not -/
  heat : Tbl Nat := []
  /-- R110: the decay of the stride's tick is still to be applied -/
  decayDue : Bool := false
  /-- R109: samples of this stride, applied by the next tick -/
  samples : List Nat := []
  /-- R125: samples applied so far -/
  sampleNo : Nat := 0
  /-- R125: number of the last sample of an extent -/
  sampledAt : Tbl Nat := []
  /-- R123: granules whose retirement waits for an entry of their bucket, with the fault block and source that called for it -/
  retireWait : List (Nat × Nat × Nat) := []
  /-- R117: copies in progress -/
  copies : Tbl Copy := []
  /-- R117: number of the next copy -/
  nextCopy : Nat := 0
  /-- R75: exception table -/
  exc : Tbl ExcEntry := []
  /-- R72: extent map -/
  desc : Tbl Desc := []
  /-- R138: extent use of the sleds -/
  ext : Tbl SledExt := []
  /-- R119: locations reserved until FCLK 128 (retired or freed then) -/
  freeing : List (Loc × Bool) := []
  /-- R142: in-service frames of stacks 0 and 1 -/
  frames : Nat × Nat := (0, 0)
  /-- R133: declared hold-up time T_H in microseconds -/
  holdup : Nat := 0
  /-- R133: persist mode enabled by the manager -/
  persistReq : Bool := false
  /-- R20: reserve percentage for sleds admitted later -/
  reservePct : Nat := 2
  /-- R139, 64 b: promotions switched -/
  promotes : Nat := 0
  /-- R139, 64 b: demotions -/
  demotes : Nat := 0
  /-- R139, 64 b: relocations switched -/
  relocates : Nat := 0
  /-- R139, 64 b: granules evacuated -/
  evacGran : Nat := 0
  /-- R139, 64 b: scan pieces dispatched -/
  pieces : Nat := 0
  /-- R139, 64 b: near pieces dispatched -/
  nearPieces : Nat := 0
  /-- R139, 32 b: granules retired -/
  retires : Nat := 0
  /-- R139, 32 b: copies ended without their planned switch -/
  aborts : Nat := 0
  /-- R139, 32 b: copies not started for a full bucket -/
  excFull : Nat := 0
  /-- R139, 32 b: samples discarded by the heat store -/
  heatEvict : Nat := 0
  /-- R139, 32 b: promotions refused by a quota -/
  quotaBlock : Nat := 0
  /-- R139, 32 b: drains held by a line in flight -/
  drainHeld : Nat := 0
  /-- R141, 64 b: lines written back -/
  wbLines : Nat := 0
  /-- R141, 64 b: write-through drains -/
  wtDrain : Nat := 0
  /-- R141, 32 b: strides with a channel at its ceiling -/
  ceilStrides : Nat := 0
  /-- R141: the stride counted last with a channel at its ceiling, plus 1 -/
  ceilAt : Nat := 0
  /-- R141, 32 b: strides with OVER_CEIL set -/
  overStrides : Nat := 0
  deriving DecidableEq, Repr

end Sys2Proof.Machine
end

