-- ==== Sys2Proof/Machine/TypesHost.lean ====
section
/-! DEFINITION. The plain data of instances, mailboxes and semaphores, and of the host port: link, functions, transactions, interrupts. -/

namespace Sys2Proof.Machine

open Sys2Proof

/-- One policer of a Leash (R326). -/
structure Policer where
  /-- R326: AWARE -/
  aware : Bool := false
  /-- R326, 8 b: OVERHEAD -/
  overhead : Nat := 0
  /-- R326: CIR -/
  cir : Nat := 0
  /-- R326: CBS -/
  cbs : Nat := 0
  /-- R326: PIR or EIR -/
  pir : Nat := 0
  /-- R326: PBS or EBS -/
  pbs : Nat := 0
  /-- R328, 32 b: committed tokens -/
  tc : Nat := 0
  /-- R328, 32 b: peak or excess tokens -/
  tp : Nat := 0
  /-- R348, 64 b: metered green bytes -/
  green : Nat := 0
  /-- R348, 64 b: metered yellow bytes -/
  yellow : Nat := 0
  /-- R348, 64 b: metered red bytes -/
  red : Nat := 0
  deriving DecidableEq, Repr

/-- The states of an instance (R315). -/
inductive InstState where
  | none | creating | live | tearing
  deriving DecidableEq, Repr

/-- What an instance is given (R317). -/
structure Grant where
  /-- R317: plain extents -/
  plain : Nat := 0
  /-- R317: mirrored extents -/
  mirrored : Nat := 0
  /-- R317, 16 b: channel mask -/
  chMask : Nat := 0
  /-- R317: first DPA segment -/
  firstDpa : Nat := 0
  /-- R317: near-tier quota in granules -/
  quota : Nat := 0
  /-- R317, 8 b: weight -/
  weight : Nat := 1
  /-- R317: retriever rings -/
  rings : Nat := 1
  /-- R317: MSI-X vectors -/
  vectors : Nat := 1
  /-- R317, 2 b: pre-colour given to every segment at creation -/
  pre : Nat := 0
  /-- R326: ENABLE -/
  leashOn : Bool := false
  /-- R326: VARIANT (true: RFC 4115) -/
  rfc4115 : Bool := false
  /-- R326: read policer -/
  rd : Policer := {}
  /-- R326: write policer -/
  wr : Policer := {}
  deriving DecidableEq, Repr

/-- An instance (R315-R328). -/
structure Inst where
  /-- R315: state -/
  state : InstState := .none
  /-- R317: resources in force (the policers' buckets and counters among them) -/
  grant : Grant := {}
  /-- R319: resources pending until PERST_N, for instance 0 -/
  pendingGrant : Option Grant := none
  /-- R323: generation of the key -/
  gen : Nat := 0
  /-- R325: the key is loaded and valid -/
  keyValid : Bool := false
  /-- R323: the key was imported -/
  imported : Bool := false
  /-- R366, 64 b: SWITCH_STRIDE, the stride of its last creation or rule change -/
  switched : Nat := 0
  /-- R347, 8 b: TAG_ERR -/
  tagErr : Nat := 0
  /-- R348: RD_RED_LAST -/
  rdRedLast : Bool := false
  /-- R348: RD_RED_NOW -/
  rdRedNow : Bool := false
  /-- R348: WR_RED_NOW -/
  wrRedNow : Bool := false
  /-- R340: stride of the teardown's tick, once it has passed -/
  tornAt : Option Nat := none
  /-- R340: command (function, slot, serial) that waits for the teardown -/
  tearCmd : Option (Nat × Nat × Nat) := none
  /-- R121: destinations of its copies that stopped at the teardown's tick, released with its other resources -/
  stopped : List Loc := []
  /-- R379: metered read bytes since its creation -/
  rdBytes : Nat := 0
  /-- R379: metered write bytes since its creation -/
  wrBytes : Nat := 0
  deriving DecidableEq, Repr

/-- The states of a mailbox slot (R330). -/
inductive SlotState where
  | free | posted | running | done
  deriving DecidableEq, Repr

/-- One mailbox slot (R329, R330). -/
structure Slot where
  /-- R330: state -/
  state : SlotState := .free
  /-- R329: command buffer, 64 words -/
  cmd : Tbl Word := []
  /-- R329: response buffer, 64 words -/
  rsp : Tbl Word := []
  /-- R330: doorbell order -/
  order : Nat := 0
  deriving DecidableEq, Repr

/-- One function's mailbox (R329-R333). -/
structure Mailbox where
  /-- R330: slots 0-7 -/
  slots : Tbl Slot := []
  /-- R329: notification buffer, 64 words -/
  notify : Tbl Word := []
  /-- R344: MBX_DONE.NOTIFY -/
  notifyFull : Bool := false
  /-- R331: notifications waiting, at most 8 -/
  waiting : List (List Word) := []
  /-- R344: DB_ERR -/
  dbErr : Bool := false
  /-- R344: WR_ERR -/
  wrErr : Bool := false
  /-- R344: NOTIFY_LOST -/
  notifyLost : Bool := false
  /-- R344: RESP_IRQ -/
  respIrq : Bool := false
  /-- R344: NOTIFY_IRQ -/
  notifyIrq : Bool := false
  /-- R344: LATE_WR -/
  lateWr : Bool := false
  deriving DecidableEq, Repr

/-- A hardware semaphore (R335-R337). -/
structure Sem where
  /-- R335: holder -/
  holder : Option Nat := none
  /-- R337: the holder that last released it by a write, and when -/
  relAt : Option (Nat × Nat) := none
  /-- R337: BROKEN -/
  broken : Bool := false
  /-- R335, 256 b: access set; bit f for function f, PF0 always in it -/
  access : BitVec 256 := 1
  deriving DecidableEq, Repr

/-- The tenancy unit (R315-R349). -/
structure Tenancy where
  /-- R315: instances 0-255; instance 0 is always live (R347: LIVE reads 1 at reset) -/
  inst : Tbl Inst := [(0, { state := .live })]
  /-- R71: segment translation entries -/
  seg : Tbl SegEntry := []
  /-- R329: mailboxes by function -/
  mbx : Tbl Mailbox := []
  /-- R330: number of the next doorbell -/
  nextOrder : Nat := 0
  /-- R335: semaphores 0-63 -/
  sem : Tbl Sem := []
  /-- R23: the tenancy unit is fenced -/
  fenced : Bool := false
  /-- R347: KEYS_LOST -/
  keysLost : Bool := false
  /-- R346, 32 b: unbacked accesses with no resolving channel -/
  unbacked : Nat := 0
  /-- R346, 32 b: accesses to no owner -/
  noOwner : Nat := 0
  /-- R346, 32 b: semaphore reads denied -/
  semDenied : Nat := 0
  /-- R346, 32 b: releases by a non-holder -/
  semBadrel : Nat := 0
  /-- R346, 32 b: releases that set BROKEN -/
  semBroken : Nat := 0
  /-- R204: VF window limit, log2 of bytes, in force -/
  vfLimit : Nat := 36
  /-- R204: VF window limit pending until PERST_N -/
  vfLimitNext : Nat := 36
  deriving DecidableEq, Repr

/-- What a buffer holds of a line at a read's snapshot (R90): bytes under a mask, the POISON flag (R86), and whether one entry that
carries no poison has all 64 bytes in its own mask and so replaces a line marked POISON (R85). -/
structure Snap where
  /-- R90: the bytes -/
  data : Line
  /-- R90, 64 b: which of them -/
  mask : LineMask
  /-- R86: an entry with the POISON flag is in it -/
  poison : Bool := false
  /-- R85: one entry replaces the whole line -/
  whole : Bool := false
  deriving DecidableEq, Repr

/-- One line of a host read in progress (R90). -/
structure RdLine where
  /-- the line, as DLA number; 0 where the line is unbacked -/
  ln : Nat
  /-- R90: resolving channel; none where it was never resolved -/
  ch : Option Nat
  /-- R90: the snapshot (log entry 24) -/
  snap : Option Snap := none
  /-- R90: the line's data and poison, once returned -/
  done : Option (Line × Bool) := none
  /-- R395: the read has taken the partner path, or been reissued on the partner -/
  partner : Bool := false
  /-- R84: channel whose copy failed and is to be rewritten from the partner's -/
  fix : Option Nat := none
  /-- R395: time at which the read arrived, or was reissued -/
  since : Nat := 0
  deriving DecidableEq, Repr

/-- A host read in progress (R222, R223, R233). -/
structure HostRead where
  /-- R67: function -/
  fn : Nat
  /-- R67: instance -/
  inst : Nat
  /-- R233: a CXL.mem read -/
  cxl : Bool
  /-- R223: tag -/
  tag : Nat
  /-- R222: address of the first byte (window offset or DPA) -/
  addr : Nat
  /-- R222: length in bytes -/
  len : Nat
  /-- R328: colour -/
  colour : Colour := .green
  /-- R90: lines, in ascending order -/
  lines : List RdLine := []
  /-- R70: the access has been counted as unbacked -/
  unbacked : Bool := false
  deriving DecidableEq, Repr

/-- A request held at the host port behind a posted write that waits (R88, R92); of a read, the time at which it arrived (R395). -/
inductive PortReq where
  | write (fn : Nat) (addr : Nat) (data : List Byte) (be : List Bool) (ep : Bool)
  | read (fn tag addr len since : Nat)
  | flush (fn tag addr : Nat)
  | cxlWrite (tag addr : Nat) (data : Line) (be : LineMask) (poison : Bool)
  | cxlRead (tag addr since : Nat)
  | enter (inst gen : Nat) (colour : Colour) (lines : List (Nat × Nat × LineMask × Line)) (poison : Bool) (ack : Option Nat)
    (seen : List Nat)
  deriving DecidableEq, Repr

/-- The blocks of host memory that a job's fetch reads (R148). -/
inductive BlockKind where
  | descriptor | header | program | setTable | extentList
  deriving DecidableEq, Repr

/-- What a read issued by the bridge is for (R225): part of a fetch's block from an offset on, or a job's CONSUMER. -/
inductive ReadUse where
  | block (fetch : Nat) (kind : BlockKind) (off : Nat)
  | consumer (job : Nat)
  deriving DecidableEq, Repr

/-- A read issued by the bridge and not completed (R225-R228). -/
structure OutRead where
  /-- R225: requester -/
  fn : Nat
  /-- R225: host address -/
  addr : Nat
  /-- R225: length -/
  len : Nat
  /-- R225: purpose -/
  use : ReadUse
  deriving DecidableEq, Repr

/-- One MSI-X table entry (R242). -/
structure MsixEntry where
  /-- R242: message address -/
  addr : Nat := 0
  /-- R242: message data -/
  data : Nat := 0
  /-- R242: Mask, set at reset as the Base Specification has it (log entry 12) -/
  masked : Bool := true
  /-- R242: PBA bit -/
  pba : Bool := false
  deriving DecidableEq, Repr

/-- A function's configuration space and interrupt state (R196-R208, R215, R240-R244). -/
structure Func where
  /-- R196, 2 b: PowerState -/
  power : Nat := 0
  /-- R218: Memory Space Enable (for a VF: VF MSE of PF0 governs) -/
  mse : Bool := false
  /-- R225: Bus Master Enable -/
  bme : Bool := false
  /-- R243: Interrupt Disable (PF0) -/
  intDisable : Bool := false
  /-- R242: MSI-X Enable -/
  msixEn : Bool := false
  /-- R242: Function Mask -/
  funcMask : Bool := false
  /-- R216: an FLR is in progress -/
  flr : Bool := false
  /-- R242: MSI-X table -/
  msix : Tbl MsixEntry := []
  /-- R225: Max_Payload_Size code -/
  mps : Nat := 0
  /-- R225: Max_Read_Request_Size code -/
  mrrs : Nat := 2
  /-- R226: Completion Timeout Value -/
  cplTo : Nat := 0
  /-- R226: Completion Timeout Disable -/
  cplDis : Bool := false
  /-- R27: upper halves latched for this function's HI reads, by LO offset -/
  latch : Tbl Word := []
  /-- R197: other writable configuration words, by dword number -/
  cfg : Tbl Word := []
  deriving DecidableEq, Repr

/-- One HDM decoder (R212-R214). -/
structure Hdm where
  /-- R212: base -/
  base : Nat := 0
  /-- R212: size -/
  size : Nat := 0
  /-- R212: interleave ways code -/
  iw : Nat := 0
  /-- R212: interleave granularity code -/
  ig : Nat := 0
  /-- R212: DPA skip -/
  skip : Nat := 0
  /-- R212: Lock On Commit -/
  lock : Bool := false
  /-- R213: Committed -/
  committed : Bool := false
  /-- R213: Error Not Committed -/
  err : Bool := false
  deriving DecidableEq, Repr

/-- One AER log (R237, R238) of PF0. -/
structure Aer where
  /-- R237: uncorrectable error status bits -/
  unc : Nat := 0
  /-- R237: uncorrectable mask -/
  uncMask : Nat := 0x00400000
  /-- R237: uncorrectable severity -/
  uncSev : Nat := 0x00462030
  /-- R237: correctable error status bits -/
  cor : Nat := 0
  /-- R237: correctable mask -/
  corMask : Nat := 0x6000
  /-- R238: First Error Pointer -/
  first : Nat := 0
  /-- R238: header log -/
  hdr : Nat := 0
  /-- R238: the log holds a header -/
  hdrValid : Bool := false
  deriving DecidableEq, Repr

/-- The host port (R186-R247). -/
structure HostPort where
  /-- R190: the mode has been latched since PERST_N -/
  modeLatched : Bool := false
  /-- R246: CXL mode -/
  cxl : Bool := false
  /-- R246: flit mode -/
  flit : Bool := false
  /-- R246, 3 b: rate code -/
  rate : Nat := 0
  /-- R246, 5 b: trained width -/
  width : Nat := 0
  /-- R246, 5 b: active width -/
  active : Nat := 0
  /-- R246: lanes reversed -/
  reversed : Bool := false
  /-- R246: DL_Active -/
  up : Bool := false
  /-- R246, 2 b: LSTATE -/
  lstate : Nat := 0
  /-- R194: PME_TO_Ack has been sent (L2/L3 Ready) -/
  pmeAck : Bool := false
  /-- R189: CLKREQ_N driven low -/
  clkreq : Bool := true
  /-- R190: the partner refused the latched mode: the link stays in Detect until PERST_N -/
  noMode : Bool := false
  /-- R188, 16 b: physical lanes present and working at the last training -/
  lanes : Nat := 0
  /-- R192, 7 b: rates whose equalization results are kept, by rate code -/
  eq : Nat := 0
  /-- R193: Configuration RRS Software Visibility is set (log entry 114) -/
  rrsVis : Bool := false
  /-- R195: strides in a row whose traffic stayed below the capacity of the next narrower width -/
  quiet : Nat := 0
  /-- R195: bytes received and sent up to the last tick -/
  moved : Nat × Nat := (0, 0)
  /-- R225: last LTR message: snoop and no-snoop latency fields, with their requirement bits -/
  ltr : Nat × Nat := (0, 0)
  /-- R196: PME_Status of PF0 -/
  pme : Bool := false
  /-- R196: WAKE_N is asserted -/
  wake : Bool := false
  /-- R219: requests that wait in the VC0 receive buffer: number, posted, data credits -/
  rxBuf : List (Nat × Bool × Nat) := []
  /-- R240: functions, 0 for PF0 and n for VFn -/
  fn : Tbl Func := []
  /-- R205: VF Enable -/
  vfEnable : Bool := false
  /-- R205: NumVFs -/
  numVfs : Nat := 0
  /-- R205: VF Memory Space Enable -/
  vfMse : Bool := false
  /-- R205: ARI Capable Hierarchy -/
  ari : Bool := false
  /-- R205: System Page Size -/
  pageSize : Nat := 1
  /-- R209: Mem_Enable -/
  memEnable : Bool := false
  /-- R209: FCLK timestamp at which Mem_Enable was set -/
  memAt : Option Nat := none
  /-- R212: HDM Decoder Enable -/
  hdmEnable : Bool := false
  /-- R212: HDM decoders 0-7 -/
  hdm : Tbl Hdm := []
  /-- R208: DVSEC range 1 base -/
  range1 : Nat := 0
  /-- R203: size of PF0 BAR2/3, log2 of bytes, as taken when LEVEL left 0 -/
  bar2Log : Nat := 30
  /-- R88: host reads in progress -/
  reads : Tbl HostRead := []
  /-- R88: number of the next read -/
  nextRead : Nat := 0
  /-- R92: requests held at the port with their numbers, oldest first -/
  held : List (Nat × PortReq) := []
  /-- R150: number of the next host request -/
  nextReq : Nat := 0
  /-- R225: reads issued and not completed, by tag -/
  outReads : Tbl OutRead := []
  /-- R225: next tag of an issued read -/
  nextTag : Nat := 0
  /-- R243, 64 b: PCX_INTA_PEND -/
  intaPend : BitVec 64 := 0
  /-- R243, 64 b: PCX_INTA_EN -/
  intaEn : BitVec 64 := 0
  /-- R244: PF0 indices raised in an FCLK, with its timestamp -/
  intaNew : Nat × BitVec 64 := (0, 0)
  /-- R244: PCX_INTA_EN has changed, and the condition is evaluated in the next FCLK -/
  intaDue : Bool := false
  /-- R243: the last INTx message sent was Assert_INTA -/
  intaSent : Bool := false
  /-- R243: a message was sent within the last 16 FCLK -/
  intaPaced : Bool := false
  /-- R197, 16 b: error bits of PF0's Status -/
  status : Nat := 0
  /-- R198, 4 b: error bits of PF0's Device Status -/
  devStatus : Nat := 0
  /-- R237: AER of PF0 -/
  aer : Aer := {}
  /-- R239: CXL RAS uncorrectable error status bits -/
  ras : Nat := 0
  /-- R245, 64 b: window write bytes received -/
  rxWr : Nat := 0
  /-- R245, 64 b: window read bytes returned -/
  rxRd : Nat := 0
  /-- R245, 64 b: bytes written into host memory -/
  txWr : Nat := 0
  /-- R245, 64 b: bytes read from host memory -/
  txRd : Nat := 0
  /-- R245, 32 b: Unsupported Requests -/
  ur : Nat := 0
  /-- R245, 32 b: poisoned completions and MemData sent -/
  poisonTx : Nat := 0
  /-- R245, 32 b: poisoned requests and completions received -/
  poisonRx : Nat := 0
  /-- R245, 32 b: reads timed out -/
  cplTimeout : Nat := 0
  /-- R245, 32 b: unexpected completions -/
  unexp : Nat := 0
  /-- R245, 32 b: register accesses of an unsupported form -/
  sizeErr : Nat := 0
  /-- R245, 32 b: MSI-X messages sent -/
  msiSent : Nat := 0
  /-- R245, 32 b: INTx messages sent -/
  intxMsg : Nat := 0
  /-- R245, 32 b: transitions out of DL_Active -/
  linkDown : Nat := 0
  /-- R245, 32 b: malformed TLPs -/
  malformed : Nat := 0
  /-- R23: host port fenced -/
  fenced : Bool := false
  deriving DecidableEq, Repr

end Sys2Proof.Machine
end

