-- ==== Sys2Proof/Machine/TypesService.lean ====
section
/-! DEFINITION. The plain data of the fault blocks, log and snapshot, the interrupt controller and Whistle, the journal, the kennel and fuses, power and reset, sled positions, and telemetry. -/

namespace Sys2Proof.Machine

open Sys2Proof

/-- The kind of a fault source (R383). -/
inductive FaultKind where
  | info | corrected | error | fatal
  deriving DecidableEq, Repr

/-- One history entry of a fault block (R389). -/
structure HistEntry where
  /-- R389: timestamp -/
  time : Nat
  /-- R389: source -/
  src : Nat
  /-- R389: FORCED -/
  forced : Bool
  /-- R389: kind -/
  kind : FaultKind
  /-- R389, 32 b: detail -/
  detail : Nat
  deriving DecidableEq, Repr

/-- One source of a fault block (R383-R386). -/
structure FaultSrc where
  /-- R383, 32 b: events -/
  count : Nat := 0
  /-- R386, 8 b: bucket level L -/
  level : Nat := 0
  /-- R386: the stride up to whose tick the leaks have been taken, plus 1 -/
  leakAt : Nat := 0
  /-- R386: N, where CLASSIFY_SET changed it -/
  n : Option Nat := none
  /-- R386: W, where CLASSIFY_SET changed it -/
  w : Option Nat := none
  /-- R387: severe -/
  severe : Bool := false
  /-- R387: a retirement or row sparing that its severe state called for is under way -/
  sparing : Bool := false
  /-- R391: event not yet served by resident firmware -/
  event : Bool := false
  /-- R401: stride of its last log entry, plus 1 -/
  loggedAt : Nat := 0
  /-- R401, 16 b: events not logged since -/
  suppressed : Nat := 0
  deriving DecidableEq, Repr

/-- One fault block (R382-R410). -/
structure FaultBlock where
  /-- R383: sources 0-31 -/
  src : Tbl FaultSrc := []
  /-- R389: the last 8 events, by queue position -/
  hist : Tbl HistEntry := []
  /-- R409, 3 b: entry written next -/
  next : Nat := 0
  /-- R409: WRAPPED -/
  wrapped : Bool := false
  /-- R410: snapshot words 0-7 -/
  snap : Tbl Word := []
  /-- R404, 2 b: SNAP_STAMP -/
  stamp : Nat := 0
  deriving DecidableEq, Repr

/-- One fault-log entry (R401). -/
structure LogEntry where
  /-- R401, 64 b: SEQ -/
  seq : Nat
  /-- R401: TIME -/
  time : Nat
  /-- R401: BLOCK -/
  block : Nat
  /-- R401: SOURCE -/
  src : Nat
  /-- R401, 3 b: KIND -/
  kind : Nat
  /-- R401: FORCED -/
  forced : Bool
  /-- R401: SUPPRESSED -/
  suppressed : Nat
  /-- R401: INSTANCE, where VALID -/
  inst : Option Nat
  /-- R401, 64 b: DETAIL -/
  detail : Nat
  deriving DecidableEq, Repr

/-- The fault blocks, the log, the last-gasp latch and the snapshot (R382-R411, R558). -/
structure Faults where
  /-- R382: fault blocks 0x00-0x37 -/
  block : Tbl FaultBlock := []
  /-- R401: log entries held, oldest first, at most 4,096 -/
  log : List LogEntry := []
  /-- R401, 64 b: sequence of the next entry -/
  nextSeq : Nat := 0
  /-- R402: copies 0 and 1 good -/
  logGood : Bool × Bool := (true, true)
  /-- R402: the log controller works -/
  logCtl : Bool := true
  /-- R403: last-gasp latch: time, block, source, cause -/
  gasp : Option (Nat × Nat × Nat × Nat) := none
  /-- R391: an entry since the last vector 1 of PF0 asks for one -/
  forward : Bool := false
  /-- R391: stride in which PF0 vector 1 was last raised, plus 1 -/
  forwardAt : Nat := 0
  /-- R408: FORCE_LOCK -/
  forceLock : Bool := false
  /-- R481: FORCE_LOCK has been written since reset -/
  forceWritten : Bool := false
  /-- R408: ARMED -/
  armed : Bool := true
  /-- R408: PIN_EN -/
  pinEn : Bool := true
  /-- R408: OUT_EN -/
  outEn : Bool := true
  /-- R408: FAULT_EN -/
  faultEn : Bool := false
  /-- R408: FLT_SNAP_SEL BLOCK, SOURCE -/
  sel : Nat × Nat := (0, 0)
  /-- R408: ON_SEVERE -/
  onSevere : Bool := false
  /-- R408, 3 b: FLT_SNAP_CAUSE -/
  cause : Nat := 0
  /-- R406, 32 b: triggers while disarmed -/
  missed : Nat := 0
  /-- R407, 64 b: timestamp of the snapshot edge -/
  snapTime : Nat := 0
  /-- R407, 32 b: snapshots taken -/
  snaps : Nat := 0
  /-- R404, 3 b: causes of a snapshot whose edge is due -/
  due : Nat := 0
  /-- R7: LATE_WR bits of the register blocks, by block number (log entry 20) -/
  lateWr : Tbl Bool := []
  /-- R386: sources that became severe in the command being run, whose reaction is still to be taken: block, source and detail (the model's own field, log entry 6) -/
  react : List (Nat × Nat × Nat) := []
  deriving DecidableEq, Repr

/-- The state of an interrupt source (R415). -/
inductive SrcState where
  | idle | waiting | pending | inService
  deriving DecidableEq, Repr

/-- One internal interrupt source (R412-R422). -/
structure Source where
  /-- R430, 4 b: PRIORITY -/
  prio : Nat := 0
  /-- R430, 5 b: TARGET -/
  target : Nat := 0
  /-- R430, 5 b: GROUP -/
  group : Nat := 0
  /-- R430: ENABLE -/
  enable : Bool := false
  /-- R422, 8 b: EVENTS -/
  events : Nat := 0
  /-- R415: state -/
  state : SrcState := .idle
  /-- R431, 3 b: core in service -/
  core : Nat := 0
  /-- R415: raw level -/
  level : Bool := false
  deriving DecidableEq, Repr

/-- One musher core's port of the interrupt controller (R417-R420). -/
structure CorePort where
  /-- R431, 10 b: LAST_CLAIM -/
  last : Nat := 0
  /-- R420, 4 b: THRESHOLD -/
  threshold : Nat := 0
  /-- R418: WITHDRAWN -/
  withdrawn : Bool := false
  /-- R418: TAKEN -/
  taken : Bool := false
  /-- R418: WITHDRAWN was the later of the two to be set -/
  withdrawnLater : Bool := false
  deriving DecidableEq, Repr

/-- One coalescing group (R423). -/
structure CoGroup where
  /-- R423, 8 b: COUNT_TH -/
  countTh : Nat := 0
  /-- R423, 12 b: TIME_TH -/
  timeTh : Nat := 0
  /-- R423, 8 b: COUNT_NOW -/
  countNow : Nat := 0
  /-- R423: a round runs -/
  round : Bool := false
  /-- R423: ticks since the round began -/
  ticks : Nat := 0
  deriving DecidableEq, Repr

/-- The interrupt controller and the Whistle (R412-R433). -/
structure Icu where
  /-- R412: sources 0-1021 -/
  src : Tbl Source := []
  /-- R417: cores 0-4 -/
  core : Tbl CorePort := []
  /-- R423: groups 0-31 -/
  group : Tbl CoGroup := []
  /-- R421: global disable -/
  gdis : Bool := false
  /-- R419: BAD_COMPLETE -/
  badComplete : Bool := false
  /-- R430, 16 b: ICU_SWSRC -/
  swsrc : Nat := 0
  /-- R425: the interrupt controller is fenced (polling) -/
  fenced : Bool := false
  /-- R426: watched sources -/
  watched : List Nat := []
  /-- R427: WHISTLE_CAUSE source, where VALID -/
  whCause : Option Nat := none
  /-- R427, 64 b: WHISTLE_TIME -/
  whTime : Nat := 0
  /-- R430, 32 b: wakes -/
  wakes : Nat := 0
  /-- R429, 32 b: Doze entries aborted -/
  aborts : Nat := 0
  /-- R414, 48 b each: compare values of stride timers 0-3 -/
  timers : Tbl Nat := []
  deriving DecidableEq, Repr

/-- One journal copy (R435, R436, R440, R449). -/
structure JournalCopy where
  /-- R450: channel -/
  ch : Nat := 0
  /-- R436: serial number of the sled that holds it -/
  serial : Nat := 0
  /-- R450, 2 b: 0 unavailable, 1 available, 2 building -/
  state : Nat := 0
  /-- R450: the sled is not persistence-capable -/
  volatile : Bool := false
  /-- R441: checkpoint slot in use -/
  slot : Nat := 0
  /-- R436, R515: channel on which the copy is being rebuilt before its sled leaves -/
  next : Option Nat := none
  deriving DecidableEq, Repr

/-- A journal record's type (R438). -/
inductive RecKind where
  | desc | exc | seg | inst | fence | setting | operation | sled | commit | endRec | ckptMark
  deriving DecidableEq, Repr

/-- A journal record (R437). -/
structure JRecord where
  /-- R437, 64 b: SEQ -/
  seq : Nat
  /-- R438: TYPE -/
  kind : RecKind
  /-- R437: SUPERSEDED -/
  superseded : Bool := false
  /-- R438: BODY, 16 bytes -/
  body : List Byte
  deriving DecidableEq, Repr

/-- The journal engine and the power-loss sequence (R434-R451). -/
structure Journal where
  /-- R438, 64 b: next record sequence -/
  seq : Nat := 0
  /-- R441, 64 b: sequence covered by the last checkpoint -/
  ckptSeq : Nat := 0
  /-- R435: copies 0 and 1 -/
  copy : Tbl JournalCopy := []
  /-- R437, R441: the records written to the journal region since CKPT_SEQ, oldest first -/
  region : List JRecord := []
  /-- R441: the records of the newest checkpoint: TYPE and BODY -/
  ckpt : List (RecKind × List Byte) := []
  /-- R441: starting tick of the newest checkpoint -/
  ckptTick : Nat := 0
  /-- R441: the records of the checkpoint being written -/
  ckptNext : List (RecKind × List Byte) := []
  /-- R438: parameters of the last accepted command of each setting, by opcode -/
  settings : Tbl (List Byte) := []
  /-- R441: journal lines used, of the region -/
  fill : Nat := 0
  /-- R441: stride in which the last checkpoint began -/
  ckptStride : Nat := 0
  /-- R441: SEQ that the next record took at the starting tick of the checkpoint being written -/
  ckptStart : Nat := 0
  /-- R443, 16 b: sleds that have been sent SAVE and have not answered -/
  saves : Nat := 0
  /-- R450: COMPACTING -/
  compacting : Bool := false
  /-- R442: HOLD -/
  hold : Bool := false
  /-- R446: REPLAYING -/
  replaying : Bool := false
  /-- R446, 2 b: LAST_END -/
  lastEnd : Nat := 0
  /-- R443: an END record closes the journal: CLEAN, PERSIST -/
  ended : Option (Bool × Bool) := none
  /-- R443, 3 b: power-loss STEP -/
  step : Nat := 0
  /-- R443: CLEAN -/
  clean : Bool := false
  /-- R443, 16 b: channels whose drain and write-back are done -/
  doneCh : Nat := 0
  /-- R307, 16 b: SAVED -/
  saved : Nat := 0
  /-- R450: PL_BUDGET F_US, CHANNEL, SHORT -/
  budget : Nat × Nat × Bool := (0, 0, false)
  /-- R449, 64 b: records written -/
  records : Nat := 0
  /-- R449, 32 b: checkpoints completed -/
  ckpts : Nat := 0
  /-- R449, 32 b: changes held -/
  heldCount : Nat := 0
  /-- R449, 32 b: copy differences -/
  copyDiff : Nat := 0
  /-- R449, 32 b: segments refused at replay -/
  refused : Nat := 0
  deriving DecidableEq, Repr

/-- One tamper-log entry (R463). -/
structure TamperEntry where
  /-- R463, 64 b: TIME -/
  time : Nat
  /-- R463, 8 b: EPOCH -/
  epoch : Nat
  /-- R463, 8 b: CAUSE -/
  cause : Nat
  /-- R463, 16 b: DETAIL -/
  detail : Nat
  deriving DecidableEq, Repr

/-- A sealed record of the key store (R458). -/
structure SealedKey where
  /-- R458: KIND (true: key, false: erased) -/
  isKey : Bool
  /-- R458, 32 b: GEN -/
  gen : Nat
  /-- R458: generation of the key it seals -/
  keyGen : Nat
  /-- R458: generation of the KEK that sealed it -/
  kek : Nat
  deriving DecidableEq, Repr

/-- What a provisioning image holds that verifies (R474). -/
structure ProvImage where
  /-- R474 section 1: OWNER_HASH, words 4-15 -/
  owner : Option (List Nat) := none
  /-- R474 section 2: RELEASE_KEY, words 37-44 -/
  release : Option (List Nat) := none
  /-- R474 section 3: bits to program in word 3 [1:0] -/
  debug : Nat := 0
  /-- R474 section 4: TMP_N enable mask -/
  tamper : Option Nat := none
  /-- R474 section 5: bits to program in word 24 [3:0] -/
  revoke : Nat := 0
  /-- R474 section 6: the KEK it carries, byte 0 lowest -/
  kek : Option (BitVec 256) := none
  deriving DecidableEq, Repr

/-- The kennel (R452-R466) with its key store. -/
structure Kennel where
  /-- R483: KEK_VALID -/
  kekValid : Bool := false
  /-- R456: KEK_SOURCE (true: provisioned) -/
  kekProv : Bool := false
  /-- R453: generation of the KEK -/
  kek : Nat := 0
  /-- R453, R456, 256 b: the KEK, where a provisioning image gave it -/
  kekBits : BitVec 256 := 0
  /-- R323, R460, 512 b each: imported keys by number -/
  imported : Tbl (BitVec 512) := []
  /-- R453: tamper latch -/
  latch : Bool := false
  /-- R453, 16 b: tamper counter -/
  count : Nat := 0
  /-- R463: tamper log, by position 0-15 -/
  log : Tbl TamperEntry := []
  /-- R483, 4 b: NEXT -/
  next : Nat := 0
  /-- R483: WRAPPED -/
  wrapped : Bool := false
  /-- R453, 4 b: TMP_N enable mask -/
  tmpEn : Nat := 0
  /-- R453, 8 b: epoch -/
  epoch : Nat := 0
  /-- R453, 64 b: copy of the FCLK timestamp -/
  timeCopy : Nat := 0
  /-- R461, 7 b: active sources -/
  active : Nat := 0
  /-- R483: STATE_LOST -/
  stateLost : Bool := false
  /-- R483: VBAT_LOW -/
  vbatLow : Bool := false
  /-- R483, 13 b: VBAT in mV -/
  vbat : Nat := 0
  /-- R457: the kennel is unavailable -/
  lost : Bool := false
  /-- R483: DEBUG_OFF -/
  debugOff : Bool := false
  /-- R481: DEBUG_OFF has been written since reset -/
  debugWritten : Bool := false
  /-- R323: generation of the next key -/
  nextGen : Nat := 1
  /-- R458: deciding sealed record of each instance -/
  store : Tbl SealedKey := []
  /-- R482, 32 b each: public identity key words 0-23 -/
  idpub : Tbl Word := []
  /-- R462: tamper events to report at the next wake: cause and detail -/
  atWake : List (Nat × Nat) := []
  /-- R374: chunks of a provisioning image received -/
  provision : Nat := 0
  deriving DecidableEq, Repr

/-- The boot select record and the two image slots of the NOR (R467-R473, R380). -/
structure FwSlot where
  /-- R468: the slot holds an image that verifies, but for its rollback version and key -/
  good : Bool := false
  /-- R468: FW_VERSION -/
  version : Nat := 0
  /-- R468: ROLLBACK -/
  rollback : Nat := 0
  /-- R468: KEY_INDEX -/
  keyIndex : Nat := 0
  /-- R380: state of the slot as FW_STATUS reports it -/
  state : Nat := 0
  /-- R380: RESULT of its last verification -/
  result : Nat := 0
  deriving DecidableEq, Repr

/-- A firmware-update session (R381). -/
structure FwSession where
  /-- R381: slot being written (1 A, 2 B) -/
  slot : Nat
  /-- R380: SIZE -/
  size : Nat
  /-- R468: bytes of the image's header written -/
  header : Tbl Byte := []
  /-- R381: bytes written, as (start, end) ranges in ascending order -/
  written : List (Nat × Nat) := []
  /-- R380: the erase has completed -/
  erased : Bool := false
  /-- R381: a verification runs -/
  verifying : Bool := false
  deriving DecidableEq, Repr

/-- The board configuration file, held in the NOR (R467): what it declares. -/
structure Board where
  /-- R319: resources of instance 0 at the first start-up -/
  inst0 : Grant := {}
  /-- R133: hold-up time T_H in microseconds; 0 where none is declared -/
  holdup : Nat := 0
  /-- R198: Subsystem Vendor ID, Subsystem ID -/
  subsystem : Nat × Nat := (0x1F3B, 0)
  /-- R435: channels of journal copies 0 and 1 -/
  journal : Option Nat × Option Nat := (none, none)
  /-- R250: ceiling of each channel's rate -/
  ceiling : Tbl Nat := []
  /-- R259: NRZ preset of each channel -/
  preset : Tbl Nat := []
  /-- R547: SMBus target address -/
  smbus : Nat := 0x64
  /-- R547: UART speed in baud -/
  baud : Nat := 115200
  deriving DecidableEq, Repr

/-- Firmware, boot and the NOR (R22, R467-R473, R365). -/
structure Boot where
  /-- R26, 2 b: SLOT running -/
  slot : Nat := 0
  /-- R26: ROM_HANDLER -/
  rom : Bool := false
  /-- R470: slots A (1) and B (2) -/
  slots : Tbl FwSlot := [(1, { good := true, version := 0x01000000, state := 3 })]
  /-- R471: NEXT of the record in force, where a copy is valid -/
  next : Option Nat := none
  /-- R471, 32 b: higher SEQ of the two copies -/
  seq : Nat := 0
  /-- R467: size of the NOR in MiB -/
  norMiB : Nat := 64
  /-- R381: session open -/
  session : Option FwSession := none
  /-- R365: the diagnostic hold is armed -/
  hold : Bool := false
  /-- R365: start-up is stopped at the hold -/
  heldAt : Bool := false
  /-- R473: the quad-SPI pins are released -/
  qspiFree : Bool := false
  /-- R492: journal location record: channel and serial of each copy -/
  jloc : Tbl (Nat × Nat) := []
  /-- R467: the board configuration file -/
  board : Board := {}
  deriving DecidableEq, Repr

/-- A spare fuse word (R475, R479). -/
structure FuseSpare where
  /-- R483, 7 b: TARGET -/
  target : Nat := 0
  /-- R483: USED -/
  used : Bool := false
  /-- R483: ACTIVE -/
  active : Bool := false
  deriving DecidableEq, Repr

/-- The fuses (R475-R484). -/
structure Fuses where
  /-- R477, 32 b each: shadow words 0-127 -/
  shadow : Tbl Word := []
  /-- R475, 32 b each: the programmed words -/
  array : Tbl Word := []
  /-- R477, 128 b: marginal words -/
  marginal : BitVec 128 := 0
  /-- R475: spares 0-15 -/
  spare : Tbl FuseSpare := []
  /-- R483: SHADOW_VALID -/
  valid : Bool := false
  /-- R483: VERIFYING -/
  verifying : Bool := false
  /-- R478: the tick has made a re-verification due -/
  due : Bool := false
  /-- R484, 32 b: re-verifications completed -/
  verifies : Nat := 0
  /-- R484, 32 b: re-verifications with a difference -/
  diffs : Nat := 0
  /-- R483: last difference: word, unused only -/
  last : Option (Nat × Bool) := none
  deriving DecidableEq, Repr

/-- Power, reset and pins (R485-R509, R545-R553). -/
structure Power where
  /-- R508, 3 b: STATE -/
  state : Nat := 1
  /-- R499: Run state to return to -/
  prev : Nat := 1
  /-- R508, 3 b: WAKE_CAUSE -/
  wakeCause : Nat := 0
  /-- R501: thermal hold -/
  thermHold : Bool := false
  /-- R508, 4 b: TLM_RST_CAUSE -/
  rstCause : Nat := 1
  /-- R508, 12 b: TLM_BOOT_MS.MS -/
  bootMs : Nat := 0
  /-- R508: BOTH_SLOTS -/
  bothSlots : Bool := false
  /-- R508, 8 b: WARN_C -/
  warnC : Nat := 0x69
  /-- R508: WARN -/
  warn : Bool := false
  /-- R508: CRIT -/
  crit : Bool := false
  /-- R507, 32 b: Doze entries completed -/
  dozes : Nat := 0
  /-- R507, 32 b: Doze entries abandoned -/
  dozeAborts : Nat := 0
  /-- R507, 32 b: online self-test passes -/
  stCycles : Nat := 0
  /-- R488: held in power-on reset -/
  por : Bool := false
  /-- R443: held after the power-loss sequence -/
  held : Bool := false
  /-- R489: held until power-on reset (thermal trip, both PLLs) -/
  dead : Bool := false
  /-- R489: what holds it follows the power-loss sequence (thermal trip) -/
  tripDue : Bool := false
  /-- R217: a PERST_N fall waits for the end of the power-loss sequence -/
  perstDue : Bool := false
  /-- R394: standby PLL available -/
  pllSpare : Bool := true
  /-- R490: PERST_N is low -/
  perstLow : Bool := false
  /-- R490: start-up has passed step 1 -/
  started : Bool := false
  /-- R21: a unit of the base set is missing, and the bridge does not enumerate -/
  unfit : Bool := false
  /-- R491: stacks, cores and tenancy unit that passed step 3 of the last start-up -/
  passed : Nat × Nat × Bool := (3, 31, true)
  /-- R493: the restart keeps map state -/
  keepMaps : Bool := false
  /-- R491: every step of start-up is over but the first stride with map state loaded -/
  levelDue : Bool := false
  /-- R488: PWR_FAIL_N is low -/
  failLow : Bool := false
  /-- R499: host requests are held, from Doze to the first tick after the wake -/
  holdOver : Bool := false
  /-- R507: FCLK timestamp at which start-up began -/
  startAt : Nat := 0
  /-- R502: what waits for the wake to end: bit 0 PERST_N, bit 1 PWR_FAIL_N, bit 2 the thermal trip -/
  wakeThen : Nat := 0
  deriving DecidableEq, Repr

/-- A sled position's state (R511). -/
inductive SvcState where
  | empty | present | admitWait | admitting | admitted | removeWait | evacuating | poweringOff | ready | failed | lost
  deriving DecidableEq, Repr

/-- One sled position (R510-R525). -/
structure Service where
  /-- R511, 4 b: STATE -/
  state : SvcState := .empty
  /-- R524: PRESENT -/
  present : Bool := false
  /-- R524: ADMITTED -/
  admitted : Bool := false
  /-- R524, 8 b: LAST_REASON -/
  reason : Nat := 0
  /-- R517: attention LED lit after a refused removal -/
  attn : Bool := false
  /-- R512: state before the abort window -/
  before : SvcState := .empty
  /-- R512, R515: how far the sequence has come: 0 begun, 1 evacuation or SLED record under way, 2 SLED record with ADMITTED 0 under way, 3 that record in force, 9 ended by a fence -/
  phase : Nat := 0
  /-- R514: serial number of the admitted sled -/
  serial : Nat := 0
  /-- R514: capacity of the admitted sled in GiB -/
  capGib : Nat := 0
  /-- R514: reserve extents set aside -/
  reserve : Nat := 0
  /-- R438: reserve percent at the admission -/
  reservePct : Nat := 0
  /-- R397: lines lost at the fence, whose extents freeze (R399, R519) -/
  lostLines : List Nat := []
  /-- R523, 32 b: sleds inserted -/
  inserts : Nat := 0
  /-- R523, 32 b: orderly removals -/
  removals : Nat := 0
  /-- R523, 32 b: surprise removals -/
  surprise : Nat := 0
  /-- R523, 32 b: aborts -/
  aborts : Nat := 0
  /-- R523, 32 b: presses ignored -/
  presses : Nat := 0
  deriving DecidableEq, Repr

/-- Telemetry (R526-R537). -/
structure Telemetry where
  /-- R536: VALID -/
  valid : Bool := false
  /-- R529: every sensor has been sampled -/
  sensed : Bool := false
  /-- R529: every rail has been sampled -/
  railed : Bool := false
  /-- R536: FENCED -/
  fenced : Bool := false
  /-- R536: HOLD -/
  hold : Bool := false
  /-- R531: latched words of offsets 0x0010-0x012F, where a latch has been taken -/
  latched : Option (Tbl Word) := none
  /-- R527, 16 b each, in 1/16 degree: sensors 0-14, with VALID -/
  sensor : Tbl (Int × Bool) := []
  /-- R528, 20 b each: rails 0-6 in mW -/
  rail : Tbl Nat := []
  /-- R528: energy in pJ; TLM_ENERGY shows its mJ -/
  energy : Nat := 0
  /-- R530, 64 b -/
  hostRd : Nat := 0
  /-- R530, 64 b -/
  hostWr : Nat := 0
  /-- R530, 64 b -/
  sledLines : Nat := 0
  /-- R530, 64 b -/
  nearLines : Nat := 0
  /-- R530, 64 b -/
  scanLines : Nat := 0
  deriving DecidableEq, Repr

/-- Clock and global registers (R10, R11, R16-R28). -/
structure Global where
  /-- R11, 64 b: FCLK timestamp (the stride counter is its quotient by 1,536, R29) -/
  time : Nat := 0
  /-- R31: the plan of the current stride is sealed -/
  sealedNow : Bool := false
  /-- R31: the glide of the current stride has ended -/
  glideDone : Bool := false
  /-- R26, 3 b: LEVEL -/
  level : Nat := 0
  /-- R26, 8 b: BASE_CAUSE -/
  baseCause : Nat := 0
  /-- R26: the kennel reported a tamper zeroisation since power-on reset -/
  tampered : Bool := false
  /-- R28: fenced channels, bit n -/
  chFenced : Nat := 0
  /-- R28: fenced musher cores, bit k -/
  coreFenced : Nat := 0
  /-- R16: active musher cores, bit k -/
  coreActive : Nat := 0xF
  /-- R28: fenced stacks, bit s -/
  stackFenced : Nat := 0
  /-- R28: MUSHER_SPARE -/
  coreSpare : Bool := false
  /-- R28: pseudo-channel spares of stacks 0 and 1 in service -/
  hbmSpare : Nat × Nat := (0, 0)
  /-- R16: pseudo-channels fenced without a spare, by stack × 64 + number -/
  pcFenced : List Nat := []
  /-- R16: pseudo-channels fenced whose place a spare has taken, by stack × 64 + number -/
  pcSpared : List Nat := []
  /-- R18: pseudo-channels that a fault of theirs fenced, by stack × 64 + number -/
  pcFailed : List Nat := []
  /-- R16: rows that a spare row of their array has taken the place of: fault block, HBM or SRAM, array -/
  rows : List (Nat × Bool × Nat) := []
  /-- R28, 6 b: veto mask -/
  veto : Nat := 0
  /-- R25: scratch -/
  scratch : Word := 0
  /-- R40: shares of classes 4, 5 and 6 -/
  shares : Nat × Nat × Nat := (16, 8, 4)
  /-- R62, 16 b: STR_OVERRUN -/
  overrun : Nat := 0
  /-- R62: channels whose overrun fell in the current FCLK, bit n -/
  overrunNow : Nat := 0
  /-- R54: the next place in the order of admission -/
  nextAdmit : Nat := 0
  /-- R37: number of the next unit of work -/
  nextUnit : Nat := 0
  /-- R23: host lanes lost other than lane 0 -/
  hostLanesLost : Bool := false
  /-- R23: sideband functions fenced: SMBus, UART, JTAG -/
  sideFenced : Nat := 0
  /-- R23: crossbar ports fenced, bit 0-3 for blocks 0x20-0x23 -/
  portFenced : Nat := 0
  deriving DecidableEq, Repr

end Sys2Proof.Machine
end

