-- ==== Sys2Proof/Syntax.lean ====
section
/-! DEFINITION. The commands of the bridge: one constructor for each row of the table of operations and events; those
with operands come before most of those without. -/

namespace Sys2Proof

/-- What the host link partner's training sets offer (R187, R192). -/
structure PartnerSets where
  /-- R187: Flit mode -/
  flit : Bool
  /-- R192: equalization bypass to the highest rate -/
  bypass : Bool
  deriving DecidableEq, Repr

/-- The data of a register write, and its EP bit (R5, R237). -/
structure RegData where
  /-- R5: the value written -/
  value : Nat
  /-- R237: the request is poisoned -/
  ep : Bool
  deriving DecidableEq, Repr

/-- What one lane receives in place of flits: a set's code groups, or a marker's bytes (R256, R258). -/
structure LaneSet where
  /-- R256: the lane it came on -/
  lane : Fin 5
  /-- R256, R258: its code groups or bytes, in order -/
  symbols : List Nat
  deriving DecidableEq, Repr

/-- A command: an operation on the bridge, or an event at it. -/
inductive Instr where
  /-- R37. A unit of work reaches a channel scheduler and joins its class queue. -/
  | workUnitArrival (n : Fin 16) (send : Bool)
  /-- R44. The scheduler makes its one admission decision of the FCLK, offering eligible units in the order of the steps. -/
  | admissionDecision (n : Fin 16)
  /-- R47. A yellow unit still waiting at the fourth tick after its arrival is treated as green. -/
  | yellowAgeing (n : Fin 16)
  /-- R51. A started unit still running past FCLK 127 of the next stride is recorded as an overrun. -/
  | schedulerOverrun (n : Fin 16) (uid : Nat)
  /-- R51. An overrun that lasts longer than the grace period makes the link layer take the link down. -/
  | overrunGraceExpiry (n : Fin 16)
  /-- R91. A unit's last slot passes at its location: a drain's entry is freed, a write-back line lands, and a copy line lands. -/
  | unitComplete (n : Fin 16) (uid : Nat)
  /-- R91. The location channel's report that a remote link part has completed reaches the resolving channel. -/
  | remoteCompletionReport (n : Fin 16) (uid : Nat)
  /-- R57. The scrubber issues a class 6 scrub read and schedules the write-back of any corrected line. -/
  | scrubReadStart (n : Fin 16) (first lines : Nat)
  /-- R503. An online self-test step runs within class 6, and a failure becomes an event of the named source. -/
  | onlineSelfTestStep (n : Fin 16) (window : Bool) (out inb eng : Nat) (failed : Option (Nat × Nat)) (last : Bool)
  /-- R66. A host memory read to a window is resolved through instance, window, DLA, extent map, remap and directory, and scheduled at its location. -/
  | windowMemoryRead (fn : Fin 256) (tag addr len : Nat)
  /-- R88. A host posted write to a window is resolved and entered into the write-combining buffer of its resolving channel, or of both for a mirror. -/
  | windowMemoryWrite (fn : Fin 256) (addr : Nat) (data : List Byte) (be : List Bool) (ep : Bool)
  /-- R90. Line data returns from the near tier and is decrypted, merged with the read's snapshot, and sent to the requester. -/
  | readDataReturn (n : Fin 16) (uid idx : Nat) (check : LineCheck)
  /-- R193. A configuration read is served, or completes with Configuration Request Retry Status while LEVEL is 0 or an FLR runs. -/
  | configRead (fn : Fin 256) (tag dword : Nat)
  /-- R218. A configuration write to a field without behaviour of its own is stored or discarded as the field defines. -/
  | configWrite (fn : Fin 256) (tag dword value : Nat) (be : Fin 16)
  /-- R216. An FLR takes effect: the function's non-posted requests lose their completions, and its mailbox, rings, semaphores and scans are reset. -/
  | functionLevelReset (fn : Fin 256)
  /-- R216. The function's internal reset completes within 4 strides, and it leaves retry status. -/
  | flrComplete (fn : Fin 256)
  /-- R205. A write of VF Enable creates the VFs, or disables them with the effects of a VF reset. -/
  | vfEnableChange (on : Bool)
  /-- R209. A write of Mem_Enable makes CXL.mem requests served or unbacked from the next FCLK. -/
  | memEnableWrite (on : Bool)
  /-- R213. A commit of an HDM decoder is checked and takes effect at the next tick, or sets Error Not Committed. -/
  | hdmDecoderCommit (dec : Fin 8) (base size iw ig skip : Nat) (lock : Bool)
  /-- R196. A write of PowerState moves the function between D0 and D3hot, and a write of D1 or D2 is discarded. -/
  | powerStateWrite (fn : Fin 256) (code : Fin 4)
  /-- R31. The FCLK edge at each multiple of 1,536 opens a new stride: the previous stride's books close, the counter advances, and the planning of the new stride begins. -/
  | strideTick
  /-- R244. A change of PF0's MSI-X Enable moves pending bits between the PBA and PCX_INTA_PEND. -/
  | msixEnableChange (fn : Fin 256) (on : Bool)
  /-- R244. Setting Interrupt Disable deasserts INTA while keeping the pending bits. -/
  | interruptDisableWrite (on : Bool)
  /-- R242. A change of Bus Master Enable stops the bridge's own requests or releases MSI-X messages held in the PBA. -/
  | busMasterEnableWrite (fn : Fin 256) (on : Bool)
  /-- R218. A Memory Read Lock, I/O request, AtomicOp, or request to no function or BAR is answered or discarded as Unsupported Request. -/
  | unsupportedRequest (fn : Fin 256) (posted : Bool) (tag : Nat)
  /-- R218. A Vendor-Defined Type 1 message is discarded, and a Type 0 message is Unsupported Request. -/
  | vendorDefinedMessage (type1 : Bool)
  /-- R100. A CXL.mem MemRd is resolved and answered with one MemData per line. -/
  | cxlMemrd (tag hpa : Nat)
  /-- R233. A CXL.mem MemRdData is served as a read. -/
  | cxlMemrddata (tag hpa : Nat)
  /-- R100. A CXL.mem MemWr is entered into every buffer it names and acknowledged with Cmp. -/
  | cxlMemwr (tag hpa : Nat) (data : Line) (poison : Bool)
  /-- R234. A CXL.mem MemWrPtl is entered by its byte enables and acknowledged with Cmp. -/
  | cxlMemwrptl (tag hpa : Nat) (data : Line) (be : LineMask) (poison : Bool)
  /-- R233. A MemSpecRd is accepted and ignored, with no response. -/
  | cxlMemspecrd (hpa : Nat)
  /-- R233. Any other M2S opcode is logged in the CXL RAS capability as a protocol error and discarded. -/
  | cxlM2sOther (op : Nat)
  /-- R227. A completion to a read the bridge issued arrives and is used, or the read fails on UR, CA or EP. -/
  | hostCompletionReceive (tag status : Nat) (data : List Byte) (ep : Bool)
  /-- R226. A read the bridge issued receives no completion within the timeout in force and fails. -/
  | completionTimeout (tag : Nat)
  /-- R190. The host link trains, latching CXL or PCI Express mode at the first training after PERST_N. -/
  | hostLinkTraining (cxl : Bool) (sets : PartnerSets) (rate width lanes : Nat) (reversed : Bool)
  /-- R195. The link partner requests an L0p width change, and the bridge accepts it. -/
  | l0pWidthRequest (width : Nat)
  /-- R5. A write to a register without a row of its own is stored, cleared or discarded as its access code states. -/
  | registerWrite (who : Fin 261) (addr : Nat) (data : RegData) (size : Nat)
  /-- R27. A read of the LO half of a 64-bit value latches its upper half for the reading function's HI read. -/
  | loRegisterRead (who : Fin 261) (addr size : Nat)
  /-- R65. A write to a block's counter-clear register clears the selected counters. -/
  | counterClear (addr value : Nat)
  /-- R104. CLR_LAST clears the valid flag of the last uncorrectable line record. -/
  | eccLastClear (n : Fin 16)
  /-- R104. CLR_HIGH sets HIGH_WATER to the current occupancy. -/
  | wcbHighWaterReset (n : Fin 16)
  /-- R39. At FCLK 32 the stride's plan is sealed, reservations of classes with no work are returned, and every class becomes eligible. -/
  | planSeal
  /-- R330. A write to MBX_DB posts each named FREE slot, or sets DB_ERR for a slot that is not FREE. -/
  | mailboxDoorbell (fn : Fin 256) (mask : Nat)
  /-- R330. A write to a command buffer is stored while its slot is FREE, and otherwise discarded with WR_ERR. -/
  | mailboxCommandWrite (fn : Fin 256) (slot : Fin 8) (word value : Nat)
  /-- R330. Writing 1 to a RESP bit of MBX_DONE frees a DONE slot. -/
  | mailboxDoneAck (fn : Fin 256) (mask : Nat)
  /-- R331. Writing 1 to MBX_DONE.NOTIFY acknowledges a notification and lets the next waiting one be written. -/
  | notifyAck (fn : Fin 256)
  /-- R332. Setting an interrupt enable while a matching DONE bit is set raises vector 0 once. -/
  | mailboxCtrlWrite (fn : Fin 256) (value : Nat)
  /-- R145. A write of a new TAIL to a ring doorbell is accepted, or discarded with DB_ERR when it exceeds the ring size. -/
  | jobDoorbell (fn : Fin 256) (ring : Fin 8) (tail : Nat)
  /-- R145. Setting ENABLE from 0 to 1 resets HEAD and TAIL and starts fetching from the ring. -/
  | ringEnable (fn : Fin 256) (ring : Fin 8)
  /-- R181. Clearing ENABLE stops fetching, while accepted jobs complete normally. -/
  | ringDisable (fn : Fin 256) (ring : Fin 8)
  /-- R336. A read of SEMs_ACQ acquires a free semaphore, regrants it to its holder, or reports the holder or NO_ACCESS. -/
  | semAcquireRead (fn : Fin 256) (sem : Fin 64)
  /-- R336. A write of 1 to SEMs_REL by the holder frees the semaphore, and from anyone else it is discarded and counted. -/
  | semReleaseWrite (fn : Fin 256) (sem : Fin 64)
  /-- R390. A write of 1 to a source's force bit causes one event of that source in the next FCLK, with FORCED set. -/
  | faultForce (block : Nat) (src : Fin 32)
  /-- R273. INJ_ONE inverts the next PRBS bit sent on a lane sending PRBS. -/
  | prbsInjectOne (n : Fin 16) (lane : Fin 5)
  /-- R243. Writing 1 to a PCX_INTA_PEND bit clears it, and the INTA condition is re-evaluated. -/
  | intaPendingClear (mask : BitVec 64)
  /-- R244. A write of PCX_INTA_EN changes the enabled causes, and the condition is evaluated in the next FCLK. -/
  | intaEnableWrite (mask : BitVec 64)
  /-- R242. A write to the MSI-X table, where unmasking an entry whose PBA bit is set sends its message. -/
  | msixTableWrite (fn : Fin 256) (entry : Fin 64) (dword : Fin 4) (value : Nat)
  /-- R417. A core's read of its claim register takes the highest-priority deliverable source, or returns 1022 or 1023. -/
  | icuClaim (core : Fin 5)
  /-- R419. A core's write of a held source number completes it and re-samples its level. -/
  | icuComplete (core : Fin 5) (src : Nat)
  /-- R420. A core sets its priority threshold, which applies from the next FCLK. -/
  | icuThresholdWrite (core : Fin 5) (value : Nat)
  /-- R421. A core sets or clears global disable, holding or releasing every interrupt line. -/
  | icuGlobalDisableWrite (on : Bool)
  /-- R415. An internal source's level rises or falls, moving the source between IDLE, WAITING and PENDING or withdrawing it. -/
  | icuSourceLevelChange (src : Nat) (high : Bool)
  /-- R56. At FCLK 128 every unit of the previous stride has finished, so reserved source granules are freed and tenancy changes complete. -/
  | glideEnd
  /-- R423. At the TIME_TH-th tick of a round, the group fires. -/
  | icuGroupTimeExpiry (group : Fin 32)
  /-- R414. A firmware stride timer's source rises when the stride counter reaches its compare value. -/
  | strideTimerExpiry (timer : Fin 4)
  /-- R364. Citan 0x0101 reports identity, interface revision, service level and caller. -/
  | identify (fn : Fin 256) (slot : Fin 8)
  /-- R364. Citan 0x0102 returns its parameter bytes unchanged. -/
  | echo (fn : Fin 256) (slot : Fin 8)
  /-- R364. Citan 0x0103 reports fences, spares, vetoes and a summary of each channel. -/
  | serviceReport (fn : Fin 256) (slot : Fin 8)
  /-- R364. Citan 0x0104 reports the state of an asynchronous operation by TAG. -/
  | opStatus (fn : Fin 256) (slot : Fin 8)
  /-- R365. Citan 0x0105 runs a PRBS TEST of one fenced or empty channel's lanes at a chosen rate. -/
  | laneTest (fn : Fin 256) (slot : Fin 8)
  /-- R271. At the end of DURATION_MS the test ends, the lanes idle and return to DETECT, and the results are reported. -/
  | laneTestDurationExpiry (n : Fin 16) (counts : List (Nat × Nat))
  /-- R504. Citan 0x0106 starts an offline self-test of a fenced unit as an asynchronous operation. -/
  | selfTest (fn : Fin 256) (slot : Fin 8)
  /-- R505. An offline self-test ends at its first failure, at its bound or on passing, and a failure raises a FATAL event. -/
  | selfTestEnd (kind unit sub result : Nat)
  /-- R365. Citan 0x0107 arms or disarms the diagnostic hold at the next start-up. -/
  | diagHold (fn : Fin 256) (slot : Fin 8)
  /-- R365. Citan 0x0108 disarms the hold and resumes start-up from where it stopped. -/
  | diagRelease (fn : Fin 256) (slot : Fin 8)
  /-- R364. Citan 0x0109 reports the tamper latch, counter and log. -/
  | tamperReport (fn : Fin 256) (slot : Fin 8)
  /-- R465. Citan 0x010A checks AUTH and clears the tamper latch. -/
  | tamperRelease (fn : Fin 256) (slot : Fin 8) (entropy : Bool)
  /-- R321. Citan 0x0201 checks, reserves, keys and journals a new instance, which goes LIVE at a tick. -/
  | instCreate (fn : Fin 256) (slot : Fin 8) (entropy : Bool)
  /-- R340. Citan 0x0202 starts the teardown of an instance. -/
  | instTeardown (fn : Fin 256) (slot : Fin 8)
  /-- R340. Once the instance's earlier accesses and entries have drained, its key is zeroised, its resources are released, and it enters NONE. -/
  | teardownDrained (inst : Fin 256)
  /-- R366. Citan 0x0203 reports an instance's state, resources and Leash profile. -/
  | instQuery (fn : Fin 256) (slot : Fin 8)
  /-- R366. Citan 0x0204 returns segment translation entries. -/
  | segRead (fn : Fin 256) (slot : Fin 8)
  /-- R368. Citan 0x0205 sets instance 0's resources for the next PERST_N. -/
  | inst0Set (fn : Fin 256) (slot : Fin 8)
  /-- R92. A write that waited for a free write-combining entry is entered when an entry frees, releasing the requests held behind it. -/
  | wcbEntryWaitEnd
  /-- R368. Citan 0x0206 sets the VF window limit for the next PERST_N. -/
  | vfWindowLimit (fn : Fin 256) (slot : Fin 8)
  /-- R327. Citan 0x0207 changes segment pre-colours at a tick. -/
  | precolourSet (fn : Fin 256) (slot : Fin 8)
  /-- R335. Citan 0x0208 sets a semaphore's access set at a tick. -/
  | semAccess (fn : Fin 256) (slot : Fin 8)
  /-- R337. Citan 0x0209 force-releases semaphores with BROKEN. -/
  | semRelease (fn : Fin 256) (slot : Fin 8)
  /-- R370. Citan 0x0301 changes the placement hints of an extent range at one tick. -/
  | hintSet (fn : Fin 256) (slot : Fin 8)
  /-- R369. Citan 0x0302 reports the placement of an extent range. -/
  | placeQuery (fn : Fin 256) (slot : Fin 8)
  /-- R132. Citan 0x0303 sets Herder tunables from the next tick. -/
  | tuneSet (fn : Fin 256) (slot : Fin 8)
  /-- R40. Citan 0x0304 sets the scheduler minimum shares from the next tick. -/
  | sharesSet (fn : Fin 256) (slot : Fin 8)
  /-- R20. Citan 0x0305 sets the sled-capacity reserve percentage for later admissions. -/
  | reserveSet (fn : Fin 256) (slot : Fin 8)
  /-- R133. Citan 0x0306 enables or disables persist mode. -/
  | persistSet (fn : Fin 256) (slot : Fin 8)
  /-- R125. Citan 0x0307 checks capacity and starts evacuating a channel's sled. -/
  | evacuate (fn : Fin 256) (slot : Fin 8)
  /-- R370. Citan 0x0308 stops an evacuation after the extents in progress fold. -/
  | evacStop (fn : Fin 256) (slot : Fin 8)
  /-- R155. Citan 0x0401 cancels one job at t_c, dropping its ungranted pieces. -/
  | jobCancel (fn : Fin 256) (slot : Fin 8)
  /-- R371. Citan 0x0402 cancels every accepted job of a ring at one t_c. -/
  | ringCancel (fn : Fin 256) (slot : Fin 8)
  /-- R18. Citan 0x0501 sets the sparing veto mask. -/
  | vetoSet (fn : Fin 256) (slot : Fin 8)
  /-- R373. Citan 0x0502 fences a unit by command. -/
  | unitFence (fn : Fin 256) (slot : Fin 8)
  /-- R397. Once a command fence has drained the channel's buffers, the channel is fenced. -/
  | fenceDrainDone (n : Fin 16)
  /-- R399. Citan 0x0503 restores a fenced unit, using a spare where one is free. -/
  | unitUnfence (fn : Fin 256) (slot : Fin 8)
  /-- R401. Citan 0x0504 reads fault-log entries from a sequence number. -/
  | logRead (fn : Fin 256) (slot : Fin 8)
  /-- R386. Citan 0x0505 sets a source's leaky-bucket N and W from the next tick. -/
  | classifySet (fn : Fin 256) (slot : Fin 8)
  /-- R194. PME_Turn_Off is received and answered with PME_TO_Ack on the way to L2/L3 Ready. -/
  | pmeTurnOff
  /-- R387. Citan 0x0506 clears the severe state and bucket of sources and leaves fences in place. -/
  | faultClear (fn : Fin 256) (slot : Fin 8)
  /-- R324. Citan 0x0601 replaces an instance's key in every engine at one tick. -/
  | keyChange (fn : Fin 256) (slot : Fin 8) (entropy : Bool)
  /-- R479. Citan 0x0602 programs a spare fuse word for a marginal word. -/
  | fuseSpare (fn : Fin 256) (slot : Fin 8) (bad : Nat)
  /-- R474. Citan 0x0603 takes a chunk of a provisioning image, and verifies and applies the image on the last chunk. -/
  | provision (fn : Fin 256) (slot : Fin 8) (good : Bool) (img : Machine.ProvImage)
  /-- R376. Citan 0x0701 reports a sled position's pins, states and identity. -/
  | sledStatus (fn : Fin 256) (slot : Fin 8)
  /-- R515. Citan 0x0702 starts an orderly removal, as a button press does. -/
  | sledRemove (fn : Fin 256) (slot : Fin 8)
  /-- R516. Citan 0x0703 aborts a removal in REMOVE_WAIT or EVACUATING. -/
  | sledAbort (fn : Fin 256) (slot : Fin 8)
  /-- R512. Citan 0x0704 admits a present sled, or builds a missing journal copy on an admitted one. -/
  | sledAdmit (fn : Fin 256) (slot : Fin 8)
  /-- R250. Citan 0x0705 sets the link rate limit, and with NOW starts running speed changes. -/
  | linkRateLimit (fn : Fin 256) (slot : Fin 8)
  /-- R377. Citan 0x0706 sets the VC count, link idle enable and grace period of channels. -/
  | linkParams (fn : Fin 256) (slot : Fin 8)
  /-- R377. Citan 0x0707 starts training of channels in DOWN. -/
  | linkTrain (fn : Fin 256) (slot : Fin 8)
  /-- R520. Citan 0x0708 rebuilds the copies of degraded mirrored segments on the channel's admitted sled. -/
  | mirrorRestore (fn : Fin 256) (slot : Fin 8)
  /-- R520. At the tick after a segment's last extent is copied, ON_ALT clears for it. -/
  | mirrorSegmentRestored (n : Fin 16) (inst : Fin 256) (idx : Nat)
  /-- R378. Citan 0x0801 selects Run, Run with Idle gating, or a request to enter Doze. -/
  | powerSet (fn : Fin 256) (slot : Fin 8)
  /-- R426. Citan 0x0802 sets the sources the Whistle watches in Doze. -/
  | whistleSet (fn : Fin 256) (slot : Fin 8)
  /-- R379. Citan 0x0901 reports temperatures, power and energy. -/
  | tlmSnapshot (fn : Fin 256) (slot : Fin 8)
  /-- R379. Citan 0x0902 reports an instance's traffic and placement totals. -/
  | instStats (fn : Fin 256) (slot : Fin 8)
  /-- R379. Citan 0x0903 sets the temperature warning threshold. -/
  | thermalSet (fn : Fin 256) (slot : Fin 8)
  /-- R381. Citan 0x0A01 opens a firmware-update session and erases the other slot. -/
  | fwBegin (fn : Fin 256) (slot : Fin 8)
  /-- R381. Citan 0x0A02 writes image bytes once each. -/
  | fwData (fn : Fin 256) (slot : Fin 8)
  /-- R215. A hot reset resets configuration space, HDM decoders, mailboxes, rings, scans and semaphores while keeping firmware and instances. -/
  | hotReset
  /-- R469. Citan 0x0A03 verifies the written slot and closes the session. -/
  | fwVerify (fn : Fin 256) (slot : Fin 8)
  /-- R470. Citan 0x0A04 selects a verified slot for the next start-up. -/
  | fwActivate (fn : Fin 256) (slot : Fin 8)
  /-- R472. Citan 0x0A05 raises the fused rollback counter. -/
  | rollbackCommit (fn : Fin 256) (slot : Fin 8)
  /-- R380. Citan 0x0A06 reports the firmware slots, versions and session. -/
  | fwStatus (fn : Fin 256) (slot : Fin 8)
  /-- R358. A Citan command that passes its bound, or whose core fails, completes with TIMEOUT. -/
  | commandTimeout (fn : Fin 256) (slot : Fin 8)
  /-- R211. The CXL mailbox command Get Log returns the Command Effects Log. -/
  | cxlGetLog (payload : List Byte)
  /-- R211. The CXL mailbox command Get Event Records returns General Media and Memory Module events. -/
  | cxlGetEventRecords (payload : List Byte)
  /-- R211. The CXL mailbox command Clear Event Records clears event records. -/
  | cxlClearEventRecords (payload : List Byte)
  /-- R211. The CXL mailbox command Set Event Interrupt Policy sets the policy. -/
  | cxlSetEventIntPolicy (payload : List Byte)
  /-- R211. The CXL mailbox command Set Timestamp sets host time without touching GLB_TIME. -/
  | cxlSetTimestamp (payload : List Byte)
  /-- R211. Any other CXL mailbox command returns Unsupported. -/
  | cxlUnsupportedCommand (op : Nat)
  /-- R146. The fetcher visits a ring with work and issues the read of one descriptor. -/
  | jobFetch (fn : Fin 256) (ring : Fin 8)
  /-- R147. The descriptor read completes, HEAD advances, and the reads of the ring header, program and set table are issued, or FETCH_ERR is set. -/
  | descriptorReadComplete (id : Nat)
  /-- R148. With its blocks read, the job is checked and accepted, or it completes at once with INVALID_DESC or FETCH_ERROR. -/
  | jobCheck (id : Nat)
  /-- R149. A job held for a result ring in use proceeds once the earlier job's COMPLETION record is written. -/
  | resultRingHoldRelease (id : Nat)
  /-- R150. A FENCE_START job is handed to the Herder once every earlier posted write has been entered. -/
  | fenceStartRelease (id : Nat)
  /-- R153. The Herder places a job's next piece in its channel queue when the queue has room. -/
  | piecePlace (id : Nat)
  /-- R152. A channel binds the head piece of a queue to a free, unfenced lane, which reads, evaluates and writes records. -/
  | pieceGrant (n : Fin 16)
  /-- R154. A parked piece returns to its queue head when the ring has room for its next record. -/
  | pieceUnpark (n : Fin 16) (k : Nat)
  /-- R170. While it lacks room, the bridge re-reads a ring's CONSUMER at most once per stride. -/
  | consumerReread (id : Nat)
  /-- R215. The host link leaves DL_Active, with the effects of a hot reset and loss of unacknowledged CXL.mem writes. -/
  | hostLinkDown
  /-- R154. A piece ends with its records written and its status reported, and its partial aggregates are merged. -/
  | pieceEnd (n : Fin 16) (lane : Fin 5)
  /-- R113. The Herder starts copying a hot or pinned granule into a free frame. -/
  | promotionStart (gran frame : Nat)
  /-- R114. The Herder demotes a clean resident granule, writing a dirty one back first. -/
  | demotionStart (gran : Nat)
  /-- R115. The Herder starts moving a granule's home to a less loaded channel. -/
  | relocationStart (gran : Nat) (dst : Fin 16) (slot : Nat)
  /-- R108. The near-tier controller starts writing a resident granule's dirty lines back to its home. -/
  | writebackStart (gran : Nat)
  /-- R118. A copy unit's data reaches the destination, and its destination part is admitted in its set-aside slots. -/
  | copyDataArrive (n : Fin 16) (uid : Nat) (corrected uncorrectable : LineMask)
  /-- R123. A copy not started for a full exception bucket is retried when the bucket frees an entry. -/
  | excBucketRetry (gran : Nat) (dst : Fin 16) (slot : Nat)
  /-- R127. No needed granule remains on the sled, so the evacuation ends, HRD_EVAC clears and a Herder interrupt is raised. -/
  | evacuationComplete (n : Fin 16)
  /-- R446. With the journal links up, the newest checkpoint and the later commit groups are loaded and compared. -/
  | journalReplay (bad diffs : Nat) (refused : List Nat)
  /-- R443. A channel reports its power-loss drain and write-back done, its SAVE goes out, and after the last report the END record is written. -/
  | channelWritebackDone (n : Fin 16)
  /-- R307. A sled's SAVE_RSP is received, after which nothing further is sent to it. -/
  | saveRspReceive (n : Fin 16) (tag : Nat) (accepted : Bool)
  /-- R287. A flit is received and checked, and accepted, discarded as duplicate, or causes retry. Its block's symbols come in
  the parts R275 gives it: the header's two words, the slots in three groups of five, the CRC-64, and the code's parity where there is one. -/
  | flitReceive (n : Fin 16) (head₀ head₁ slots₀ slots₁ slots₂ crc parity : List Nat)
  /-- R284. An RDATA returns one line of a read, which is checked, decrypted and merged. -/
  | rdataReceive (n : Fin 16) (tag idx : Nat) (w : Codeword) (status : Fin 4)
  /-- R292. A CRED message updates a data VC's limits if it is newer. -/
  | credReceive (n : Fin 16) (vc : Fin 8) (hdr data : Nat)
  /-- R286. A CRED_DATA record updates a data VC's limits. -/
  | credDataReceive (n : Fin 16) (vc : Fin 8) (hdr data : Nat)
  /-- R294. An MCRED adds RETURNED to the management AVAIL. -/
  | mcredReceive (n : Fin 16) (returned : Nat)
  /-- R294. A sled's MSYNC_REQ is answered with MSYNC_RSP and the bridge's free management entries. -/
  | msyncReqReceive (n : Fin 16) (nonce : Nat)
  /-- R294. An MSYNC_RSP with the current NONCE sets AVAIL to FREE, and credited VC3 sending resumes. -/
  | msyncRspReceive (n : Fin 16) (nonce free : Nat)
  /-- R283. A sled's SREG_RSP answering a register read or write is received. -/
  | sregRspReceive (n : Fin 16) (tag data : Nat)
  /-- R285. A sled EVENT message enters the channel's fault block. -/
  | eventReceive (n : Fin 16) (code detail : Nat)
  /-- R195. After 64 strides of traffic below a narrower width's capacity, the bridge requests that width. -/
  | l0pNarrowRequest
  /-- R289. A RETRY_REQ starts a replay from its EXP_SEQ. -/
  | retryReqReceive (n : Fin 16) (exp : Nat)
  /-- R296. The sled's INIT_PARAM is received during initialisation. -/
  | initParamReceive (n : Fin 16) (resume : Bool) (vcs txSeq rxExp rev mgmt : Nat)
  /-- R296. The sled's INIT_IDENT is received, and the sled is checked and refused with LINK_RESET if it fails. -/
  | initIdentReceive (n : Fin 16) (second : Bool) (vendor product revision capGib : Nat) (persist restored selfRefresh : Bool) (saveMs serial : Nat)
  /-- R298. With INIT_DONE sent and received, the link goes UP, resumed or fresh, or via FLUSH. -/
  | initDoneReceive (n : Fin 16)
  /-- R300. A PM_RSP acceptance starts electrical idle entry. -/
  | pmRspReceive (n : Fin 16) (accept : Bool)
  /-- R299. A RATE_RSP acceptance stops SEQ flits and sends the lanes to RATE_SWITCH. -/
  | rateRspReceive (n : Fin 16) (accept : Bool)
  /-- R298. A LINK_RESET record takes the link down. -/
  | linkResetReceive (n : Fin 16) (reason : Nat)
  /-- R289. 1.5 µs without ACK progress starts a replay from the oldest flit, and a fourth such replay takes the link down. -/
  | replayTimerExpiry (n : Fin 16)
  /-- R287. Every 1.5 µs in retry, the receiver repeats its RETRY_REQ. -/
  | retryReqRepeat (n : Fin 16)
  /-- R292. At least every 4 µs, a data VC's limits are sent. -/
  | credSendTimer (n : Fin 16)
  /-- R294. After initialisation and at every 64th stride, a management-credit resynchronisation starts. -/
  | msyncStart (n : Fin 16)
  /-- R294. With no MSYNC_RSP in 10 µs, MSYNC_REQ is sent again, and the third failure takes the link down. -/
  | msyncTimeout (n : Fin 16)
  /-- R298. INIT lasting 100 µs takes the link down. -/
  | initTimeout (n : Fin 16)
  /-- R299. The bridge sends RATE_REQ to start a running speed change. -/
  | rateChangeStart (n : Fin 16)
  /-- R299. Lanes not ACTIVE 400 µs after RATE_RSP take the link down. -/
  | rateChangeTimeout (n : Fin 16)
  /-- R300. A quiet channel, in Doze entry or with idle enabled, sends PM_REQ. -/
  | idleRequest (n : Fin 16)
  /-- R302. The link goes down, C reads 0, and the grace period holds link state. -/
  | linkDown (n : Fin 16)
  /-- R303. 32 µs after link down, host reads are poisoned or moved to partners, and drains move to the grace store. -/
  | readHold (n : Fin 16)
  /-- R298. The grace period ends, or the store fills, and the link goes to FLUSH. -/
  | graceExpiry (n : Fin 16)
  /-- R306. The flush completes, and the channel's link source is declared severe for fencing. -/
  | flushComplete (n : Fin 16)
  /-- R194. With ASPM enabled and both directions idle for 8 µs, the link enters L1. -/
  | aspmL1Entry
  /-- R395. 30 µs after arrival, a held read of a mirrored segment takes the partner path. -/
  | holdLimitPartner (rid idx : Nat)
  /-- R395. 36 µs after arrival, any other held read completes with poison. -/
  | holdLimitPoison (rid idx : Nat)
  /-- R395. A drain offered 36 µs earlier and still held is sealed into the grace store. -/
  | drainHoldLimit (n : Fin 16) (ln : Nat)
  /-- R260. Firmware enables a powered channel, which sends offer sets and enters DETECT. -/
  | channelEnable (n : Fin 16)
  /-- R260. Two inbound lanes without LOS for 1 µs move DETECT to SYNC. -/
  | detectSignal (n : Fin 16)
  /-- R260. Offer sets from the sled advance SYNC and OFFER, where the rate and maps are chosen; a set's code groups are COM, its identifier and the rest. -/
  | offerSetReceive (n : Fin 16) (lane : Fin 5) (com id : Nat) (rest : List Nat)
  /-- R260. Matching confirm sets with LOOP_LOCKED move CONFIRM to RATE_SWITCH; a set's code groups are COM, its identifier, symbols 2 to 4 (R257) and the rest. -/
  | confirmSetReceive (n : Fin 16) (lane : Fin 5) (com id physLane chan rates : Nat) (rest : List Nat)
  /-- R260. A rate-switch notice from the sled is received. -/
  | rateSwitchNoticeReceive (n : Fin 16) (set : LaneSet)
  /-- R259. A PAM4 training frame is received, its tap requests applied, and equalization or fast-retrain progress counted. Its control
  field comes in parts: bits 19:0, OUT_MAP, IN_MAP, FRAME_CNT, bits 55:34 and CHK. -/
  | trainingFrameReceive (n : Fin 16) (lane : Fin 5) (low outMap inMap count high chk : Nat) (settled : Bool) (errs : Nat)
  /-- R260. An alignment set or marker fixes a lane's block boundary, and the lanes reach ACTIVE when all lanes are aligned and deskewed. -/
  | alignmentReceive (n : Fin 16) (mark : LaneSet) (skew : Nat) (ppm : Int)
  /-- R268. The idle-entry pattern is received, and the lanes hold idle. -/
  | idleEntryReceive (n : Fin 16)
  /-- R269. An exit burst from the partner is answered with the bridge's own burst. -/
  | exitBurstReceive (n : Fin 16)
  /-- R269. The bridge leaves electrical idle by sending the burst, lock run and alignment. -/
  | eidleExitStart (n : Fin 16)
  /-- R260. A mapped lane without alignment 1 µs after the burst fails and starts a fast retrain. -/
  | exitAlignmentTimeout (n : Fin 16) (lane : Fin 5)
  /-- R260. A training state's timeout fails the attempt, and the third failure enters DOWN. -/
  | trainingStateTimeout (n : Fin 16)
  /-- R262. A lane's loss-of-signal detector asserts or deasserts. -/
  | losChange (n : Fin 16) (lane : Fin 5) (on : Bool)
  /-- R262. A lane's loss-of-lock detector asserts or deasserts. -/
  | lolChange (n : Fin 16) (lane : Fin 5) (on : Bool)
  /-- R265. With 8 frames or 16 sets received on every new-map lane and alignment sent, data blocks resume. -/
  | fastRetrainDone (n : Fin 16)
  /-- R266. A fast retrain past its bound enters DETECT with failure 8. -/
  | fastRetrainTimeout (n : Fin 16)
  /-- R386. An event of a fault-block source is counted and classified and its reaction taken, and firmware logs it. -/
  | faultEvent (block src detail : Nat) (inst : Option Nat)
  /-- R390. The first write of FLT_CTRL.FORCE_LOCK makes every later write to a force bit be discarded. -/
  | forceLockSet
  /-- R386. Every D strides, a source's bucket level falls by 1. -/
  | bucketLeak (block : Nat) (src : Fin 32)
  /-- R462. A tamper source fires: the latch is set, logged and counted, and keys are zeroised as the state demands. -/
  | tamperFire (src : Fin 8) (detail : Nat)
  /-- R482. Every 1,024 strides VBAT is measured, and VBAT_LOW is updated. -/
  | vbatMeasure (mv : Nat)
  /-- R478. A re-verification ends, and differences are logged. -/
  | fuseReverifyEnd (diffs marg : List (Nat × Bool))
  /-- R488. A supply below threshold, an absent SYS_REFCLK or PWR_FAIL_N low at power-up holds everything but the kennel in reset. -/
  | powerOnReset (kept : Bool)
  /-- R553. A supply leaves its limits, firing the voltage detector or asserting power-on reset. -/
  | supplyFault (below : Bool)
  /-- R491. 1 ms after power-on reset ends, start-up reads fuses, verifies an image, trains HBM and links, and loads maps and keys. -/
  | startUp (hbms cores : Nat) (tenancy : Bool) (board : Machine.Board)
  /-- R493. PERST_N rising restarts the boot ROM, keeping map state or running a full start-up. -/
  | perstDeassert (hbms cores : Nat) (tenancy : Bool) (slotA slotB : Machine.FwSlot) (next : Option Nat) (seq : Nat)
  /-- R498. An unconditional cause (L1.2 exit, CLKREQ_N, PERST_N, PWR_FAIL_N or trip) starts a wake from Doze. -/
  | wakeStart (cause : Nat)
  /-- R527. Every 64 strides the sensors are read, and warning and critical levels are entered or left. -/
  | sensorSample (temps : List (Option Int))
  /-- R528. Every 1,024 strides rail currents are measured, and power and energy are updated. -/
  | railSample (mw : List Nat)
  /-- R512. PRSNT_N low for 100 ms makes the position PRESENT. -/
  | sledInserted (n : Fin 16)
  /-- R518. PRSNT_N high for 2 µs ends the sled's presence, as a surprise removal if it was admitted. -/
  | sledDeparted (n : Fin 16)
  /-- R515. A filtered press of the attention button starts, aborts or is ignored in the service sequence. -/
  | attnButtonPress (n : Fin 16)
  /-- R512. The 5 s abort window ends, starting ADMITTING or the removal. -/
  | serviceWindowExpiry (n : Fin 16)
  /-- R512. 100 ms after PWREN rises, the channel's lanes leave DISABLED. -/
  | sledPowerSettle (n : Fin 16)
  /-- R515. 500 ms after PWREN falls, the power LED goes out and the position enters READY. -/
  | powerOffSettle (n : Fin 16)
  /-- R517. 10 s after a refused removal, the attention LED goes out. -/
  | attnLedTimeout (n : Fin 16)
  /-- R270. A lane's PRBS checker declares lock after 64 matching bits, or loses lock after 64 mismatches in 1,024 bits and seeds again. -/
  | prbsLockChange (n : Fin 16) (lane : Fin 5) (on : Bool) (bits errs : Nat)
  /-- R260. After its rate-switch notices, an end's 1 µs of idle ends and it starts sending training frames or confirm sets at the new rate. -/
  | rateSwitchIdleEnd (n : Fin 16)
  /-- R404. A write of 1 to FLT_SNAP_CTRL.TRIGGER takes a snapshot at the next edge if armed. -/
  | snapshotTrigger
  /-- R387. A row sparing or pseudo-channel rebuild finishes, and the source's severe bit clears and its bucket returns to 0 without a clear. -/
  | sparingComplete (block : Nat) (src : Fin 32)
  /-- R73. Resident firmware finishes rebuilding a frozen descriptor from checkpoint and journal, and the extent stops returning poison and discarding writes. -/
  | descriptorRebuildDone (n : Fin 16) (index : Nat)
  /-- R23. After an HBM stack is lost, resident firmware finishes rebuilding the affected channels' maps in the other stack, and those channels are no longer fenced. -/
  | stackMapRebuildDone (stack : Fin 2)
  /-- R126. During an evacuation, the Herder starts copying a granule of an in-progress extent to its destination extent. -/
  | evacuationMoveStart (gran : Nat) (dst : Fin 16) (ext : Nat)
  /-- R461. A tamper input or detector stops being active, so KNL_TAMPER.ACTIVE_SRC and interrupt source 930 fall and the source may fire anew. -/
  | tamperSourceClear (src : Fin 8)
  /-- R237. The host link or data link layer detects a Receiver Error, Bad TLP, Bad DLLP, replay event or protocol error, and it is reported through AER. -/
  | hostLinkError (kind : Nat)
  /-- R414. An MCTP packet is received on SMBus and raises interrupt source 975. -/
  | mctpPacketReceive (packet : List Byte)
  /-- R414. The debug UART receives data and raises interrupt source 976. -/
  | uartReceive (data : List Byte)
  /-- R547. An IEEE 1149.1 instruction is loaded through the JTAG port, and beyond boundary scan it is refused while the tamper latch, DEBUG_DISABLE or DEBUG_OFF holds. -/
  | jtagInstruction (boundary : Bool)
  /-- R242. A configuration write changes a function's MSI-X Function Mask, and clearing it sends the messages of unmasked entries with PBA bits set. -/
  | functionMaskWrite (fn : Fin 256) (on : Bool)
  /-- R469. The asynchronous verification of a written slot finishes with its RESULT, leaving the slot verified or FAILED and closing the session. -/
  | fwVerifyComplete (good : Bool)
  /-- R218. A Set_Slot_Power_Limit message is received and handled as the Base Specification defines. -/
  | setSlotPowerLimit (value : Nat)
  /-- R406. A write of 1 to REARM re-arms the snapshot trigger. -/
  | snapshotRearm
  /-- R483. Writing KNL_LOCK.DEBUG_OFF refuses JTAG beyond boundary scan and UART debug until reset. -/
  | debugLockSet
  /-- R531. A write of 1 to TLM_CTRL.LATCH copies every telemetry reading into the latch in one FCLK. -/
  | telemetryLatch
  /-- R243. At the end of the 16 FCLK spacing, an INTx message carrying the condition's final state is sent if it changed. -/
  | intaMessagePacing
  /-- R211. The CXL mailbox command Identify Memory Device reports capacities. -/
  | cxlIdentifyMemoryDevice
  /-- R211. The CXL mailbox command Get Health Info reports health and temperature. -/
  | cxlGetHealthInfo
  /-- R211. The CXL mailbox command Get Supported Logs reports the Command Effects Log only. -/
  | cxlGetSupportedLogs
  /-- R211. The CXL mailbox command Get Event Interrupt Policy reports the policy. -/
  | cxlGetEventIntPolicy
  /-- R211. The CXL mailbox command Get Timestamp returns host time. -/
  | cxlGetTimestamp
  /-- R211. The CXL mailbox command Background Operation Status always reports idle. -/
  | cxlBackgroundOpStatus
  /-- R110. Every 2^DECAY_PERIOD strides, every non-zero heat decays. -/
  | heatDecay
  /-- R439. A commit group's COMMIT record is written on every available copy, and its change is due at the next tick. -/
  | commitGroupWritten
  /-- R441. At 75 % fill or 2^24 strides since the last checkpoint, writing of a checkpoint begins. -/
  | compactionStart
  /-- R441. The checkpoint header and CKPT_MARK are written, freeing older records. -/
  | checkpointComplete
  /-- R443. PWR_FAIL_N low for 200 ns starts the power-loss sequence of quiesce, drain and write-back. -/
  | powerFail
  /-- R394. The running FCLK PLL loses lock, and FCLK switches to the standby PLL, or the bridge is held in reset. -/
  | pllLockLoss
  /-- R404. A rising edge on SNAP_IN triggers a snapshot when PIN_EN is set. -/
  | snapInEdge
  /-- R478. Every 2^20 strides, the fuse array is read again and compared with the shadow. -/
  | fuseReverify
  /-- R473. 10 ms after the boot ROM handler starts, the quad-SPI pins go to high impedance. -/
  | qspiPinRelease
  /-- R490. A falling edge of PERST_N stops the host port, drains entries, releases semaphores and holds the musher cores. -/
  | perstAssert
  /-- R496. With no accepted job left, the bridge drains, idles links, puts HBM in self-refresh and starts the Whistle. -/
  | dozeEntry
  /-- R427. A watched source found high in Doze starts a wake and records the cause. -/
  | whistleWake
  /-- R499. 10 µs after the wake began, the bridge is in Run, and held requests are admitted. -/
  | wakeComplete
  /-- R501. The comparator at 130 °C runs the power-loss sequence and then holds the bridge in reset. -/
  | thermalTrip
  /-- R380. The slot erase that FW_BEGIN started finishes, and its OPERATION_DONE is sent. -/
  | fwEraseComplete
  /-- R194. From L1, when the LTR rules allow, the host link enters L1.2 and the bridge releases CLKREQ_N. -/
  | l12Entry
  deriving DecidableEq, Repr

end Sys2Proof
end

