-- ==== Sys2Proof/WellFormed.lean ====
section
/-! DEFINITION. What a command must satisfy to be one the bridge can be given: the ranges of its operands. -/

namespace Sys2Proof

/-- The operands are in the ranges the rules give them. -/
def Instr.wf (i : Instr) : Bool :=
  match i with
  | .strideTick => true
  | .planSeal => true
  | .glideEnd => true
  | .workUnitArrival _ _ => true
  | .admissionDecision _ => true
  | .yellowAgeing _ => true
  | .schedulerOverrun _ _ => true
  | .overrunGraceExpiry _ => true
  | .unitComplete _ _ => true
  | .remoteCompletionReport _ _ => true
  | .scrubReadStart _ _ lines => decide (1 ≤ lines) && decide (lines ≤ 8)
  | .onlineSelfTestStep _ _ _ _ _ _ _ => true
  | .windowMemoryRead _ tag addr len => decide (tag < 1024) && decide (addr < 2 ^ 64) && decide (len ≤ 4096)
  | .windowMemoryWrite _ addr data be _ => decide (addr < 2 ^ 64) && decide (data.length ≤ 4096) && decide (be.length = data.length)
  | .wcbEntryWaitEnd => true
  | .readDataReturn _ _ idx _ => decide (idx < 64)
  | .configRead _ tag dword => decide (tag < 1024) && decide (dword < 1024)
  | .configWrite _ tag dword value _ => decide (tag < 1024) && decide (dword < 1024) && decide (value < 2 ^ 32)
  | .functionLevelReset _ => true
  | .flrComplete _ => true
  | .vfEnableChange _ => true
  | .memEnableWrite _ => true
  | .hdmDecoderCommit _ base size iw ig skip _ => decide (base < 2 ^ 64) && decide (size < 2 ^ 64) && decide (iw < 16) && decide (ig < 16) && decide (skip < 2 ^ 64)
  | .powerStateWrite _ _ => true
  | .msixEnableChange _ _ => true
  | .interruptDisableWrite _ => true
  | .busMasterEnableWrite _ _ => true
  | .unsupportedRequest _ _ tag => decide (tag < 1024)
  | .pmeTurnOff => true
  | .vendorDefinedMessage _ => true
  | .cxlMemrd tag hpa => decide (tag < 65536) && decide (hpa < 2 ^ 52) && decide (hpa % 64 = 0)
  | .cxlMemrddata tag hpa => decide (tag < 65536) && decide (hpa < 2 ^ 52) && decide (hpa % 64 = 0)
  | .cxlMemwr tag hpa _ _ => decide (tag < 65536) && decide (hpa < 2 ^ 52) && decide (hpa % 64 = 0)
  | .cxlMemwrptl tag hpa _ _ _ => decide (tag < 65536) && decide (hpa < 2 ^ 52) && decide (hpa % 64 = 0)
  | .cxlMemspecrd hpa => decide (hpa < 2 ^ 52)
  | .cxlM2sOther _ => true
  | .hostCompletionReceive tag status data _ => decide (tag < 1024) && decide (status < 8) && decide (data.length ≤ 4096)
  | .completionTimeout _ => true
  | .hotReset => true
  | .hostLinkDown => true
  | .hostLinkTraining _ _ rate width lanes _ => decide (rate ≤ 6) && [1, 2, 4, 8, 16].contains width && decide (lanes < 65536)
  | .l0pWidthRequest width => [1, 2, 4, 8, 16].contains width
  | .l0pNarrowRequest => true
  | .aspmL1Entry => true
  | .registerWrite _ _ data size => decide (1 ≤ size) && decide (size ≤ 8) && decide (data.value < 2 ^ (8 * size))
  | .loRegisterRead _ _ size => decide (1 ≤ size) && decide (size ≤ 8)
  | .counterClear _ value => decide (value < 2 ^ 32)
  | .eccLastClear _ => true
  | .wcbHighWaterReset _ => true
  | .mailboxDoorbell _ mask => decide (mask < 2 ^ 32)
  | .mailboxCommandWrite _ _ word value => decide (word < 64) && decide (value < 2 ^ 32)
  | .mailboxDoneAck _ mask => decide (mask < 2 ^ 32)
  | .notifyAck _ => true
  | .mailboxCtrlWrite _ value => decide (value < 2 ^ 32)
  | .jobDoorbell _ _ tail => decide (tail < 2 ^ 32)
  | .ringEnable _ _ => true
  | .ringDisable _ _ => true
  | .semAcquireRead _ _ => true
  | .semReleaseWrite _ _ => true
  | .faultForce block _ => decide (block < 56)
  | .forceLockSet => true
  | .snapshotTrigger => true
  | .snapshotRearm => true
  | .debugLockSet => true
  | .prbsInjectOne _ _ => true
  | .telemetryLatch => true
  | .intaPendingClear _ => true
  | .intaEnableWrite _ => true
  | .msixTableWrite _ _ _ value => decide (value < 2 ^ 32)
  | .intaMessagePacing => true
  | .icuClaim _ => true
  | .icuComplete _ src => decide (src < 1024)
  | .icuThresholdWrite _ value => decide (value < 16)
  | .icuGlobalDisableWrite _ => true
  | .icuSourceLevelChange src _ => decide (src < 1022)
  | .icuGroupTimeExpiry _ => true
  | .strideTimerExpiry _ => true
  | .identify _ _ => true
  | .echo _ _ => true
  | .serviceReport _ _ => true
  | .opStatus _ _ => true
  | .laneTest _ _ => true
  | .laneTestDurationExpiry _ _ => true
  | .selfTest _ _ => true
  | .selfTestEnd kind _ _ _ => decide (1 ≤ kind) && decide (kind ≤ 4)
  | .diagHold _ _ => true
  | .diagRelease _ _ => true
  | .tamperReport _ _ => true
  | .tamperRelease _ _ _ => true
  | .instCreate _ _ _ => true
  | .instTeardown _ _ => true
  | .teardownDrained _ => true
  | .instQuery _ _ => true
  | .segRead _ _ => true
  | .inst0Set _ _ => true
  | .vfWindowLimit _ _ => true
  | .precolourSet _ _ => true
  | .semAccess _ _ => true
  | .semRelease _ _ => true
  | .hintSet _ _ => true
  | .placeQuery _ _ => true
  | .tuneSet _ _ => true
  | .sharesSet _ _ => true
  | .reserveSet _ _ => true
  | .persistSet _ _ => true
  | .evacuate _ _ => true
  | .evacStop _ _ => true
  | .jobCancel _ _ => true
  | .ringCancel _ _ => true
  | .vetoSet _ _ => true
  | .unitFence _ _ => true
  | .fenceDrainDone _ => true
  | .unitUnfence _ _ => true
  | .logRead _ _ => true
  | .classifySet _ _ => true
  | .faultClear _ _ => true
  | .keyChange _ _ _ => true
  | .fuseSpare _ _ _ => true
  | .provision _ _ _ _ => true
  | .sledStatus _ _ => true
  | .sledRemove _ _ => true
  | .sledAbort _ _ => true
  | .sledAdmit _ _ => true
  | .linkRateLimit _ _ => true
  | .linkParams _ _ => true
  | .linkTrain _ _ => true
  | .mirrorRestore _ _ => true
  | .mirrorSegmentRestored _ _ _ => true
  | .powerSet _ _ => true
  | .whistleSet _ _ => true
  | .tlmSnapshot _ _ => true
  | .instStats _ _ => true
  | .thermalSet _ _ => true
  | .fwBegin _ _ => true
  | .fwData _ _ => true
  | .fwVerify _ _ => true
  | .fwActivate _ _ => true
  | .rollbackCommit _ _ => true
  | .fwStatus _ _ => true
  | .commandTimeout _ _ => true
  | .cxlIdentifyMemoryDevice => true
  | .cxlGetHealthInfo => true
  | .cxlGetSupportedLogs => true
  | .cxlGetLog _ => true
  | .cxlGetEventRecords _ => true
  | .cxlClearEventRecords _ => true
  | .cxlGetEventIntPolicy => true
  | .cxlSetEventIntPolicy _ => true
  | .cxlGetTimestamp => true
  | .cxlSetTimestamp _ => true
  | .cxlBackgroundOpStatus => true
  | .cxlUnsupportedCommand _ => true
  | .jobFetch _ _ => true
  | .descriptorReadComplete _ => true
  | .jobCheck _ => true
  | .resultRingHoldRelease _ => true
  | .fenceStartRelease _ => true
  | .piecePlace _ => true
  | .pieceGrant _ => true
  | .pieceUnpark _ _ => true
  | .consumerReread _ => true
  | .pieceEnd _ _ => true
  | .heatDecay => true
  | .promotionStart _ _ => true
  | .demotionStart _ => true
  | .relocationStart _ _ _ => true
  | .writebackStart _ => true
  | .copyDataArrive _ _ _ _ => true
  | .excBucketRetry _ _ _ => true
  | .evacuationComplete _ => true
  | .commitGroupWritten => true
  | .compactionStart => true
  | .checkpointComplete => true
  | .journalReplay _ _ _ => true
  | .powerFail => true
  | .channelWritebackDone _ => true
  | .saveRspReceive _ _ _ => true
  | .flitReceive _ head₀ head₁ slots₀ slots₁ slots₂ crc parity =>
    decide (head₀.length = 4) && decide (head₁.length = 4) && decide (slots₀.length = 80) && decide (slots₁.length = 80) && decide (slots₂.length = 80)
      && decide (crc.length = 8) && (parity.isEmpty || decide (parity.length = 16))
  | .rdataReceive _ tag idx _ _ => decide (tag < 65536) && decide (idx < 16)
  | .credReceive _ _ _ _ => true
  | .credDataReceive _ _ _ _ => true
  | .mcredReceive _ _ => true
  | .msyncReqReceive _ nonce => decide (nonce < 256)
  | .msyncRspReceive _ nonce free => decide (nonce < 256) && decide (free < 256)
  | .sregRspReceive _ tag _ => decide (tag < 256)
  | .eventReceive _ _ _ => true
  | .retryReqReceive _ exp => decide (exp < 4096)
  | .initParamReceive _ _ _ _ _ _ _ => true
  | .initIdentReceive _ _ _ _ _ _ _ _ _ _ _ => true
  | .initDoneReceive _ => true
  | .pmRspReceive _ _ => true
  | .rateRspReceive _ _ => true
  | .linkResetReceive _ _ => true
  | .replayTimerExpiry _ => true
  | .retryReqRepeat _ => true
  | .credSendTimer _ => true
  | .msyncStart _ => true
  | .msyncTimeout _ => true
  | .initTimeout _ => true
  | .rateChangeStart _ => true
  | .rateChangeTimeout _ => true
  | .idleRequest _ => true
  | .linkDown _ => true
  | .readHold _ => true
  | .graceExpiry _ => true
  | .flushComplete _ => true
  | .holdLimitPartner _ _ => true
  | .holdLimitPoison _ _ => true
  | .drainHoldLimit _ _ => true
  | .channelEnable _ => true
  | .detectSignal _ => true
  | .offerSetReceive _ _ com id rest => decide (com < 1024) && decide (id < 1024) && decide (rest.length = 14)
  | .confirmSetReceive _ _ com id physLane chan rates rest =>
    [com, id, physLane, chan, rates].all (fun g => decide (g < 1024)) && decide (rest.length = 11)
  | .rateSwitchNoticeReceive _ set => decide (set.symbols.length = 16)
  | .trainingFrameReceive _ _ low outMap inMap count high chk _ _ =>
    decide (low < 2 ^ 20) && decide (outMap < 32) && decide (inMap < 32) && decide (count < 16) && decide (high < 2 ^ 22) && decide (chk < 256)
  | .alignmentReceive _ mark _ _ => decide (mark.symbols.length = 16) || decide (mark.symbols.length = 8)
  | .idleEntryReceive _ => true
  | .exitBurstReceive _ => true
  | .eidleExitStart _ => true
  | .exitAlignmentTimeout _ _ => true
  | .trainingStateTimeout _ => true
  | .losChange _ _ _ => true
  | .lolChange _ _ _ => true
  | .fastRetrainDone _ => true
  | .fastRetrainTimeout _ => true
  | .faultEvent block src detail _ => decide (block < 56) && decide (src < 32) && decide (detail < 2 ^ 32)
  | .bucketLeak block _ => decide (block < 56)
  | .pllLockLoss => true
  | .snapInEdge => true
  | .tamperFire _ detail => decide (detail < 65536)
  | .vbatMeasure _ => true
  | .fuseReverify => true
  | .fuseReverifyEnd _ _ => true
  | .powerOnReset _ => true
  | .supplyFault _ => true
  | .startUp hbms cores _ _ => decide (hbms < 4) && decide (cores < 32)
  | .qspiPinRelease => true
  | .perstAssert => true
  | .perstDeassert hbms cores _ _ _ _ seq => decide (hbms < 4) && decide (cores < 32) && decide (seq < 2 ^ 32)
  | .dozeEntry => true
  | .whistleWake => true
  | .wakeStart cause => decide (1 ≤ cause) && decide (cause ≤ 5)
  | .wakeComplete => true
  | .sensorSample _ => true
  | .thermalTrip => true
  | .railSample _ => true
  | .sledInserted _ => true
  | .sledDeparted _ => true
  | .attnButtonPress _ => true
  | .serviceWindowExpiry _ => true
  | .sledPowerSettle _ => true
  | .powerOffSettle _ => true
  | .attnLedTimeout _ => true
  | .prbsLockChange _ _ _ _ _ => true
  | .rateSwitchIdleEnd _ => true
  | .sparingComplete block _ => decide (block < 56)
  | .descriptorRebuildDone _ _ => true
  | .stackMapRebuildDone _ => true
  | .evacuationMoveStart _ _ _ => true
  | .tamperSourceClear _ => true
  | .hostLinkError kind => decide (kind ≤ 10)
  | .mctpPacketReceive _ => true
  | .uartReceive _ => true
  | .jtagInstruction _ => true
  | .functionMaskWrite _ _ => true
  | .fwEraseComplete => true
  | .fwVerifyComplete _ => true
  | .l12Entry => true
  | .setSlotPowerLimit value => decide (value < 2 ^ 32)

end Sys2Proof
end

