-- ==== Sys2Proof/Config.lean ====
section
/-! DEFINITION. The free values: constants with no body, for what the spec leaves open. -/

namespace Sys2Proof

/-- A free number: what a choice the spec leaves open comes to, by the count of free values taken before it (log entry 4). -/
opaque Config.freeNat : Nat → Nat

/-- A free line of data: what a line reads as that no write of the bridge stands behind, by the count of free values taken
before it (log entry 4). -/
opaque Config.freeLine : Nat → Line

/-- The 512-bit key of a number, data key in the low half and tweak key in the high (R80, R323), that the kennel draws from its generator:
nothing shows it (log entry 5). -/
opaque Config.key : Nat → BitVec 512

/-- The KEK of a number that the kennel generates (R456, log entry 5). -/
opaque Config.kek : Nat → BitVec 256

/-- The ciphertext of a line that is marked POISON where no rule names its data (R84, log entry 109). -/
opaque Config.poisonData : Line

/-- The set of the heat store that a granule is hashed to (R111, log entry 7). -/
opaque Config.heatSet : Nat → Nat

/-- The bucket of a stack's exception table that a granule is hashed to (R75, log entry 7). -/
opaque Config.excBucket : Nat → Nat

/-- The granule that a DETAIL or DLA word stands for in a sled's own event, where the sled gives no DLA (R285, log entry 7). -/
opaque Config.sledDetail : Nat → Nat

/-- Whether the exact sum of floats that comes to zero is given the negative sign (R168, log entry 8). -/
opaque Config.zeroSumNegative : Bool

/-- The rows of a row group whose first page header is poisoned, by the header's address in the instance (R175, log entry 27). -/
opaque Config.hiddenRows : Nat → Nat

/-- A byte that a projection copies from past the lines its lane reads, by its offset in the extent (R164, log entry 28). -/
opaque Config.unreadByte : Nat → Byte

/-- The array of a fault block in which a row failed, by block and DETAIL (R16, log entry 99). -/
opaque Config.rowArray : Nat → Nat → Nat

/-- Spare rows of an array, by block, HBM or SRAM, and array: fixed in manufacture (R16, log entry 99). -/
opaque Config.spareRows : Nat → Bool → Nat → Nat

/-- The pseudo-channel, 0 to 31 of its stack, that a near-tier frame lies on (R16, log entry 31). -/
opaque Config.framePc : Nat → Nat

end Sys2Proof
end

