-- ==== Sys2Proof/Machine/Aes.lean ====
section
/-! DEFINITION. Line encryption: AES-256 and its XTS mode (R80). The spec names the standards, IEEE 1619 with the AES it rests on, and states the
key's halves and the tweak; the algorithms themselves are those of the standards (log entry 5). -/

namespace Sys2Proof.Machine

open Sys2Proof

/-- Product of two bytes in the field of a polynomial of degree 8, by the bits of the first (log entry 5). -/
def gfMulFrom (poly : Nat) : Nat → Nat → Nat → Nat
  | 0, _, _ => 0
  | k + 1, a, b =>
    let rest := gfMulFrom poly k (a / 2) (if 128 ≤ b then (2 * b) ^^^ poly else 2 * b)
    if a % 2 = 1 then b ^^^ rest else rest

/-- Product of two bytes in AES's field. -/
def aesMul (a b : Nat) : Nat := gfMulFrom 0x11B 8 a b

/-- The S-box, sixteen bytes to a row, the first lowest. -/
def sboxRows : List Nat :=
  [ 0x76ABD7FE2B670130C56F6BF27B777C63, 0xC072A49CAFA2D4ADF04759FA7DC982CA,
    0x1531D871F1E5A534CCF73F362693FDB7, 0x75B227EBE28012079A059618C323C704,
    0x842FE329B3D63B52A05A6E1B1A2C8309, 0xCF584C4A39BECB6A5BB1FC20ED00D153,
    0xA89F3C507F02F94585334D43FBAAEFD0, 0xD2F3FF1021DAB6BCF5389D928F40A351,
    0x73195D643D7EA7C41744975FEC130CCD, 0xDB0B5EDE14B8EE4688902A22DC4F8160,
    0x79E4959162ACD3C25C2406490A3A32E0, 0x08AE7A65EAF4566CA94ED58D6D37C8E7,
    0x8A8BBD4B1F74DDE8C6B4A61C2E2578BA, 0x9E1DC186B95735610EF6034866B53E70,
    0xDF2855CEE9871E9B948ED9691198F8E1, 0x16BB54B00F2D99416842E6BF0D89A18C ]

/-- The S-box of a byte. -/
def sbox (x : Nat) : Nat := sboxRows.getD (x / 16) 0 / 256 ^ (x % 16) % 256

/-- The inverse S-box, in the same form. -/
def sboxInvRows : List Nat :=
  [ 0xFBD7F3819EA340BF38A53630D56A0952, 0xCBE9DEC444438E3487FF2F9B8239E37C,
    0x4EC3FA420B954CEE3D23C2A632947B54, 0x25D18B6D49A25B76B224D92866A12E08,
    0x92B6655DCC5CA4D41698688664F6F872, 0x849D8DA75746155EDAB9EDFD5048706C,
    0x0645B3B80558E4F70AD3BC8C00ABD890, 0x6B8A130103BDAFC1020F3FCA8F1E2CD0,
    0x73E6B4F0CECFF297EADC674F4111913A, 0x6EDF751CE837F9E28535ADE72274AC96,
    0x1BBE18AA0E62B76F89C5291D711AF147, 0xF45ACD78FEC0DB9A2079D2C64B3E56FC,
    0x5FEC8027591012B131C7078833A8DD1F, 0xEF9CC9939F7AE52D0D4AB519A97F5160,
    0x619953833CBBEBC8B0F52AAE4D3BE0A0, 0x7D0C2155631469E126D677BA7E042B17 ]

/-- The inverse S-box of a byte. -/
def sboxInv (x : Nat) : Nat := sboxInvRows.getD (x / 16) 0 / 256 ^ (x % 16) % 256

/-- Bytes of two lists, XORed. -/
def xorBytes (a b : List Nat) : List Nat := List.zipWith (fun x y => x ^^^ y) a b

/-- The next words of the key schedule of AES-256, newest first: one from the word before and the word eight before. -/
def aesExpand : Nat → Nat → List (List Nat) → List (List Nat)
  | 0, _, ws => ws
  | fuel + 1, i, ws =>
    let last := ws.headD []
    let t :=
      if i % 8 = 0 then xorBytes (((last.drop 1) ++ last.take 1).map sbox) [2 ^ (i / 8 - 1), 0, 0, 0]
      else if i % 8 = 4 then last.map sbox
      else last
    aesExpand fuel (i + 1) (xorBytes (ws.getD 7 []) t :: ws)

/-- A list cut into pieces of `n`, as many as `k`. -/
def pieces (n : Nat) : Nat → List Nat → List (List Nat)
  | 0, _ => []
  | k + 1, l => l.take n :: pieces n k (l.drop n)

/-- The fifteen round keys of a 32-byte key. -/
def aesKeys (key : List Nat) : List (List Nat) :=
  let ws := (aesExpand 52 8 (pieces 4 8 key).reverse).reverse
  (List.range 15).map (fun r => ((ws.drop (4 * r)).take 4).flatten)

/-- Rows of the state shifted, to the left by `dir` 1 and back by `dir` 3: byte `r + 4c` is row `r` of column `c`. -/
def shiftRows (dir : Nat) (s : List Nat) : List Nat :=
  (List.range 16).map (fun i => s.getD (i % 4 + 4 * ((i / 4 + dir * (i % 4)) % 4)) 0)

/-- Each column of the state by a circulant matrix whose first row is given. -/
def mixColumns (m : List Nat) (s : List Nat) : List Nat :=
  (List.range 16).map (fun i =>
    (List.range 4).foldl (fun x j => x ^^^ aesMul (m.getD ((j + 4 - i % 4) % 4) 0) (s.getD (i / 4 * 4 + j) 0)) 0)

/-- One block encrypted under its round keys. -/
def aesEnc (keys : List (List Nat)) (block : List Nat) : List Nat :=
  let first := xorBytes block (keys.headD [])
  let mid := ((keys.drop 1).take 13).foldl (fun s k => xorBytes (mixColumns [2, 3, 1, 1] (shiftRows 1 (s.map sbox))) k) first
  xorBytes (shiftRows 1 (mid.map sbox)) (keys.getD 14 [])

/-- One block decrypted under its round keys. -/
def aesDec (keys : List (List Nat)) (block : List Nat) : List Nat :=
  let last := (shiftRows 3 (xorBytes block (keys.getD 14 []))).map sboxInv
  let mid := ((keys.drop 1).take 13).reverse.foldl (fun s k => (shiftRows 3 (mixColumns [14, 11, 13, 9] (xorBytes s k))).map sboxInv) last
  xorBytes mid (keys.headD [])

/-- `n` bytes of a number, least significant first. -/
def natBytes (n v : Nat) : List Nat := (List.range n).map (fun k => v / 256 ^ k % 256)

/-- The number of a list of bytes, least significant first. -/
def bytesNat (l : List Nat) : Nat := l.foldr (fun x v => x + 256 * v) 0

/-- The tweak of the block that follows: the product by the field's generator (IEEE 1619). -/
def nextTweak (t : Nat) : Nat := if 2 ^ 127 ≤ t then (2 * t - 2 ^ 128) ^^^ 0x87 else 2 * t

/-- The blocks of a line under XTS, by a block operation, from a tweak on. -/
def xtsBlocks (op : List Nat → List Nat) : Nat → Nat → List Nat → List Nat
  | 0, _, _ => []
  | k + 1, t, d =>
    let tw := natBytes 16 t
    xorBytes (op (xorBytes (d.take 16) tw)) tw ++ xtsBlocks op k (nextTweak t) (d.drop 16)

/-- The tweak of a line: the DLA of its first byte, encrypted under the tweak key, the second half of the key (R80). -/
def xtsTweak (key : BitVec 512) (ln : Nat) : Nat :=
  bytesNat (aesEnc (aesKeys (natBytes 32 (key.toNat / 2 ^ 256))) (natBytes 16 (ln * 64)))

/-- A line encrypted or decrypted as four blocks under the data key, the first half of the key (R80). -/
def xtsLine (op : List (List Nat) → List Nat → List Nat) (key : BitVec 512) (ln : Nat) (d : Line) : Line :=
  BitVec.ofNat 512 (bytesNat (xtsBlocks (op (aesKeys (natBytes 32 key.toNat))) 4 (xtsTweak key ln) (natBytes 64 d.toNat)))

/-- A line of plaintext, number `ln` of the DLA space, encrypted under a key (R80). -/
def encryptLine (key : BitVec 512) (ln : Nat) (d : Line) : Line := xtsLine aesEnc key ln d

/-- A line of ciphertext decrypted under a key (R80). -/
def decryptLine (key : BitVec 512) (ln : Nat) (c : Line) : Line := xtsLine aesDec key ln c

end Sys2Proof.Machine
end

