-- ==== Sys2Proof/Machine/Hash.lean ====
section
/-! DEFINITION. SHA-384 and HMAC over it, and the key wrap of RFC 3394 (R458, R460, R464). The spec names the standards; the algorithms are
those of the standards (log entry 5). Messages and digests are lists of bytes, first byte first. -/

namespace Sys2Proof.Machine

open Sys2Proof

/-- The round constants of SHA-384. -/
def shaK : List Nat :=
  [0x428A2F98D728AE22, 0x7137449123EF65CD, 0xB5C0FBCFEC4D3B2F, 0xE9B5DBA58189DBBC, 0x3956C25BF348B538,
   0x59F111F1B605D019, 0x923F82A4AF194F9B, 0xAB1C5ED5DA6D8118, 0xD807AA98A3030242, 0x12835B0145706FBE,
   0x243185BE4EE4B28C, 0x550C7DC3D5FFB4E2, 0x72BE5D74F27B896F, 0x80DEB1FE3B1696B1, 0x9BDC06A725C71235,
   0xC19BF174CF692694, 0xE49B69C19EF14AD2, 0xEFBE4786384F25E3, 0x0FC19DC68B8CD5B5, 0x240CA1CC77AC9C65,
   0x2DE92C6F592B0275, 0x4A7484AA6EA6E483, 0x5CB0A9DCBD41FBD4, 0x76F988DA831153B5, 0x983E5152EE66DFAB,
   0xA831C66D2DB43210, 0xB00327C898FB213F, 0xBF597FC7BEEF0EE4, 0xC6E00BF33DA88FC2, 0xD5A79147930AA725,
   0x06CA6351E003826F, 0x142929670A0E6E70, 0x27B70A8546D22FFC, 0x2E1B21385C26C926, 0x4D2C6DFC5AC42AED,
   0x53380D139D95B3DF, 0x650A73548BAF63DE, 0x766A0ABB3C77B2A8, 0x81C2C92E47EDAEE6, 0x92722C851482353B] ++
  [0xA2BFE8A14CF10364, 0xA81A664BBC423001, 0xC24B8B70D0F89791, 0xC76C51A30654BE30, 0xD192E819D6EF5218,
   0xD69906245565A910, 0xF40E35855771202A, 0x106AA07032BBD1B8, 0x19A4C116B8D2D0C8, 0x1E376C085141AB53,
   0x2748774CDF8EEB99, 0x34B0BCB5E19B48A8, 0x391C0CB3C5C95A63, 0x4ED8AA4AE3418ACB, 0x5B9CCA4F7763E373,
   0x682E6FF3D6B2B8A3, 0x748F82EE5DEFB2FC, 0x78A5636F43172F60, 0x84C87814A1F0AB72, 0x8CC702081A6439EC,
   0x90BEFFFA23631E28, 0xA4506CEBDE82BDE9, 0xBEF9A3F7B2C67915, 0xC67178F2E372532B, 0xCA273ECEEA26619C,
   0xD186B8C721C0C207, 0xEADA7DD6CDE0EB1E, 0xF57D4F7FEE6ED178, 0x06F067AA72176FBA, 0x0A637DC5A2C898A6,
   0x113F9804BEF90DAE, 0x1B710B35131C471B, 0x28DB77F523047D84, 0x32CAAB7B40C72493, 0x3C9EBE0A15C9BEBC,
   0x431D67C49C100D4C, 0x4CC5D4BECB3E42B6, 0x597F299CFC657E2A, 0x5FCB6FAB3AD6FAEC, 0x6C44198C4A475817]

/-- The first hash value of SHA-384. -/
def shaInit : List Nat :=
  [0xCBBB9D5DC1059ED8, 0x629A292A367CD507, 0x9159015A3070DD17, 0x152FECD8F70E5939,
   0x67332667FFC00B31, 0x8EB44A8768581511, 0xDB0C2E0D64F98FA7, 0x47B5481DBEFA4FA4]

/-- A 64-bit word turned to the right. -/
def rotr (k x : Nat) : Nat := x / 2 ^ k + x % 2 ^ k * 2 ^ (64 - k)

/-- A number of `n` bytes, most significant first. -/
def beBytes (n v : Nat) : List Nat := (natBytes n v).reverse

/-- The number of bytes, most significant first. -/
def beNat (l : List Nat) : Nat := bytesNat l.reverse

/-- The message schedule, newest word first: from a block's 16 words on. -/
def shaSchedule : Nat → List Nat → List Nat
  | 0, ws => ws
  | k + 1, ws =>
    let at0 := fun j => ws.getD (j - 1) 0
    let s0 := rotr 1 (at0 15) ^^^ rotr 8 (at0 15) ^^^ at0 15 / 2 ^ 7
    let s1 := rotr 19 (at0 2) ^^^ rotr 61 (at0 2) ^^^ at0 2 / 2 ^ 6
    shaSchedule k (((at0 16 + s0 + at0 7 + s1) % 2 ^ 64) :: ws)

/-- One round, on the eight working words. -/
def shaRound (st : List Nat) (kw : Nat) : List Nat :=
  match st with
  | [a, b, c, d, e, f, g, h] =>
    let s1 := rotr 14 e ^^^ rotr 18 e ^^^ rotr 41 e
    let t1 := h + s1 + ((e &&& f) ^^^ ((2 ^ 64 - 1 - e) &&& g)) + kw
    let s0 := rotr 28 a ^^^ rotr 34 a ^^^ rotr 39 a
    let t2 := s0 + ((a &&& b) ^^^ (a &&& c) ^^^ (b &&& c))
    [(t1 + t2) % 2 ^ 64, a, b, c, (d + t1) % 2 ^ 64, e, f, g]
  | _ => st

/-- One block of 128 bytes into the hash value. -/
def shaBlock (h : List Nat) (block : List Nat) : List Nat :=
  let ws := (shaSchedule 64 ((pieces 8 16 block).map beNat).reverse).reverse
  let out := (List.zipWith (· + ·) shaK ws).foldl shaRound h
  List.zipWith (fun x y => (x + y) % 2 ^ 64) h out

/-- SHA-384 of a message. -/
def sha384 (m : List Nat) : List Nat :=
  let pad := m ++ 0x80 :: List.replicate ((239 - m.length % 128) % 128) 0 ++ beBytes 16 (8 * m.length)
  (((pieces 128 (pad.length / 128) pad).foldl shaBlock shaInit).map (beBytes 8)).flatten.take 48

/-- HMAC-SHA-384 under a key of at most 128 bytes. -/
def hmac384 (key m : List Nat) : List Nat :=
  let k := (key ++ List.replicate 128 0).take 128
  sha384 (k.map (· ^^^ 0x5C) ++ sha384 (k.map (· ^^^ 0x36) ++ m))

/-- The steps of an unwrap, from the last back: the integrity value, and the words of the key. -/
def unwrapSteps (keys : List (List Nat)) (n : Nat) : Nat → List Nat × List (List Nat) → List Nat × List (List Nat)
  | 0, st => st
  | t + 1, (a, r) =>
    let i := t % n
    let d := aesDec keys (xorBytes a (beBytes 8 (t + 1)) ++ r.getD i [])
    unwrapSteps keys n t (d.take 8, r.set i (d.drop 8))

/-- A 64-byte key unwrapped from 72 bytes under a 32-byte key; none where the integrity check fails (RFC 3394). -/
def keyUnwrap (kek wrapped : List Nat) : Option (List Nat) :=
  let ps := pieces 8 9 wrapped
  let (a, r) := unwrapSteps (aesKeys kek) 8 48 (ps.headD [], ps.drop 1)
  if a = List.replicate 8 0xA6 then some r.flatten else none

/-- The steps of a wrap, from the first on. -/
def wrapSteps (keys : List (List Nat)) (n : Nat) : List Nat → List Nat × List (List Nat) → List Nat × List (List Nat)
  | [], st => st
  | t :: ts, (a, r) =>
    let d := aesEnc keys (a ++ r.getD (t % n) [])
    wrapSteps keys n ts (xorBytes (d.take 8) (beBytes 8 (t + 1)), r.set (t % n) (d.drop 8))

/-- A 64-byte key wrapped to 72 bytes under a 32-byte key (RFC 3394). -/
def keyWrap (kek key : List Nat) : List Nat :=
  let (a, r) := wrapSteps (aesKeys kek) 8 (List.range 48) (List.replicate 8 0xA6, pieces 8 8 key)
  a ++ r.flatten

end Sys2Proof.Machine
end

