-- ==== Sys2Proof/Machine/LineCode.lean ====
section
/-! DEFINITION. The line code of the sled side: a shortened Reed-Solomon code over GF(2^8), field polynomial 0x11D, roots 1, alpha and
alpha squared (R82). The codeword's bytes are the coefficients in their order, the first that of the highest power (log entry 108). -/

namespace Sys2Proof

open Sys2Proof.Machine

/-- Product of two bytes in the code's field (R82). -/
def codeMul (a b : Nat) : Nat := gfMulFrom 0x11D 8 a b

/-- The 65 bytes that the code protects: the ciphertext and the metadata byte, whose bit 0 is POISON (R82). -/
def Codeword.body (w : Codeword) : List Nat := natBytes 64 w.data.toNat ++ [if w.poison then 1 else 0]

/-- One byte into the check bytes so far: the remainder by x^3 + 7 x^2 + 14 x + 8, the product of the three roots' factors. -/
def codeStep (r : Nat × Nat × Nat) (byte : Nat) : Nat × Nat × Nat :=
  let f := byte ^^^ r.1
  (r.2.1 ^^^ codeMul 7 f, r.2.2 ^^^ codeMul 14 f, codeMul 8 f)

/-- The three check bytes of a codeword's ciphertext and metadata, the first lowest (R82, R284). -/
def Codeword.code (w : Codeword) : BitVec 24 :=
  let r := w.body.foldl codeStep (0, 0, 0)
  BitVec.ofNat 24 (bytesNat [r.1, r.2.1, r.2.2])

/-- The codeword of a line of ciphertext: the bridge computes the code on drain (R82). -/
def Codeword.of (data : Line) (poison : Bool) : Codeword :=
  let w : Codeword := { data := data, poison := poison }
  { w with check := w.code }

/-- The codeword of a line marked POISON for which the spec names no data (R84, log entry 109). -/
def Codeword.bad : Codeword := Codeword.of Config.poisonData true

/-- The value of a codeword's polynomial at a root. -/
def codeAt (root : Nat) (bytes : List Nat) : Nat := bytes.foldl (fun s c => codeMul s root ^^^ c) 0

/-- The place, from the codeword's end, of the one wrong byte that three syndromes name, if one does. -/
def wrongAt (s0 s1 s2 : Nat) : Nat → Nat → Nat → Option Nat
  | 0, _, _ => none
  | k + 1, j, x => if codeMul s0 x = s1 ∧ codeMul s1 x = s2 then some j else wrongAt s0 s1 s2 k (j + 1) (codeMul 2 x)

/-- A codeword whose byte `i` from the front is changed by `e`. -/
def Codeword.flip (i e : Nat) (w : Codeword) : Codeword :=
  if i < 64 then { w with data := w.data ^^^ BitVec.ofNat 512 (e * 256 ^ i) }
  else if i = 64 then { w with poison := xor w.poison (decide (e % 2 = 1)) }
  else { w with check := w.check ^^^ BitVec.ofNat 24 (e * 256 ^ (i - 65)) }

/-- A codeword as its code finds it: the code corrects any one wrong byte and detects any two (R82). -/
def Codeword.read (w : Codeword) : LineCheck × Codeword :=
  let bytes := w.body ++ natBytes 3 w.check.toNat
  let s0 := codeAt 1 bytes
  let s1 := codeAt 2 bytes
  let s2 := codeAt 4 bytes
  if s0 = 0 ∧ s1 = 0 ∧ s2 = 0 then (.good, w)
  else if s0 = 0 then (.uncorrectable, w)
  else
    match wrongAt s0 s1 s2 68 0 1 with
    | some j => (.corrected, w.flip (67 - j) s0)
    | none => (.uncorrectable, w)

end Sys2Proof
end

