-- ==== Sys2Proof/Machine/TypesLink.lean ====
section
/-! DEFINITION. The plain data of a channel's lanes and link layer. -/

namespace Sys2Proof.Machine

open Sys2Proof

/-- The training state of a channel's lanes (R260, coded as R273). -/
inductive PhyState where
  | disabled | detect | sync | offer | confirm | rateSwitch | equalize | align | active | fastRetrain | eidle | exit | test | down
  deriving DecidableEq, Repr

/-- One physical lane: the inbound receiver and the outbound transmitter of that number (R248, R272). -/
structure Lane where
  /-- R262: LOS (reset: no signal) -/
  los : Bool := false
  /-- R262: LOL -/
  lol : Bool := false
  /-- R273: LOCKED -/
  locked : Bool := false
  /-- R270: PRBS checker locked -/
  prbsLock : Bool := false
  /-- R273, 8 b signed: FREQ_OFF in ppm -/
  freqOff : Int := 0
  /-- R260: consecutive good sets or frames received in the state -/
  run : Nat := 0
  /-- R260: consecutive frames with RX_READY -/
  ready : Nat := 0
  /-- R260: alignment received -/
  aligned : Bool := false
  /-- R264: bytes charged since the tick (PAM4) -/
  charged : Nat := 0
  /-- R264: symbols received (NRZ) -/
  symbols : Nat := 0
  /-- R264: symbol numbers of the code errors in the last 1,024 -/
  window : List Nat := []
  /-- R263, 32 b: errors -/
  err : Nat := 0
  /-- R272, 32 b: LOS events -/
  losCnt : Nat := 0
  /-- R272, 32 b: LOL events -/
  lolCnt : Nat := 0
  /-- R270, 32 b: PRBS bit errors -/
  prbsErr : Nat := 0
  /-- R270, 64 b: PRBS bits checked -/
  prbsBits : Nat := 0
  /-- R364: PRBS bits and errors as they stood when the lane test began -/
  testBase : Nat × Nat := (0, 0)
  /-- R273, 11 b: PRBS_CTRL GEN, CHK, PRECODE and INJ_RATE as written -/
  prbsCtrl : Nat := 0
  /-- R273: INJ_ONE waits -/
  injOne : Bool := false
  /-- R259: tap c(-2) -/
  cm2 : Int := 0
  /-- R259: tap c(-1) -/
  cm1 : Int := 0
  /-- R259: tap c(+1) -/
  cp1 : Int := 0
  /-- R259, 3 b: last preset applied -/
  preset : Nat := 0
  /-- R271: GEN and CHK as they stood when TEST was entered -/
  prbsTest : Nat := 0
  /-- R253, R255: the receiver's running disparity (NRZ, 1 positive) or last level (PAM4) -/
  carry : Nat := 0
  /-- R259: status to report for c(-2), c(-1), c(+1): 0 not updated, 1 updated, 2 minimum, 3 maximum -/
  tapStatus : Nat × Nat × Nat := (0, 0, 0)
  deriving DecidableEq, Repr

/-- The lanes of a channel (R248-R274). -/
structure Phy where
  /-- R273, 4 b: STATE -/
  state : PhyState := .disabled
  /-- R273, 2 b: RATE -/
  rate : Nat := 0
  /-- R273, 2 b: WIDTH (0 down, 1 x2, 2 x4) -/
  width : Nat := 0
  /-- R273, 5 b: OUT_MAP -/
  outMap : Nat := 0
  /-- R273, 5 b: IN_MAP -/
  inMap : Nat := 0
  /-- R273, 5 b: TX_FAILED -/
  txFailed : Nat := 0
  /-- R273, 5 b: RX_FAILED -/
  rxFailed : Nat := 0
  /-- R261, 5 b: outbound lanes fenced by UNIT_FENCE -/
  txFenced : Nat := 0
  /-- R261, 5 b: inbound lanes fenced by UNIT_FENCE -/
  rxFenced : Nat := 0
  /-- R273, 4 b: FAIL -/
  fail : Nat := 0
  /-- R273, 2 b: ATTEMPT -/
  attempt : Nat := 0
  /-- R257, 8 b: ROUND -/
  round : Nat := 0
  /-- R248: lanes 0-4 -/
  lane : Tbl Lane := []
  /-- R250: ceiling of the board configuration file -/
  ceiling : Nat := 3
  /-- R250: limit set by the manager -/
  limit : Nat := 3
  /-- R259: NRZ preset of the board configuration file -/
  boardPreset : Nat := 1
  /-- R257: rates the sled offers -/
  sledRates : Nat := 0
  /-- R257: lanes the sled receives with lock -/
  sledRxOk : Nat := 0
  /-- R260: rate to be entered at RATE_SWITCH -/
  nextRate : Nat := 0
  /-- R265: starts of the fast retrain since its first failure -/
  starts : Nat := 0
  /-- R260: its 1 us of idle at RATE_SWITCH has ended -/
  idleDone : Bool := false
  /-- R257: lanes whose rate-switch notice has been received -/
  notices : Nat := 0
  /-- R257, R271, 3 b: TEST field of the confirm set (0: none) -/
  test : Nat := 0
  /-- R364: a lane test runs at this rate -/
  testRate : Option Nat := none
  /-- R266: a rate change agreed while a fast retrain runs -/
  rateWait : Bool := false
  /-- R268: the idle-entry pattern has been sent -/
  idleSent : Bool := false
  /-- R268: the idle-entry pattern has been received: the detectors hold -/
  idleRcvd : Bool := false
  /-- R272, 32 b: full trainings that reached ACTIVE -/
  trains : Nat := 0
  /-- R272, 32 b: fast retrains completed -/
  fastRt : Nat := 0
  /-- R272, 32 b: failed attempts -/
  trainFail : Nat := 0
  /-- R272, 32 b: exits from electrical idle -/
  eidleExit : Nat := 0
  /-- R260: the attempt is a full training (not a rate change in service) -/
  full : Bool := false
  deriving DecidableEq, Repr

/-- A message the bridge sends in a SEQ flit (R283, R284). -/
inductive HtlMsg where
  | wr (sledLine : Nat) (w : Codeword)
  | rd (tag sledLine len : Nat)
  | mcred (returned : Nat)
  | msyncReq (nonce : Nat)
  | msyncRsp (nonce free : Nat)
  | sregRd (tag addr : Nat)
  | sregWr (tag addr data : Nat)
  | save (tag : Nat)
  | cred (vc hdr data : Nat)
  deriving DecidableEq, Repr

/-- A record the bridge sends in a LINK flit (R286). -/
inductive HtlRec where
  | retryReq (exp : Nat)
  | credData (vc hdr data : Nat)
  | initParam (resume : Bool) (vcs txSeq rxExp graceUs mgmt : Nat)
  | initDone
  | pmReq (selfRefresh : Bool)
  | rateReq (rate : Nat)
  | linkReset (reason : Nat)
  deriving DecidableEq, Repr

/-- What a read sent to a sled serves (R284, R79): lines of a unit, from one of its lines on; or nothing any more (R309). -/
inductive TagUse where
  | unit (resCh uid off : Nat)
  | lost
  deriving DecidableEq, Repr

/-- An outstanding read (R284, R309). -/
structure RdTag where
  /-- R284: first line at the sled -/
  line : Nat
  /-- R284: lines -/
  len : Nat
  /-- R309: lines that have returned, bit k for offset k -/
  got : Nat := 0
  /-- R284: its lines, as DLA line numbers -/
  lns : List Nat := []
  /-- R291: request virtual channel -/
  vc : Nat := 0
  /-- R79: what the read serves -/
  use : TagUse
  deriving DecidableEq, Repr

/-- A line of the grace store (R304). -/
structure GraceLine where
  /-- R304: DLA, as line number -/
  ln : Nat
  /-- R304: instance -/
  inst : Nat
  /-- R304: number of the key it is stored under, kept until the line drains (R338) -/
  gen : Nat
  /-- R304: ciphertext -/
  cipher : Line
  /-- R304: byte mask -/
  mask : LineMask
  /-- R304: POISON flag -/
  poison : Bool
  /-- R305: resolving channel -/
  resCh : Nat
  deriving DecidableEq, Repr

/-- The link-layer states (R298). -/
inductive LlState where
  | down | init | up | paused | grace | flush
  deriving DecidableEq, Repr

/-- What a sled said of itself (R296, R313). -/
structure SledId where
  /-- R313, 16 b -/
  vendor : Nat := 0
  /-- R313, 16 b -/
  product : Nat := 0
  /-- R313, 8 b -/
  revision : Nat := 0
  /-- R313, 14 b: CAP_GIB -/
  capGib : Nat := 0
  /-- R313: PERSIST -/
  persist : Bool := false
  /-- R313: RESTORED -/
  restored : Bool := false
  /-- R313: SELF_REFRESH -/
  selfRefresh : Bool := false
  /-- R313: ENERGY_LOW -/
  energyLow : Bool := false
  /-- R313, 16 b: SAVE_MS -/
  saveMs : Nat := 0
  /-- R313, 16 b: PROTO_REV -/
  rev : Nat := 0
  /-- R313, 64 b: SERIAL -/
  serial : Nat := 0
  deriving DecidableEq, Repr

/-- The partner's INIT_PARAM (R296). -/
structure InitParam where
  /-- R296: RESUME -/
  resume : Bool
  /-- R296: VCS, the largest supported -/
  vcs : Nat
  /-- R296: TX_SEQ -/
  txSeq : Nat
  /-- R296: RX_EXP -/
  rxExp : Nat
  /-- R296: PROTO_REV -/
  rev : Nat
  /-- R296: MGMT_BUF -/
  mgmt : Nat
  deriving DecidableEq, Repr

/-- Credits of one data VC (R292). -/
structure VcCred where
  /-- R292, 16 b: header LIMIT received -/
  hdrLimit : Nat := 0
  /-- R292, 16 b: data LIMIT received -/
  dataLimit : Nat := 0
  /-- R292, 16 b: headers SENT -/
  hdrSent : Nat := 0
  /-- R292, 16 b: data SENT -/
  dataSent : Nat := 0
  /-- R292, 16 b: the bridge's own header LIMIT -/
  rxHdr : Nat := 0
  /-- R292, 16 b: the bridge's own data LIMIT -/
  rxData : Nat := 0
  /-- R292, 16 b: header LIMIT last sent -/
  hdrTold : Nat := 0
  /-- R292, 16 b: data LIMIT last sent -/
  dataTold : Nat := 0
  /-- R292, 16 b: headers the sled has sent -/
  rxHdrSeen : Nat := 0
  /-- R292, 16 b: data units the sled has sent -/
  rxDataSeen : Nat := 0
  deriving DecidableEq, Repr

/-- A channel's link layer (R275-R314). -/
structure Link where
  /-- R298: STATE -/
  state : LlState := .down
  /-- R313, 3 b: virtual channels in use, less 1 -/
  vcs : Nat := 0
  /-- R287: the receiver is in retry -/
  retrying : Bool := false
  /-- R289: replaying -/
  replaying : Bool := false
  /-- R297: the last initialisation resumed -/
  resumed : Bool := false
  /-- R303: READ_HOLD has passed -/
  hold : Bool := false
  /-- R287, 12 b: SEQ of the next new flit -/
  txNext : Nat := 0
  /-- R287, 12 b: EXP -/
  exp : Nat := 0
  /-- R288: unacknowledged flits, oldest first: sequence number, virtual channel and message -/
  unacked : List (Nat × Nat × HtlMsg) := []
  /-- R289: sequence number of the last replay without progress, and how many in a row -/
  replayAt : Nat × Nat := (0, 0)
  /-- R289: time at which the last replay began -/
  replayTime : Nat := 0
  /-- R283: messages waiting for credit or a replay slot: VC and message -/
  txq : List (Nat × HtlMsg) := []
  /-- R292: data VCs -/
  vc : Tbl VcCred := []
  /-- R294, 8 b: AVAIL -/
  avail : Nat := 0
  /-- R294: NONCE of the resynchronisation in progress -/
  nonce : Option Nat := none
  /-- R294: next NONCE -/
  nextNonce : Nat := 0
  /-- R294: the tick has made a resynchronisation due -/
  msyncDue : Bool := false
  /-- R294: failed attempts of the resynchronisation -/
  msyncFails : Nat := 0
  /-- R293: management entries of the bridge in use -/
  mgmtUsed : Nat := 0
  /-- R284: outstanding reads by TAG -/
  tags : Tbl RdTag := []
  /-- R284, 16 b: next TAG -/
  nextTag : Nat := 0
  /-- R304: grace store, oldest first -/
  gstore : List GraceLine := []
  /-- R305: the store is draining after a resume -/
  gdrain : Bool := false
  /-- R296: the partner's INIT_PARAM -/
  param : Option InitParam := none
  /-- R296: records received: INIT_IDENT indices as bits 0 and 1, CRED_DATA of virtual channel v as bit 2 + v -/
  idents : Nat := 0
  /-- R296: identity received in this initialisation -/
  newId : SledId := {}
  /-- R313: identity in force -/
  id : SledId := {}
  /-- R296: INIT_DONE sent -/
  doneSent : Bool := false
  /-- R296: INIT_DONE received -/
  doneRcvd : Bool := false
  /-- R297: RESUME was set in the bridge's INIT_PARAM -/
  resumeOffered : Bool := false
  /-- R308: time at which INIT was entered -/
  initAt : Nat := 0
  /-- R298: FLUSH was entered from INIT -/
  flushFromInit : Bool := false
  /-- R302: link state is held -/
  holding : Bool := false
  /-- R307: SAVE_RSP has been accepted -/
  saved : Bool := false
  /-- R299: a running speed change is agreed: its rate -/
  rateReq : Option Nat := none
  /-- R300: PM_REQ has been sent -/
  pmSent : Bool := false
  /-- R300: SELF_REFRESH was asked for -/
  pmRefresh : Bool := false
  /-- R300: the sled's DRAM is in self-refresh -/
  refreshing : Bool := false
  /-- R296, R513: the sled's identity was refused -/
  refused : Bool := false
  /-- R313, 14 b: GRACE_US -/
  graceUs : Nat := 200
  /-- R313, 3 b: VC_SET -/
  vcSet : Nat := 3
  /-- R313: IDLE_EN -/
  idleEn : Bool := false
  /-- R312, 32 b -/
  badFlit : Nat := 0
  /-- R312, 32 b -/
  fecUncorr : Nat := 0
  /-- R312, 32 b -/
  replays : Nat := 0
  /-- R312, 32 b -/
  retryReqs : Nat := 0
  /-- R312, 32 b -/
  replayTo : Nat := 0
  /-- R312, 32 b -/
  linkDowns : Nat := 0
  /-- R312, 32 b -/
  resumes : Nat := 0
  /-- R312, 32 b -/
  flushes : Nat := 0
  /-- R312, 32 b -/
  protoErr : Nat := 0
  /-- R312, 32 b -/
  msyncFix : Nat := 0
  /-- R285, R414: EVENT messages waiting to be read by resident firmware -/
  events : Nat := 0
  /-- R312, 32 b -/
  holdPoison : Nat := 0
  /-- R312, 64 b -/
  txFlits : Nat := 0
  /-- R312, 64 b -/
  rxFlits : Nat := 0
  deriving DecidableEq, Repr

end Sys2Proof.Machine
end

