-- ==== Sys2Proof/Machine/TypesScan.lean ====
section
/-! DEFINITION. The plain data of job rings, scan jobs, pieces and retriever lanes, of Citan operations and changes waiting for a tick, of the journal's groups, and of the CXL device. -/

namespace Sys2Proof.Machine

open Sys2Proof

/-- A job ring of a function (R144, R145, R181). -/
structure Ring where
  /-- R181, 64 b: BASE -/
  base : Nat := 0
  /-- R181, 4 b: SIZE_LOG2 -/
  sizeLog2 : Nat := 4
  /-- R181: ENABLE -/
  enable : Bool := false
  /-- R145, 16 b: HEAD -/
  head : Nat := 0
  /-- R145, 16 b: TAIL -/
  tail : Nat := 0
  /-- R181: DB_ERR -/
  dbErr : Bool := false
  /-- R181: CFG_ERR -/
  cfgErr : Bool := false
  /-- R181: FETCH_ERR -/
  fetchErr : Bool := false
  /-- R181: RESULT_ERR -/
  resultErr : Bool := false
  /-- R181, 16 b: ERR_INDEX -/
  errIndex : Nat := 0
  /-- R155: cancelled before it was fetched: index and JOB_TAG -/
  marks : List (Nat × Nat) := []
  /-- R156: JOB_TAGs of the descriptors fetched, by index, among the last 2^SIZE_LOG2 before TAIL -/
  tags : Tbl Nat := []
  /-- R150: doorbells not yet passed by HEAD: TAIL and number of the next host request then -/
  bells : List (Nat × Nat) := []
  deriving DecidableEq, Repr

/-- A block of host memory that a job's fetch reads (R148): not asked for; being read, with the bytes so far and the ranges
(offset, length) still to come; read; or failed. -/
inductive Block where
  | unasked
  | reading (got : List Byte) (left : List (Nat × Nat))
  | read (bytes : List Byte)
  | failed
  deriving DecidableEq, Repr

/-- A descriptor being fetched, from the visit that reads it to the check of its job (R146-R148). -/
structure Fetch where
  /-- R146: function -/
  fn : Nat
  /-- R146: ring -/
  ring : Nat
  /-- R145: descriptor index -/
  index : Nat
  /-- R150: number of the first host request after the descriptor's doorbell -/
  before : Nat
  /-- R157: descriptor -/
  desc : Block := .unasked
  /-- R169: result ring header -/
  hdr : Block := .unasked
  /-- R164: program block -/
  prog : Block := .unasked
  /-- R167: set table -/
  set : Block := .unasked
  /-- R157: extent list -/
  list : Block := .unasked
  /-- R145: the ring was enabled anew since the descriptor's read was issued, so that HEAD is not the read's any more (log entry 104) -/
  stale : Bool := false
  deriving DecidableEq, Repr

/-- One aggregate's exact partial (R168). -/
structure AggVal where
  /-- R168: values counted -/
  count : Nat := 0
  /-- R168: exact sum of integers, or of floats in units of 2^-1074 -/
  sum : Int := 0
  /-- R168: a NaN was added -/
  nan : Bool := false
  /-- R168: plus infinity was added -/
  pinf : Bool := false
  /-- R168: minus infinity was added -/
  ninf : Bool := false
  /-- R168: best value of MIN or MAX so far, as an ordered key -/
  best : Option Int := none
  deriving DecidableEq, Repr

/-- One group's partials (R168). -/
structure GroupAcc where
  /-- R168: ROWS -/
  rows : Nat := 0
  /-- R168: aggregates 0-3 -/
  val : List AggVal := []
  deriving DecidableEq, Repr

/-- A record to be written to a result ring (R171), but for its JOB_TAG and SEQ. -/
structure Rec where
  /-- R171: KIND -/
  kind : Nat
  /-- R171: FLAGS -/
  flags : Nat := 0
  /-- R171: PIECE -/
  piece : Nat
  /-- R171: COUNT -/
  count : Nat := 0
  /-- R171: payload, from byte 16 -/
  body : List Byte := []
  deriving DecidableEq, Repr

/-- What the rows of a piece evaluated so far come to: rows evaluated, qualified and skipped for poison, row groups skipped and their rows, the
entries of the row record that is being filled, and the partials. -/
structure Eval where
  /-- R171: rows evaluated -/
  rows : Nat := 0
  /-- R172: rows qualified -/
  qual : Nat := 0
  /-- R175: rows skipped for poison -/
  skipped : Nat := 0
  /-- R162: row groups skipped -/
  groupsBad : Nat := 0
  /-- R162: rows of the row groups skipped -/
  rowsBad : Nat := 0
  /-- R171: entries of the row record being filled -/
  entries : List (List Byte) := []
  /-- R168: partial aggregates -/
  acc : List GroupAcc := List.replicate 17 { rows := 0, val := List.replicate 4 {} }
  deriving DecidableEq, Repr

/-- A piece: one extent of a job (R128, R158). -/
structure Piece where
  /-- R158: job -/
  job : Nat
  /-- R158: piece ordinal -/
  ord : Nat
  /-- R158: extent number, IA[46:21] -/
  ext : Nat
  /-- R159: the extent is valid for the owner -/
  backed : Bool
  /-- R158: first line of the extent, as DLA line number -/
  dla : Nat
  /-- R129: near piece -/
  near : Bool
  /-- R160: lines asked for, by line of the extent -/
  asked : List Nat := []
  /-- R174: lines read, by line of the extent: data and poison -/
  got : Tbl (Line × Bool) := []
  /-- R90: snapshots of reads in progress, by line of the extent -/
  snap : Tbl Snap := []
  /-- R178: lines whose unit has been admitted, by line of the extent -/
  begun : List Nat := []
  /-- R154, R161: position: row group (0 in row layout) -/
  group : Nat := 0
  /-- R154, R160: position: next row of the extent, or of the row group -/
  row : Nat := 0
  /-- R168-R175: what its rows have come to -/
  ev : Eval := {}
  /-- R154: records in the output buffer, oldest first -/
  out : List Rec := []
  /-- R154: every row has been evaluated, and every record it owes is in the output buffer -/
  ended : Bool := false
  /-- R176: piece status, once it has ended -/
  status : Nat := 0
  /-- R155: it has been granted -/
  granted : Bool := false
  deriving DecidableEq, Repr

/-- A result ring's header as the bridge holds it (R169, R170). -/
structure ResultRing where
  /-- R169: BASE -/
  base : Nat := 0
  /-- R169: SIZE -/
  size : Nat := 4096
  /-- R169: PRODUCER -/
  prod : Nat := 0
  /-- R169: CONSUMER as last read -/
  cons : Nat := 0
  /-- R170: stride of the last read of CONSUMER, plus 1 -/
  readAt : Nat := 0
  /-- R170: a read of CONSUMER is outstanding -/
  reading : Bool := false
  /-- R170: a record was refused for lack of room since CONSUMER was last read -/
  short : Bool := false
  /-- R170: records written since PRODUCER was last written -/
  dirty : Bool := false
  deriving DecidableEq, Repr

/-- An accepted job (R148-R177). -/
structure Job where
  /-- R146: function, and so instance -/
  fn : Nat
  /-- R144: ring -/
  ring : Nat
  /-- R145: descriptor index -/
  index : Nat
  /-- R157: descriptor, 128 bytes -/
  desc : List Byte
  /-- R164: program block -/
  prog : List Byte
  /-- R167: set table -/
  set : List Byte
  /-- R169: result ring -/
  rr : ResultRing := {}
  /-- R149: held for a result ring in use -/
  ringHeld : Bool := false
  /-- R150: first host request after its doorbell, while it waits under FENCE_START -/
  fence : Option Nat := none
  /-- R128: handed to the Herder -/
  split : Bool := false
  /-- R158: pieces not placed yet, in ascending DLA order: first ordinal, first extent, count -/
  runs : List (Nat × Nat × Nat) := []
  /-- R172: PIECES_TOTAL -/
  total : Nat := 0
  /-- R172: PIECES_OK -/
  ok : Nat := 0
  /-- R172: PIECES_OTHER -/
  other : Nat := 0
  /-- R172: PIECES_DROPPED -/
  dropped : Nat := 0
  /-- R172: RECORDS -/
  records : Nat := 0
  /-- R172: ROWS_EVALUATED -/
  rows : Nat := 0
  /-- R172: ROWS_QUALIFIED -/
  qual : Nat := 0
  /-- R172: ROWS_SKIPPED -/
  skipped : Nat := 0
  /-- R168: merged aggregates -/
  acc : List GroupAcc := []
  /-- R155: pieces were dropped by a cancellation -/
  cancelled : Bool := false
  /-- R175: the first POISONED piece stopped it -/
  poisonStop : Bool := false
  /-- R177: the Herder was lost -/
  herderLost : Bool := false
  /-- R227: a re-read of its CONSUMER failed: it writes no record any more -/
  lost : Bool := false
  /-- R148: INVALID_DESC (2) or FETCH_ERROR (3) at the check, with DETAIL -/
  refused : Option (Nat × Nat) := none
  /-- R176: records of pieces that ended without a lane, not written yet -/
  ends : List Rec := []
  /-- R170: final records not written yet -/
  finals : Option (List Rec) := none
  deriving DecidableEq, Repr

/-- The retriever part of a channel (R152-R185). -/
structure Rtv where
  /-- R152: near queue -/
  nearQ : List Piece := []
  /-- R152: far queue -/
  farQ : List Piece := []
  /-- R129: the last grant was of a near piece -/
  lastNear : Bool := false
  /-- R152: instances last granted: near, far -/
  lastInst : Nat × Nat := (255, 255)
  /-- R152: granted pieces by physical lane -/
  lane : Tbl Piece := []
  /-- R154: parking store -/
  parked : List Piece := []
  /-- R176: granted pieces that restart and wait for another lane -/
  again : List Piece := []
  /-- R178: what each lane has done in a stride: the stride, lines read, rows evaluated -/
  work : Tbl (Nat × Nat × Nat) := []
  /-- R152: FCLK timestamp of the last grant -/
  grantAt : Option Nat := none
  /-- R184, 5 b: ACTIVE -/
  active : Nat := 0x0F
  /-- R184, 5 b: FENCED -/
  fenced : Nat := 0
  /-- R184, 5 b: TEST -/
  test : Nat := 0
  /-- R183, 64 b: lines read -/
  lines : Nat := 0
  /-- R183, 64 b: rows evaluated -/
  rows : Nat := 0
  /-- R183, 64 b: rows qualified -/
  qual : Nat := 0
  /-- R183, 64 b: result bytes written -/
  outBytes : Nat := 0
  /-- R183, 32 b: pieces ended -/
  pieces : Nat := 0
  /-- R183, 32 b: pieces restarted -/
  restart : Nat := 0
  /-- R183, 32 b: rows skipped for poison -/
  poisonRows : Nat := 0
  /-- R183, 32 b: pieces parked -/
  parks : Nat := 0
  /-- R183, 32 b: row groups skipped -/
  pageErr : Nat := 0
  deriving DecidableEq, Repr

/-- The job fetcher and the dispatcher (R144-R185). -/
structure Scans where
  /-- R144: rings, by function × 8 + ring -/
  ring : Tbl Ring := []
  /-- R146: descriptors being fetched -/
  fetch : Tbl Fetch := []
  /-- R146: number of the next fetch or job -/
  nextId : Nat := 0
  /-- R146: the ring that the fetcher visits next, by function × 8 + ring -/
  visit : Nat := 0
  /-- R148: accepted, uncompleted jobs in order of acceptance -/
  job : Tbl Job := []
  /-- R177: STOPPED -/
  stopped : Bool := false
  /-- R182, 64 b: jobs accepted -/
  accepted : Nat := 0
  /-- R182, 32 b: jobs completed INVALID_DESC -/
  descErr : Nat := 0
  /-- R182, 32 b: jobs that waited under FENCE_START -/
  fenceWait : Nat := 0
  /-- R182, 32 b: instance-strides throttled -/
  throttle : Nat := 0
  /-- R182, 32 b: cancellations OK -/
  cancelOk : Nat := 0
  /-- R182, 32 b: cancellations TOO_LATE -/
  cancelLate : Nat := 0
  /-- R182, 32 b: jobs held for a result ring -/
  ringHold : Nat := 0
  /-- R379: jobs completed, by instance -/
  done : Tbl Nat := []
  /-- R379: rows evaluated, by instance -/
  rowsOf : Tbl Nat := []
  deriving DecidableEq, Repr

/-- A posted command being answered (R350, R351): function, slot, doorbell order, opcode and TAG. -/
structure CmdRef where
  /-- R330: function -/
  fn : Nat
  /-- R330: slot -/
  slot : Nat
  /-- R330: doorbell order, which tells this command from a later one in the slot -/
  order : Nat
  /-- R350: OPCODE -/
  op : Nat
  /-- R350: TAG -/
  tag : Nat
  deriving DecidableEq, Repr

/-- An asynchronous operation (R360), running or ended. -/
structure Operation where
  /-- R360: issuing function -/
  fn : Nat
  /-- R350: TAG -/
  tag : Nat
  /-- R350: OPCODE -/
  op : Nat
  /-- R360: object: kind × 65,536 + number -/
  obj : Nat
  /-- R364: running -/
  running : Bool := true
  /-- R364: final status -/
  status : Nat := 0
  /-- R364: PROGRESS -/
  progress : Nat := 0
  /-- R364: END_STRIDE -/
  endStride : Nat := 0
  /-- R362: its notification is to be discarded -/
  mute : Bool := false
  /-- R370: count kept for its OPERATION_DONE (extents folded) -/
  count : Nat := 0
  deriving DecidableEq, Repr

/-- A change that waits for a tick (R31, R78, R339, R439). -/
inductive Change where
  | instCreate (i : Nat)
  | instTeardown (i : Nat)
  | keyChange (i gen : Nat) (imported : Bool)
  | precolour (i first count colour : Nat)
  | semAccess (sem : Nat) (set : BitVec 256)
  | semRelease (mask : Nat)
  | hints (i first count set change : Nat)
  | tune (t : Tune)
  | shares (a b c : Nat)
  | reserve (pct : Nat)
  | persist (on : Bool)
  | veto (mask : Nat)
  | classify (block src n w : Nat)
  | whistle (srcs : List Nat)
  | power (n : Nat)
  | thermal (warn : Nat)
  | linkIdle (mask en : Nat)
  | evacStart (ch : Nat) (auto : Bool)
  | evacStop (ch : Nat)
  | onAlt (ch : Nat)
  | copySwitch (copy : Nat)
  | copyEnd (copy cause : Nat)
  | fold (desc : Nat)
  | sledRecord (ch : Nat) (admitted : Bool) (serial capGib pct : Nat) (persist : Bool)
  | unfence (kind unit sub : Nat)
  | fenceRecord (kind unit sub : Nat)
  | inst0 (g : Grant)
  | vfLimit (log2 : Nat)
  | hdmCommit (dec : Nat) (h : Hdm)
  | segRestored (ch inst idx : Nat)
  | rebuilt (desc : Nat)
  | stackRebuilt (stack : Nat)
  deriving DecidableEq, Repr

/-- A prepared change with its commit group (R439) and the command that answers when it has taken effect (R339). -/
structure Prepared where
  /-- R439: the change -/
  change : Change
  /-- R439, R440: the most records that its group has in staging, COMMIT included; 0 where it waits for none -/
  records : Nat := 0
  /-- R439: it waits for its COMMIT record -/
  awaits : Bool := false
  /-- R439: its COMMIT record is written on every available copy -/
  committed : Bool := false
  /-- R339: stride of the tick at which it took effect -/
  doneAt : Option Nat := none
  /-- R351: the command to answer -/
  cmd : Option CmdRef := none
  /-- R351: result bytes of the answer -/
  results : List Byte := []
  deriving DecidableEq, Repr

/-- Citan and the changes it has under way (R350-R381). -/
structure Citan where
  /-- R339: changes waiting for a tick or for its glide, oldest first -/
  prepared : List Prepared := []
  /-- R360: operations, newest last, at most 64 ended ones -/
  ops : List Operation := []
  /-- R352: commands that run without waiting for a tick (LANE_TEST, LINK_TRAIN, LINK_RATE_LIMIT, UNIT_FENCE, INST_TEARDOWN), with the channels they wait for -/
  waits : List (CmdRef × Nat) := []
  /-- R355: place in the round of functions that is visited next, 0-256 -/
  visit : Nat := 0
  deriving DecidableEq, Repr

/-- The map state and settings that the journal's copies on the sleds hold (R434), as they stood when HBM was last lost. -/
structure Image where
  /-- R434: extent descriptors -/
  desc : Tbl Desc
  /-- R434: remap exceptions -/
  exc : Tbl ExcEntry
  /-- R434: extent use -/
  ext : Tbl SledExt
  /-- R434: segment entries -/
  seg : Tbl SegEntry
  /-- R434: instance table -/
  inst : Tbl Inst
  /-- R434: settings: tunables -/
  tune : Tune
  /-- R434: settings: shares -/
  shares : Nat × Nat × Nat
  /-- R434: settings: reserve -/
  reservePct : Nat
  /-- R434: settings: persist mode -/
  persistReq : Bool
  /-- R434: settings: VF window limit -/
  vfLimitNext : Nat
  /-- R434: settings: veto mask -/
  veto : Nat
  /-- R434: settings: warning threshold -/
  warnC : Nat
  /-- R434: settings: N and W of fault sources: block, source, N, W -/
  classes : List (Nat × Nat × Nat × Nat)
  /-- R434: settings of links, by channel: rate limit, VC_SET, IDLE_EN, GRACE_US -/
  links : Tbl (Nat × Nat × Bool × Nat)
  /-- R434: sled admissions: serial, capacity in GiB, reserve extents, by channel -/
  sled : Tbl (Nat × Nat × Nat)
  /-- R398, R434: fences of channels -/
  chFenced : Nat
  /-- R398, R434: fences of musher cores: fenced, active, spare in service -/
  cores : Nat × Nat × Bool
  /-- R398, R434: fences of pseudo-channels, with the spares of each stack in service and the frames left -/
  hbm : (List Nat × List Nat) × (Nat × Nat) × (Nat × Nat)
  /-- R398, R434: fences of lanes, by channel: retriever lanes active and fenced, outbound and inbound lanes -/
  lanes : Tbl (Nat × Nat × Nat × Nat)
  /-- R399, R434: lines whose extents freeze when a channel's fence lifts, by channel -/
  lost : Tbl (List Nat)
  /-- R434: the journal: sequence, copies, checkpoint, END record -/
  jrn : Journal
  /-- R434: running operations -/
  ops : List Operation
  deriving DecidableEq, Repr

/-- One CXL event record (R211), drawn from a channel's fault block: event log, type (General Media or Memory Module), handle, time, block and source. -/
structure CxlEvent where
  /-- R211: event log: 0 informational, 1 warning, 2 failure, 3 fatal -/
  log : Nat
  /-- R211: General Media event (else Memory Module) -/
  media : Bool
  /-- R211: handle -/
  handle : Nat
  /-- R211: host time of the event -/
  time : Nat
  /-- R211: fault block -/
  block : Nat
  /-- R211: source -/
  src : Nat
  /-- R211: detail -/
  detail : Nat
  deriving DecidableEq, Repr

/-- The CXL device registers' own state (R210, R211). -/
structure CxlDev where
  /-- R211: event records, oldest first -/
  events : List CxlEvent := []
  /-- R211: handle of the next record -/
  nextHandle : Nat := 1
  /-- R211, 32 b: event interrupt policy, one byte for each of logs 0-3 -/
  policy : Nat := 0
  /-- R211, 64 b: host time last set -/
  hostTime : Nat := 0
  /-- R211: FCLK timestamp at which it was set; none while never set -/
  setAt : Option Nat := none
  deriving DecidableEq, Repr

end Sys2Proof.Machine
end

