-- ==== Sys2Proof/Machine/TypesBridge.lean ====
section
/-! DEFINITION. What the bridge sends, and the whole of its state but the near tier's contents and the queue of commands. -/

namespace Sys2Proof.Machine

open Sys2Proof

/-- What a channel's lanes send besides flits (R256-R259, R268-R270). -/
inductive LaneSend where
  | offerSets (rates rxOk : Nat)
  | confirmSets (rate outMap inMap test : Nat) (loopLocked : Bool)
  | switchNotice
  | trainingFrames (outMap inMap : Nat) (fast : Bool)
  | alignment
  | idlePattern
  | exitBurst
  | prbs (lane ctrl : Nat)
  | nothing
  deriving DecidableEq, Repr

/-- The pins the bridge drives (R189, R196, R407, R510, R547). -/
inductive Pin where
  | wakeN | clkreqN | snapOut | faultN | qspiFree
  | pwren (ch : Nat) | pwrLed (ch : Nat) | attnLed (ch : Nat)
  deriving DecidableEq, Repr

/-- Something the bridge sends out while it runs one command. -/
inductive Emit where
  /-- R223: completion to a host request: function, tag, status (0 SC, 1 UR, 2 RRS, 4 CA), data, EP -/
  | cpl (fn tag status : Nat) (data : List Byte) (ep : Bool)
  /-- R233: MemData: tag, line, poison, DevLoad -/
  | memData (tag : Nat) (data : Line) (poison : Bool) (devload : Nat)
  /-- R233: Cmp: tag, DevLoad -/
  | cmp (tag devload : Nat)
  /-- R225: memory write to the host: requester, address, data -/
  | hostWr (fn addr : Nat) (data : List Byte)
  /-- R225: memory read of the host: requester, tag, address, length -/
  | hostRd (fn tag addr len : Nat)
  /-- R242: MSI-X message: function, vector, address, data -/
  | msix (fn vec addr data : Nat)
  /-- R243: Assert_INTA or Deassert_INTA -/
  | intx (on : Bool)
  /-- R237: error message: 0 ERR_COR, 1 ERR_NONFATAL, 2 ERR_FATAL -/
  | errMsg (fn sev : Nat)
  /-- R194, R196: PME, or PME_TO_Ack -/
  | pme (ack : Bool)
  /-- R187, R190, R195: training sets or width negotiation: 0, what the bridge offers: bit 0 Compute Express Link, bit 1 Flit Mode Supported; 1, the
  width agreed to; 2, the width asked for -/
  | linkOffer (kind value : Nat)
  /-- R219: VC0 receive credits advertised: type (0 posted, 1 non-posted, 2 completion), header, data; 0 for infinite -/
  | credits (kind hdr data : Nat)
  /-- R225: LTR message: snoop and no-snoop latency -/
  | ltr (snoop noSnoop : Nat)
  /-- R27, R336, R417: data of a register read -/
  | regData (value : Nat)
  /-- R283: message in a SEQ flit: channel, virtual channel, sequence number -/
  | htl (ch vc seq : Nat) (m : HtlMsg)
  /-- R286: record in a LINK flit -/
  | linkRec (ch : Nat) (r : HtlRec)
  /-- R256-R270: lane pattern -/
  | lanes (ch : Nat) (what : LaneSend)
  /-- R510, R547: level of a pin -/
  | pin (p : Pin) (high : Bool)
  /-- R211: CXL mailbox response: return code and payload -/
  | cxl (code : Nat) (payload : List Byte)
  /-- R455, R547: JTAG, UART or MCTP answer -/
  | side (port code : Nat)
  /-- R435: write of a log or record outside the bridge's own storage (NOR, fuse) -/
  | store (what value : Nat)
  deriving DecidableEq, Repr

/-- One channel: scheduler, access, lanes, link layer, Herder's part, sled position, retriever part. -/
structure Channel where
  /-- R29: scheduler -/
  sch : Sched := {}
  /-- R66: translation slice, write-combining buffer, line protection -/
  acc : Access := {}
  /-- R248: lanes -/
  phy : Phy := {}
  /-- R275: link layer -/
  ll : Link := {}
  /-- R138: Herder's part -/
  herd : HerdCh := {}
  /-- R510: sled position -/
  svc : Service := {}
  /-- R183: retriever part -/
  rtv : Rtv := {}
  deriving DecidableEq, Repr

/-- The near tier's contents (R106): a frame's line is held under frame × 64 + line. A line not listed holds nothing the
bridge has written since HBM was last initialised. -/
abbrev Near := Tbl Line

/-- The parts of the bridge that hold counters, as they stood when the present FCLK began (the model's own, log entry 91). -/
structure Mark where
  /-- R65: the channels of then (the model's own field, log entry 91) -/
  ch : Tbl Channel := []
  /-- R65: the Herder of then (the model's own field, log entry 91) -/
  herd : Herder := {}
  /-- R65: the tenancy of then (the model's own field, log entry 91) -/
  ten : Tenancy := {}
  /-- R65: the host port of then (the model's own field, log entry 91) -/
  port : HostPort := {}
  /-- R65: the fault blocks of then (the model's own field, log entry 91) -/
  block : Tbl FaultBlock := []
  /-- R65: the interrupt controller of then (the model's own field, log entry 91) -/
  icu : Icu := {}
  /-- R65: the journal of then (the model's own field, log entry 91) -/
  jrn : Journal := {}
  /-- R65: the power of then (the model's own field, log entry 91) -/
  pwr : Power := {}
  /-- R65: the telemetry of then (the model's own field, log entry 91) -/
  tlm : Telemetry := {}
  /-- R65: the scans of then (the model's own field, log entry 91) -/
  scan : Scans := {}
  /-- R532: the line totals, whatever has been cleared in the FCLK (the model's own field, log entry 91) -/
  totals : Telemetry := {}
  deriving DecidableEq, Repr

/-- The bridge: every part of its state but the near tier's contents and the queue of commands that wait. -/
structure Bridge where
  /-- R24-R31: clock and global registers -/
  glb : Global := {}
  /-- R12: channels 0-15 -/
  ch : Tbl Channel := []
  /-- R106: Herder and near-tier directory -/
  herd : Herder := {}
  /-- R315: tenancy unit -/
  ten : Tenancy := {}
  /-- R186: host port -/
  port : HostPort := {}
  /-- R382: faults -/
  faults : Faults := {}
  /-- R412: interrupt controller -/
  icu : Icu := {}
  /-- R434: journal -/
  jrn : Journal := {}
  /-- R434: what the journal's copies hold while HBM holds no maps -/
  image : Option Image := none
  /-- R452: kennel -/
  knl : Kennel := {}
  /-- R467: boot and firmware -/
  boot : Boot := {}
  /-- R475: fuses -/
  fuses : Fuses := {}
  /-- R485: power and reset -/
  pwr : Power := {}
  /-- R526: telemetry -/
  tlm : Telemetry := {}
  /-- R144: scans -/
  scan : Scans := {}
  /-- R350: Citan -/
  citan : Citan := {}
  /-- R210: CXL device registers -/
  cxl : CxlDev := {}
  /-- What the bridge sent while it ran the last command, oldest first (the model's own field, log entry 2) -/
  out : List Emit := []
  /-- Near-tier lines the command writes, or empties: frame × 64 + line (the model's own field, log entry 3) -/
  lands : List (Nat × Option Line) := []
  /-- R65: the counters as they stood when the present FCLK began (the model's own field, log entry 91) -/
  mark : Mark := {}
  /-- Free values taken so far (the model's own field, log entry 4) -/
  free : Nat := 0
  deriving DecidableEq, Repr

end Sys2Proof.Machine
end

