-- ==== Sys2Proof/Machine/Operands.lean ====
section
/-! DEFINITION. Operand forms: little-endian bytes, lines, command and response buffers, descriptor and program fields. -/

namespace Sys2Proof.Machine

open Sys2Proof

/-- The number that bytes spell, the first byte least significant (R4). -/
def leNat : List Byte → Nat
  | [] => 0
  | b :: t => b.toNat + 256 * leNat t

/-- `n` bytes that spell a number (R4). -/
def leBytes : Nat → Nat → List Byte
  | 0, _ => []
  | n + 1, v => BitVec.ofNat 8 v :: leBytes n (v / 256)

/-- `len` bytes from offset `off`; bytes past the end are 0. -/
def bytesAt (off len : Nat) (bs : List Byte) : List Byte :=
  (bs.drop off).take len ++ List.replicate (len - ((bs.drop off).take len).length) 0

/-- The field of `len` bytes at offset `off` (R4). -/
def fieldAt (off len : Nat) (bs : List Byte) : Nat := leNat (bytesAt off len bs)

/-- Some byte from offset `off` on, `len` bytes long, is not 0: the lowest such offset. -/
def nonZeroFrom (off len : Nat) (bs : List Byte) : Option Nat :=
  ((List.range len).map (· + off)).find? (fun k => decide (fieldAt k 1 bs ≠ 0))

/-- A line of 64 bytes from a list of bytes (R12). -/
def lineOf (bs : List Byte) : Line := BitVec.ofNat 512 (leNat (bytesAt 0 64 bs))

/-- Byte `k` of a line. -/
def lineByte (l : Line) (k : Nat) : Byte := BitVec.ofNat 8 (l.toNat / 2 ^ (8 * k))

/-- The bytes of a line. -/
def lineBytes (l : Line) : List Byte := leBytes 64 l.toNat

/-- The 512-bit pattern that has byte `k` all ones where bit `k` of the mask is set. -/
def maskBits (m : LineMask) : Line :=
  BitVec.ofNat 512 (leNat ((List.range 64).map (fun k => if m.getLsbD k then 0xFF else 0)))

/-- Bytes of `new` under the mask over `old` (R89, R90). -/
def mergeLine (m : LineMask) (new old : Line) : Line :=
  (new &&& maskBits m) ||| (old &&& ~~~ maskBits m)

/-- The mask that covers all 64 bytes. -/
def fullMask : LineMask := BitVec.allOnes 64

/-- One line's part of a write of bytes at an address: line number, mask and bytes placed (R88). -/
def linePart (addr : Nat) (data : List Byte) (be : List Bool) (ln : Nat) : LineMask × Line :=
  let at? : Nat → Option Byte := fun k =>
    let a := ln * 64 + k
    if addr ≤ a ∧ a < addr + data.length ∧ be.getD (a - addr) false then some (data.getD (a - addr) 0) else none
  (BitVec.ofNat 64 (packBits (fun k => (at? k).isSome) 64),
   lineOf ((List.range 64).map (fun k => (at? k).getD 0)))

/-- The lines that `len` bytes from an address touch, in ascending order. -/
def linesOf (addr len : Nat) : List Nat :=
  if len = 0 then [] else (List.range ((addr + len - 1) / 64 - addr / 64 + 1)).map (· + addr / 64)

/-- The bytes that `words` of a buffer of 64 words spell (R329). -/
def bufBytes (t : Tbl Word) : List Byte :=
  ((List.range 64).map (fun k => leBytes 4 (Tbl.get 0 k t).toNat)).flatten

/-- A buffer of 64 words from bytes; words of zero are not listed (R329). -/
def bufOf (bs : List Byte) : Tbl Word :=
  ((List.range 64).map (fun k => (k, BitVec.ofNat 32 (fieldAt (4 * k) 4 bs)))).filter (fun e => decide (e.2 ≠ 0))

/-- Break `n` into blocks of at most `m`, from a start: start and length of each (fuel bounds the blocks). -/
def blocksOf (m : Nat) : Nat → Nat → Nat → List (Nat × Nat)
  | 0, _, _ => []
  | fuel + 1, start, n =>
    if n = 0 then []
    else
      let k := min n (m - start % m)
      (start, k) :: blocksOf m fuel (start + k) (n - k)

/-- A 64-bit mask with bits `first .. first + n - 1` set. -/
def maskRange (first n : Nat) : BitVec 64 := BitVec.ofNat 64 ((2 ^ n - 1) * 2 ^ first)

/-- Bit `k` of a mask of any width. -/
def setBit {w : Nat} (m : BitVec w) (k : Nat) (on : Bool) : BitVec w :=
  if on then m ||| BitVec.ofNat w (2 ^ k) else m &&& ~~~ BitVec.ofNat w (2 ^ k)

/-- Number of bits set in a mask. -/
def bitCount {w : Nat} (m : BitVec w) : Nat := popCount m.toNat w

/-- Set or clear bit `k` of a number. -/
def putBit (n k : Nat) (on : Bool) : Nat :=
  if bitOf n k = on then n else if on then n + 2 ^ k else n - 2 ^ k

/-- Slots added, resource by resource (R32). -/
def Slots.add (a b : Slots) : Slots := ⟨a.out + b.out, a.inb + b.inb, a.eng + b.eng⟩

/-- Slots taken away, no further than 0 (R32). -/
def Slots.sub (a b : Slots) : Slots := ⟨a.out - b.out, a.inb - b.inb, a.eng - b.eng⟩

/-- The smaller on each resource. -/
def Slots.min (a b : Slots) : Slots := ⟨Nat.min a.out b.out, Nat.min a.inb b.inb, Nat.min a.eng b.eng⟩

/-- `a` fits in `b` on every resource. -/
def Slots.fits (a b : Slots) : Bool := a.out ≤ b.out && a.inb ≤ b.inb && a.eng ≤ b.eng

end Sys2Proof.Machine
end

