-- ==== Sys2Proof/Machine/Ops.lean ====
section
/-! DEFINITION. The named operations over the bridge's state that every family shares: access to a channel, what is sent,
free values, counters, the stride. -/

namespace Sys2Proof.Machine

open Sys2Proof

/-- Add to what the command sends. -/
def Bridge.emit (e : Emit) (b : Bridge) : Bridge := { b with out := b.out ++ [e] }

/-- Send several things. -/
def Bridge.emits (es : List Emit) (b : Bridge) : Bridge := { b with out := b.out ++ es }

/-- Channel `n`. -/
def Bridge.chan (b : Bridge) (n : Nat) : Channel := Tbl.get {} n b.ch

/-- Change channel `n`. -/
def Bridge.modCh (n : Nat) (f : Channel → Channel) (b : Bridge) : Bridge :=
  { b with ch := Tbl.put n (f (b.chan n)) b.ch }

/-- Change the scheduler of channel `n`. -/
def Bridge.modSch (n : Nat) (f : Sched → Sched) (b : Bridge) : Bridge := b.modCh n (fun c => { c with sch := f c.sch })

/-- Change the access path of channel `n`. -/
def Bridge.modAcc (n : Nat) (f : Access → Access) (b : Bridge) : Bridge := b.modCh n (fun c => { c with acc := f c.acc })

/-- Change the lanes of channel `n`. -/
def Bridge.modPhy (n : Nat) (f : Phy → Phy) (b : Bridge) : Bridge := b.modCh n (fun c => { c with phy := f c.phy })

/-- Change the link layer of channel `n`. -/
def Bridge.modLl (n : Nat) (f : Link → Link) (b : Bridge) : Bridge := b.modCh n (fun c => { c with ll := f c.ll })

/-- Change the Herder's part of channel `n`. -/
def Bridge.modHc (n : Nat) (f : HerdCh → HerdCh) (b : Bridge) : Bridge := b.modCh n (fun c => { c with herd := f c.herd })

/-- Change the sled position of channel `n`. -/
def Bridge.modSvc (n : Nat) (f : Service → Service) (b : Bridge) : Bridge := b.modCh n (fun c => { c with svc := f c.svc })

/-- Change the retriever part of channel `n`. -/
def Bridge.modRtv (n : Nat) (f : Rtv → Rtv) (b : Bridge) : Bridge := b.modCh n (fun c => { c with rtv := f c.rtv })

/-- Change the clock and global registers. -/
def Bridge.modGlb (f : Global → Global) (b : Bridge) : Bridge := { b with glb := f b.glb }

/-- Change the Herder. -/
def Bridge.modHerd (f : Herder → Herder) (b : Bridge) : Bridge := { b with herd := f b.herd }

/-- Change what is noted of the counters at the beginning of the FCLK. -/
def Bridge.modMark (f : Mark → Mark) (b : Bridge) : Bridge := { b with mark := f b.mark }

/-- Change the tenancy unit. -/
def Bridge.modTen (f : Tenancy → Tenancy) (b : Bridge) : Bridge := { b with ten := f b.ten }

/-- Change the host port. -/
def Bridge.modPort (f : HostPort → HostPort) (b : Bridge) : Bridge := { b with port := f b.port }

/-- Instance `i` (R315). -/
def Bridge.inst (b : Bridge) (i : Nat) : Inst := Tbl.get {} i b.ten.inst

/-- Change instance `i`. -/
def Bridge.modInst (i : Nat) (f : Inst → Inst) (b : Bridge) : Bridge :=
  b.modTen (fun t => { t with inst := Tbl.put i (f (Tbl.get {} i t.inst)) t.inst })

/-- Function `f`'s configuration (R196). -/
def Bridge.func (b : Bridge) (f : Nat) : Func := Tbl.get {} f b.port.fn

/-- Change function `f`. -/
def Bridge.modFunc (f : Nat) (g : Func → Func) (b : Bridge) : Bridge :=
  b.modPort (fun p => { p with fn := Tbl.put f (g (Tbl.get {} f p.fn)) p.fn })

/-- The mailbox of function `f` (R329). -/
def Bridge.mbx (b : Bridge) (f : Nat) : Mailbox := Tbl.get {} f b.ten.mbx

/-- Change the mailbox of function `f`. -/
def Bridge.modMbx (f : Nat) (g : Mailbox → Mailbox) (b : Bridge) : Bridge :=
  b.modTen (fun t => { t with mbx := Tbl.put f (g (Tbl.get {} f t.mbx)) t.mbx })

/-- FCLK in a stride (R10). -/
def strideLen : Nat := 1536

/-- The stride counter: 48 bits of the timestamp's quotient by 1,536 (R11, R29). -/
def Bridge.stride (b : Bridge) : Nat := b.glb.time / strideLen % 2 ^ 48

/-- FCLK within the current stride (R62). -/
def Bridge.phase (b : Bridge) : Nat := b.glb.time % strideLen

/-- Strides that have begun since stride `s` did (R11). -/
def Bridge.since (b : Bridge) (s : Nat) : Nat := (b.stride + 2 ^ 48 - s) % 2 ^ 48

/-- The timestamp, of 64 bits, becomes `t`: a new FCLK begins (R11). -/
def Bridge.advance (t : Nat) (b : Bridge) : Bridge :=
  { b with
    glb := { b.glb with time := t % 2 ^ 64, overrunNow := 0 }
    mark := { ch := b.ch, herd := b.herd, ten := b.ten, port := b.port, block := b.faults.block, icu := b.icu, jrn := b.jrn, pwr := b.pwr
              tlm := b.tlm, scan := b.scan, totals := b.tlm } }

/-- Channel `n` is fenced (R28). -/
def Bridge.chFenced (b : Bridge) (n : Nat) : Bool := bitOf b.glb.chFenced n

/-- Take a free number (log entry 4). -/
def Bridge.freeNat (b : Bridge) : Nat × Bridge := (Config.freeNat b.free, { b with free := b.free + 1 })

/-- Take a free line of data (log entry 4). -/
def Bridge.freeLine (b : Bridge) : Line × Bridge := (Config.freeLine b.free, { b with free := b.free + 1 })

/-- The first of `n` numbers from a start, going round, that `ok` accepts. -/
def pickFrom (ok : Nat → Bool) (n start : Nat) : Option Nat :=
  ((List.range n).map (fun k => (start + k) % n)).find? ok

/-- Choose one of `n` numbers that `ok` accepts: the spec leaves the choice open (log entry 4). -/
def Bridge.pick (ok : Nat → Bool) (n : Nat) (b : Bridge) : Option Nat × Bridge :=
  let (k, b) := b.freeNat
  (pickFrom ok n (if n = 0 then 0 else k % n), b)

/-- Do something for each of a list, in order. -/
def Bridge.each {α : Type} (xs : List α) (f : α → Bridge → Bridge) (b : Bridge) : Bridge :=
  xs.foldl (fun b x => f x b) b

/-- Do something where a condition holds. -/
def Bridge.when (c : Bool) (f : Bridge → Bridge) (b : Bridge) : Bridge := if c then f b else b

/-- The channels. -/
def channels : List Nat := List.range 16

/-- Link capacity of a rate code and width code (R32). -/
def capOf (rate width : Nat) : Nat :=
  match width, rate with
  | 2, 3 => 600
  | 2, 2 => 300
  | 2, 1 => 30
  | 2, 0 => 15
  | 1, 3 => 300
  | 1, 2 => 150
  | 1, 1 => 15
  | 1, 0 => 7
  | _, _ => 0

/-- Engine capacity per stride (R32). -/
def engCap : Nat := 1200

/-- Link overhang allowance of a capacity (R32). -/
def linkOvh (c : Nat) : Nat := c / 12

/-- Engine overhang allowance (R32). -/
def engOvh : Nat := 100

/-- The near tier writes, or empties, one line when the command ends (R106). -/
def Bridge.land (frame line : Nat) (c : Option Line) (b : Bridge) : Bridge :=
  { b with lands := b.lands ++ [(frame * 64 + line, c)] }

/-- Count in the telemetry block, unless it is fenced (R529, R530). -/
def Bridge.countTlm (f : Telemetry → Telemetry) (b : Bridge) : Bridge := if b.tlm.fenced then b else { b with tlm := f b.tlm }

/-- The bridge runs: no Doze, its entry or its wake, and no power-loss sequence (R443, R496, R497). -/
def Bridge.awake (b : Bridge) : Bool := decide (b.pwr.state ≤ 1) && decide (b.jrn.step = 0)

/-- What the near tier holds at a line of a frame (R106). -/
def nearAt (m : Near) (frame line : Nat) : Option Line := Tbl.find (frame * 64 + line) m

/-- Write or empty the lines of a list, in order (R106). -/
def landAll : List (Nat × Option Line) → Near → Near
  | [], m => m
  | (k, some c) :: t, m => landAll t (Tbl.put k c m)
  | (k, none) :: t, m => landAll t (Tbl.del k m)

/-- A host interrupt's table entry (R242). -/
def Func.entry (f : Func) (v : Nat) : MsixEntry := Tbl.get {} v f.msix

/-- Change a table entry. -/
def Func.setEntry (v : Nat) (g : MsixEntry → MsixEntry) (f : Func) : Func :=
  { f with msix := Tbl.put v (g (f.entry v)) f.msix }

/-- Vectors of function `f`: 64 for PF0, an instance's own count for a VF, 1 that never sends for a VF with none (R241). -/
def Bridge.vectors (b : Bridge) (f : Nat) : Nat :=
  if f = 0 then 64
  else
    match (b.inst f).state with
    | .live => (b.inst f).grant.vectors
    | .tearing => if (b.inst f).tornAt.isSome then 0 else (b.inst f).grant.vectors
    | _ => 0

/-- The INTA condition (R243). -/
def HostPort.intaCond (p : HostPort) : Bool :=
  decide (p.intaPend &&& p.intaEn ≠ 0) && !(Tbl.get {} 0 p.fn).intDisable && !(Tbl.get {} 0 p.fn).msixEn

/-- Send an INTx message where the condition differs from the last message sent (R243), unless one was sent within 16 FCLK or
the link is down. -/
def Bridge.intaEval (b : Bridge) : Bridge :=
  let p := b.port
  if p.intaCond = p.intaSent || p.intaPaced || !p.up then b
  else
    { b with port := { p with intaSent := p.intaCond, intaPaced := true, intxMsg := cnt32 p.intxMsg 1 } }
      |>.emit (.intx p.intaCond)

/-- Whether a message on an entry can be sent now (R242). -/
def Bridge.msixReady (b : Bridge) (f v : Nat) : Bool :=
  let fn := b.func f
  fn.msixEn && !fn.funcMask && fn.bme && !(fn.entry v).masked && decide (v < b.vectors f)

/-- Send an entry's message and clear its PBA bit (R242). -/
def Bridge.msixSend (f v : Nat) (b : Bridge) : Bridge :=
  let e := (b.func f).entry v
  b.modFunc f (Func.setEntry v (fun e => { e with pba := false }))
    |>.modPort (fun p => { p with msiSent := cnt32 p.msiSent 1 })
    |>.emit (.msix f v e.addr e.data)

/-- Send the messages of function `f` that wait in its PBA and can be sent (R242). -/
def Bridge.msixFlush (f : Nat) (b : Bridge) : Bridge :=
  b.each (List.range 64) (fun v b => if ((b.func f).entry v).pba && b.msixReady f v then b.msixSend f v else b)

/-- Raise host interrupt `v` of function `f` (R240-R243). -/
def Bridge.raise (f v : Nat) (b : Bridge) : Bridge :=
  if f = 0 && !(b.func 0).msixEn then
    (b.modPort (fun p => { p with
      intaPend := setBit p.intaPend v true
      intaNew := (b.glb.time, setBit (if p.intaNew.1 = b.glb.time then p.intaNew.2 else 0) v true) })).intaEval
  else if b.msixReady f v then b.msixSend f v
  else if v < 64 then b.modFunc f (Func.setEntry v (fun e => { e with pba := true }))
  else b

end Sys2Proof.Machine
end

