-- ==== Sys2Proof/Machine/Budget.lean ====
section
/-! DEFINITION. The slots of a channel's stride: capacity, reservations, pool, overhang, and the lists in which units wait (R32-R50). -/

namespace Sys2Proof.Machine

open Sys2Proof

/-- Full capacity of a channel's resources (R32). -/
def Sched.full (s : Sched) : Slots := { out := s.c, inb := s.c, eng := engCap }

/-- Capacity of the stride: full capacity less the last stride's overhang (R35). -/
def Sched.capacity (s : Sched) : Slots := s.full.sub s.carry

/-- A share of the full capacity in 256ths, rounded up (R39, R41). -/
def shareOf (share : Nat) (s : Slots) : Slots :=
  { out := ceilDiv (s.out * share) 256, inb := ceilDiv (s.inb * share) 256, eng := ceilDiv (s.eng * share) 256 }

/-- What is left of a class's reservation. -/
def Sched.rsv (s : Sched) (cls : Nat) : Slots :=
  match cls with
  | 4 => s.rsv4
  | 5 => s.rsv5
  | 6 => s.rsv6
  | _ => {}

/-- Set what is left of a class's reservation. -/
def Sched.setRsv (cls : Nat) (v : Slots) (s : Sched) : Sched :=
  match cls with
  | 4 => { s with rsv4 := v }
  | 5 => { s with rsv5 := v }
  | 6 => { s with rsv6 := v }
  | _ => s

/-- A class has a unit queued or on the head list of the stride. -/
def Sched.hasWork (s : Sched) (cls : Nat) : Bool := (s.queue ++ s.head).any (fun u => decide (u.cls = cls))

/-- Return a class's reservation to the common pool (R39). -/
def Sched.giveBack (cls : Nat) (s : Sched) : Sched := { (s.setRsv cls {}) with pool := s.pool.add (s.rsv cls) }

/-- A class whose queue has emptied returns the unused part of its reservation once the plan is sealed (R39). -/
def Sched.giveBackIfIdle (cls : Nat) (s : Sched) : Sched :=
  if s.sealedPlan && !s.hasWork cls then s.giveBack cls else s

/-- What follows when units leave a channel's queues: a class left with none returns the unused part of its reservation (R39), and an
instance left with none in a class loses its deficit there (R45). -/
def Sched.tidy (s : Sched) : Sched :=
  let s := [4, 5, 6].foldl (fun s k => s.giveBackIfIdle k) s
  { s with deficit := s.deficit.filter (fun e => s.queue.any (fun u => decide (u.cls = e.1 / 256) && decide (u.inst = e.1 % 256))) }

/-- Units that wait for admission on a channel, in whatever list. -/
def Sched.waiting (s : Sched) : List WorkUnit := s.queue ++ s.head ++ s.deferred ++ s.carried

/-- Drop the units that `p` names from every list they wait in. -/
def Sched.dropWaiting (p : WorkUnit → Bool) (s : Sched) : Sched :=
  Sched.tidy { s with
    queue := s.queue.filter (fun u => !p u), head := s.head.filter (fun u => !p u), deferred := s.deferred.filter (fun u => !p u)
    carried := s.carried.filter (fun u => !p u) }

/-- Drop the units that `p` names, waiting or running. -/
def Sched.drop (p : WorkUnit → Bool) (s : Sched) : Sched :=
  let s := s.dropWaiting p
  { s with running := s.running.filter (fun r => !p r.unit) }

/-- The migration ceiling of a budget in 64ths, never below the class 5 reservation (R42, R132). -/
def migCeil (budget c rsv5 : Nat) : Nat := Nat.max (budget * c / 64) rsv5

/-- A cost fits a budget of slots, with the overhang used so far where it is allowed (R48). -/
def Sched.fitsOvh (s : Sched) (avail cost : Slots) : Bool :=
  let lack := cost.sub avail
  let u := s.ovh.add lack
  decide (u.out ≤ linkOvh s.c || lack.out = 0) && decide (u.inb ≤ linkOvh s.c || lack.inb = 0) && decide (u.eng ≤ engOvh || lack.eng = 0)

/-- A class 1 unit is within the cap of R41. -/
def Sched.capOk (s : Sched) (cost : Slots) : Bool := s.uncapped || (s.c1.add cost).fits (shareOf 32 s.full)

/-- A class 5 unit is under the migration ceiling (R42). -/
def Sched.ceilOk (s : Sched) (cost : Slots) : Bool := s.uncapped || decide (s.mig.inb + cost.inb ≤ s.ceil) && decide (s.mig.out + cost.out ≤ s.ceil)

/-- Take a cost from a class's reservation first and the rest from the common pool (R39). -/
def Sched.take (cls : Nat) (cost : Slots) (s : Sched) : Sched :=
  let r := s.rsv cls
  let fromR := Slots.min cost r
  let s := s.setRsv cls (r.sub fromR)
  { s with pool := s.pool.sub (cost.sub fromR) }

/-- Resources on which the first unit of the head list lacks capacity (R50). -/
def Sched.lacks (s : Sched) (cls : Nat) (cost : Slots) : Bool × Bool × Bool :=
  let r := s.rsv cls
  let lack : Nat → Nat → Nat → Bool := fun c a p => c ≠ 0 && !(decide (c ≤ a) || decide (c ≤ p))
  (lack cost.out r.out s.pool.out, lack cost.inb r.inb s.pool.inb, lack cost.eng r.eng s.pool.eng)

/-- Take a head-list unit's cost: on each resource from its class's reservation where that covers it, else from the pool (R50). -/
def Sched.takeHead (cls : Nat) (cost : Slots) (s : Sched) : Sched :=
  let r := s.rsv cls
  let o := decide (cost.out ≤ r.out)
  let i := decide (cost.inb ≤ r.inb)
  let e := decide (cost.eng ≤ r.eng)
  let s := s.setRsv cls { out := if o then r.out - cost.out else r.out, inb := if i then r.inb - cost.inb else r.inb,
                          eng := if e then r.eng - cost.eng else r.eng }
  let used := 4 ≤ cls && ((o && cost.out ≠ 0) || (i && cost.inb ≠ 0) || (e && cost.eng ≠ 0))
  { s with
    pool := { out := if o then s.pool.out else s.pool.out - cost.out, inb := if i then s.pool.inb else s.pool.inb - cost.inb,
              eng := if e then s.pool.eng else s.pool.eng - cost.eng }
    charged := if used && !s.sealedPlan && !bitOf s.charged cls then s.charged + 2 ^ cls else s.charged }

/-- Slots lost to a replay, a retrain or a pause leave what remains of the stride: the pool first, then the reservations of classes 6,
5 and 4 (R51). Answers what is still owed. -/
def Sched.lose (lost : Slots) (s : Sched) : Slots × Sched :=
  let o := lost.sub s.pool
  let o6 := o.sub s.rsv6
  let o5 := o6.sub s.rsv5
  (o5.sub s.rsv4, { s with pool := s.pool.sub lost, rsv6 := s.rsv6.sub o, rsv5 := s.rsv5.sub o6, rsv4 := s.rsv4.sub o5 })

/-- Slots of a unit that has been withdrawn go back where they came from (R51). -/
def Sched.refund (cls : Nat) (cost fromRsv fromOvh : Slots) (s : Sched) : Sched :=
  let s := s.setRsv cls ((s.rsv cls).add fromRsv)
  { s with pool := s.pool.add ((cost.sub fromRsv).sub fromOvh), ovh := s.ovh.sub fromOvh }

end Sys2Proof.Machine
end

