-- ==== Sys2Proof/Machine/Interrupts.lean ====
section
/-! DEFINITION. The internal interrupt controller (chapter 13). -/

namespace Sys2Proof.Machine

open Sys2Proof

/-- A source that no block drives (R414): its level is always 0. -/
def icuReserved (i : Nat) : Bool :=
  if i < 768 then decide (i % 48 > 11)
  else !((768 ≤ i && i ≤ 776) || (832 ≤ i && i ≤ 838) || (864 ≤ i && i ≤ 869) || (896 ≤ i && i ≤ 898)
    || (928 ≤ i && i ≤ 932) || (960 ≤ i && i ≤ 976) || (992 ≤ i && i ≤ 1009))

/-- Source `i`. -/
def Icu.source (u : Icu) (i : Nat) : Source := Tbl.get {} i u.src

/-- Change source `i`. -/
def Icu.modSrc (i : Nat) (f : Source → Source) (u : Icu) : Icu := { u with src := Tbl.put i (f (u.source i)) u.src }

/-- Core port `k`. -/
def Icu.port (u : Icu) (k : Nat) : CorePort := Tbl.get {} k u.core

/-- Change core port `k`. -/
def Icu.modCore (k : Nat) (f : CorePort → CorePort) (u : Icu) : Icu := { u with core := Tbl.put k (f (u.port k)) u.core }

/-- Group `g`. -/
def Icu.grp (u : Icu) (g : Nat) : CoGroup := Tbl.get {} g u.group

/-- Change group `g`. -/
def Icu.modGrp (g : Nat) (f : CoGroup → CoGroup) (u : Icu) : Icu := { u with group := Tbl.put g (f (u.grp g)) u.group }

/-- The cores of a TARGET mask. -/
def targets (mask : Nat) : List Nat := setBits mask 5

/-- Cores that are active and not fenced (R416). -/
def Bridge.liveCores (b : Bridge) : List Nat :=
  (List.range 5).filter (fun k => bitOf b.glb.coreActive k && !bitOf b.glb.coreFenced k)

/-- Source `i` is deliverable to core `k` (R416). -/
def Bridge.deliverable (b : Bridge) (i k : Nat) : Bool :=
  let s := b.icu.source i
  decide (s.state = .pending) && !b.icu.gdis && !b.icu.fenced && decide ((b.icu.port k).threshold ≤ s.prio)
    && (bitOf s.target k || (b.liveCores.all (fun j => !bitOf s.target j) && b.liveCores.contains k))

/-- The sources deliverable to core `k`, rising. -/
def Bridge.deliverables (b : Bridge) (k : Nat) : List Nat :=
  (Tbl.keys b.icu.src).filter (fun i => b.deliverable i k)

/-- The interrupt line of core `k` (R416). -/
def Bridge.coreLine (b : Bridge) (k : Nat) : Bool := !(b.deliverables k).isEmpty

/-- The deliverable source of highest priority, the lowest number among equals (R417). -/
def Bridge.bestFor (b : Bridge) (k : Nat) : Option Nat :=
  (b.deliverables k).foldl (fun best i =>
    match best with
    | none => some i
    | some j => if (b.icu.source j).prio < (b.icu.source i).prio then some i else some j) none

/-- A core's WITHDRAWN flag is set (R418). -/
def CorePort.setWithdrawn (p : CorePort) : CorePort := { p with withdrawn := true, withdrawnLater := true }

/-- A core's TAKEN flag is set (R418). -/
def CorePort.setTaken (p : CorePort) : CorePort := { p with taken := true, withdrawnLater := false }

/-- Every WAITING member of a group becomes PENDING, and the round ends (R423). -/
def Icu.fire (g : Nat) (u : Icu) : Icu :=
  { u with src := Tbl.mapv (fun _ (s : Source) => if s.group = g ∧ s.state = SrcState.waiting then { s with state := SrcState.pending } else s) u.src }
    |>.modGrp g (fun x => { x with countNow := 0, round := false, ticks := 0 })

/-- A group has a WAITING member. -/
def Icu.anyWaiting (g : Nat) (u : Icu) : Bool := u.src.any (fun e => decide (e.2.group = g ∧ e.2.state = .waiting))

/-- A source enters WAITING: a round starts or goes on, and the group may fire (R423). -/
def Icu.enterWaiting (i : Nat) (u : Icu) : Icu :=
  let g := (u.source i).group
  let fresh := !u.anyWaiting g
  let u := u.modSrc i (fun s => { s with state := .waiting })
  let u := u.modGrp g (fun x =>
    if fresh then { x with countNow := 1, round := true, ticks := 0 } else { x with countNow := satAdd 255 x.countNow 1 })
  if (u.grp g).countTh ≠ 0 ∧ (u.grp g).countTh ≤ (u.grp g).countNow then u.fire g else u

/-- A request is withdrawn: its source is IDLE, and its target cores' WITHDRAWN flags are set; a round left with no WAITING
member ends (R415, R418, R423). -/
def Icu.withdraw (i : Nat) (u : Icu) : Icu :=
  let s := u.source i
  let u := u.modSrc i (fun s => { s with state := .idle })
  let u := (targets s.target).foldl (fun u k => u.modCore k CorePort.setWithdrawn) u
  if s.group ≠ 0 ∧ s.state = .waiting ∧ !u.anyWaiting s.group then
    u.modGrp s.group (fun x => { x with countNow := 0, round := false, ticks := 0 })
  else u

/-- An IDLE source with level high and ENABLE goes to PENDING or WAITING (R415). -/
def Icu.offer (i : Nat) (u : Icu) : Icu :=
  let s := u.source i
  if s.level && s.enable && decide (s.state = .idle) then
    if s.group = 0 then u.modSrc i (fun s => { s with state := .pending }) else u.enterWaiting i
  else u

/-- A source's level changes (R415, R422). While the controller is fenced only the raw level follows (R425). -/
def Icu.setLevel (i : Nat) (high : Bool) (u : Icu) : Icu :=
  let s := u.source i
  if icuReserved i || s.level = high then u
  else if u.fenced then u.modSrc i (fun s => { s with level := high })
  else if high then
    (u.modSrc i (fun s => { s with level := true, events := satAdd 255 s.events 1 })).offer i
  else
    let u := u.modSrc i (fun s => { s with level := false })
    if s.state = .waiting ∨ s.state = .pending then u.withdraw i else u

/-- A block drives its source's level. -/
def Bridge.level (i : Nat) (high : Bool) (b : Bridge) : Bridge := { b with icu := b.icu.setLevel i high }

/-- A source in service is re-sampled (R415). -/
def Icu.resample (i : Nat) (u : Icu) : Icu :=
  u.modSrc i (fun s => { s with state := if s.level && s.enable then .pending else .idle, core := 0 })

/-- Sources that core `k` holds in service (R417). -/
def Icu.held (u : Icu) (k : Nat) : List Nat :=
  ((u.src.filter (fun e => decide (e.2.state = .inService ∧ e.2.core = k))).map Prod.fst)

/-- A core is fenced: the sources it held are re-sampled (R415). -/
def Icu.dropCore (k : Nat) (u : Icu) : Icu := (u.held k).foldl (fun u i => u.resample i) u

/-- ICU_CLAIM (R417, R418, R425): the value read, and the state after. A fenced core's claim is not served (R424). -/
def doIcuClaim (k : Nat) (b : Bridge) : Bridge :=
  if bitOf b.glb.coreFenced k then b
  else
    let p := b.icu.port k
    let value :=
      if b.icu.gdis || b.icu.fenced then 1023
      else match b.bestFor k with
        | some i => i
        | none => if p.withdrawn && p.withdrawnLater then 1022 else 1023
    let u := b.icu.modCore k (fun p => { p with last := value, withdrawn := false, taken := false, withdrawnLater := false })
    let u :=
      if value < 1022 then
        let s := u.source value
        let u := u.modSrc value (fun s => { s with state := .inService, core := k })
        ((targets s.target).filter (· ≠ k)).foldl (fun u j => u.modCore j CorePort.setTaken) u
      else u
    { b with icu := u }.emit (.regData value)

/-- ICU_COMPLETE (R419). -/
def doIcuComplete (k i : Nat) (b : Bridge) : Bridge :=
  let s := b.icu.source i
  if s.state = .inService ∧ s.core = k ∧ icuReserved i = false ∧ i < 1022 then { b with icu := b.icu.resample i }
  else { b with icu := { b.icu with badComplete := true } }

/-- ICU_THRESHOLD_WRITE (R420, R432). -/
def doIcuThresholdWrite (k value : Nat) (b : Bridge) : Bridge :=
  { b with icu := b.icu.modCore k (fun p => { p with threshold := value % 16 }) }

/-- ICU_GLOBAL_DISABLE_WRITE (R421, R432). -/
def doIcuGlobalDisableWrite (on : Bool) (b : Bridge) : Bridge := { b with icu := { b.icu with gdis := on } }

/-- ICU_SOURCE_LEVEL_CHANGE (R415, R422). -/
def doIcuSourceLevelChange (i : Nat) (high : Bool) (b : Bridge) : Bridge := b.level i high

/-- ICU_GROUP_TIME_EXPIRY: the TIME_TH-th tick of a round, where it has come (R423). -/
def doIcuGroupTimeExpiry (g : Nat) (b : Bridge) : Bridge :=
  let x := b.icu.grp g
  if x.round ∧ x.timeTh ≠ 0 ∧ x.timeTh ≤ x.ticks ∧ g ≠ 0 ∧ b.icu.fenced = false then { b with icu := b.icu.fire g } else b

/-- STRIDE_TIMER_EXPIRY: the stride counter reaches a timer's compare value, which is then the counter's (R414). -/
def doStrideTimerExpiry (t : Nat) (b : Bridge) : Bridge :=
  if t < 4 then ({ b with icu := { b.icu with timers := Tbl.put t b.stride b.icu.timers } }).level (971 + t) true else b

/-- A configuration of a source (R415, R420): PRIORITY, TARGET, GROUP and ENABLE take their new values, and a change of ENABLE or GROUP acts as R415
states. -/
def Icu.configure (i prio target group : Nat) (enable : Bool) (u : Icu) : Icu :=
  let s := u.source i
  if icuReserved i then u
  else
    let u := u.modSrc i (fun s => { s with prio := prio % 16, target := target % 32, group := group % 32, enable := enable })
    if !enable ∧ (s.state = .waiting ∨ s.state = .pending) then u.withdraw i
    else if u.fenced then u else u.offer i

/-- Resident firmware configures a source: the one core to which a PENDING source was deliverable has its WITHDRAWN flag set where the new TARGET leaves it
out (R424). -/
def Bridge.configureSource (i prio target group : Nat) (enable : Bool) (b : Bridge) : Bridge :=
  let u := b.icu.configure i prio target group enable
  let u := match (List.range 5).filter (b.deliverable i) with
    | [k] => if bitOf target k then u else u.modCore k CorePort.setWithdrawn
    | _ => u
  { b with icu := u }

/-- Resident firmware configures a group: at least one of its thresholds is not zero (R423). -/
def Icu.configureGroup (g countTh timeTh : Nat) (u : Icu) : Icu :=
  let c := countTh % 256
  let t := timeTh % 4096
  if g = 0 ∨ 32 ≤ g then u else u.modGrp g (fun x => { x with countTh := if c = 0 ∧ t = 0 then 1 else c, timeTh := t })

/-- A musher core writes one of the controller's working registers (R430): which source or group it configures, and how, is open (R9, R412, log entry
121). -/
def Bridge.programIcu (b : Bridge) : Bridge :=
  let (k, b) := b.freeNat
  let r := k / 2
  if k % 2 = 0 then b.configureSource (r % 1022) (r / 1022) (r / 16352) (r / 523264) (bitOf (r / 16744448) 0)
  else { b with icu := b.icu.configureGroup (r % 31 + 1) (r / 31) (r / 7936) }

end Sys2Proof.Machine
end

