-- ==== Sys2Proof/Machine/Faults.lean ====
section
/-! DEFINITION. Fault blocks: sources, events, classification, history, log and last-gasp latch (chapter 12). What a severe
source's reaction does stands in Reactions. -/

namespace Sys2Proof.Machine

open Sys2Proof

/-- The kind of source `s` of block `k`; none where the block does not implement it (R384, R385, R388). -/
def faultKind (k s : Nat) : Option FaultKind :=
  match s with
  | 0 => if k < 56 then some .info else none
  | 1 => if k < 56 then some .corrected else none
  | 2 => if k < 56 then some .fatal else none
  | 3 => if k < 56 then some .fatal else none
  | _ =>
    if k < 16 then
      if s < 10 then some .fatal
      else if s < 15 then some .error
      else if s < 25 then some .fatal
      else if s = 25 || s = 28 then some .corrected
      else if s = 26 then some .fatal
      else if s < 32 then some .error
      else none
    else if s < 8 then none
    else if k < 36 then if s = 8 then some .fatal else none
    else
      match k, s with
      | 0x24, 8 => some .corrected
      | 0x24, 9 => some .error
      | 0x24, 10 => some .info
      | 0x24, 11 => some .info
      | 0x24, 12 => some .info
      | 0x25, 8 => some .corrected
      | 0x25, 9 => some .error
      | 0x25, 10 => some .fatal
      | 0x25, 11 => some .fatal
      | 0x25, 12 => some .info
      | 0x25, 13 => some .info
      | 0x26, 8 => some .corrected
      | 0x26, 9 => some .error
      | 0x26, 10 => some .fatal
      | 0x26, 11 => some .fatal
      | 0x26, 12 => some .info
      | 0x27, 8 => some .info
      | 0x28, 8 => some .fatal
      | 0x28, 9 => some .fatal
      | 0x28, 10 => some .info
      | 0x29, 8 => some .info
      | 0x29, 9 => some .info
      | 0x2A, 8 => some .fatal
      | 0x2B, 8 => some .fatal
      | 0x2C, 8 => some .fatal
      | 0x2D, 8 => some .fatal
      | 0x2E, 8 => some .fatal
      | 0x2F, 8 => some .info
      | 0x31, 8 => some .fatal
      | 0x31, 9 => some .error
      | 0x32, 8 => some .error
      | 0x32, 9 => some .error
      | 0x32, 10 => some .info
      | 0x33, 8 => some .fatal
      | 0x33, 9 => some .info
      | 0x33, 10 => some .info
      | 0x34, 8 => some .info
      | 0x34, 9 => some .fatal
      | 0x34, 10 => some .info
      | 0x35, 8 => some .error
      | 0x36, 8 => some .error
      | 0x36, 9 => some .error
      | 0x36, 10 => some .error
      | 0x37, 8 => some .fatal
      | 0x37, 9 => some .info
      | _, _ => none

/-- The code of a kind in CFG, history and log (R401, R409). -/
def FaultKind.code : FaultKind → Nat
  | .info => 0
  | .corrected => 1
  | .error => 2
  | .fatal => 3

/-- The highest source number a block implements (R409). -/
def highestSource (k : Nat) : Nat :=
  ((List.range 32).filter (fun s => (faultKind k s).isSome)).foldl Nat.max 0

/-- N and W of a kind by default; 0 for INFO and FATAL (R386, R409). -/
def defaultNW : FaultKind → Nat × Nat
  | .corrected => (255, 1048576)
  | .error => (4, 4096)
  | _ => (0, 0)

/-- The interrupt source a block drives; none for the interrupt controller's own (R382). -/
def blockSource (k : Nat) : Option Nat :=
  if k < 16 then some (48 * k)
  else if k < 32 then some (48 * (k - 16) + 1)
  else
    match k with
    | 0x20 => some 834
    | 0x21 => some 835
    | 0x22 => some 769
    | 0x23 => some 770
    | 0x24 => some 768
    | 0x25 => some 832
    | 0x26 => some 833
    | 0x27 => some 864
    | 0x28 => some 865
    | 0x29 => some 866
    | 0x2A => some 960
    | 0x2B => some 961
    | 0x2C => some 962
    | 0x2D => some 963
    | 0x2E => some 964
    | 0x2F => some 896
    | 0x31 => some 928
    | 0x32 => some 929
    | 0x33 => some 965
    | 0x34 => some 966
    | 0x35 => some 967
    | 0x36 => some 968
    | 0x37 => some 992
    | _ => none

/-- Fault block `k`. -/
def Faults.blk (f : Faults) (k : Nat) : FaultBlock := Tbl.get {} k f.block

/-- Source `s` of block `k`. -/
def Faults.source (f : Faults) (k s : Nat) : FaultSrc := Tbl.get {} s (f.blk k).src

/-- Change block `k`. -/
def Bridge.modBlk (k : Nat) (g : FaultBlock → FaultBlock) (b : Bridge) : Bridge :=
  { b with faults := { b.faults with block := Tbl.put k (g (b.faults.blk k)) b.faults.block } }

/-- Change source `s` of block `k`. -/
def Bridge.modFs (k s : Nat) (g : FaultSrc → FaultSrc) (b : Bridge) : Bridge :=
  b.modBlk k (fun x => { x with src := Tbl.put s (g (Tbl.get {} s x.src)) x.src })

/-- Change the fault state. -/
def Bridge.modFlt (g : Faults → Faults) (b : Bridge) : Bridge := { b with faults := g b.faults }

/-- N and W in force (R386). -/
def Faults.nw (f : Faults) (k s : Nat) : Nat × Nat :=
  let d := match faultKind k s with
    | some kd => defaultNW kd
    | none => (0, 0)
  ((f.source k s).n.getD d.1, (f.source k s).w.getD d.2)

/-- D = max(1, floor(W / N)) (R386). -/
def leakPeriod (nw : Nat × Nat) : Nat := Nat.max 1 (nw.2 / nw.1)

/-- A source's leak is due: the stride's number is a multiple of D, and its tick's leak has not been taken (R386). -/
def Bridge.leakDue (b : Bridge) (k s : Nat) : Bool :=
  decide (b.stride % leakPeriod (b.faults.nw k s) = 0) && decide ((b.faults.source k s).leakAt ≠ b.stride + 1)

/-- A source's bucket level, the leak of the stride's tick taken (R386). -/
def Bridge.levelNow (b : Bridge) (k s : Nat) : Nat := (b.faults.source k s).level - (if b.leakDue k s then 1 else 0)

/-- The leak of the stride's tick is taken, where it is due; an event of the stride comes after it (R386). -/
def Bridge.leak (k s : Nat) (b : Bridge) : Bridge :=
  if b.leakDue k s then
    let v := b.levelNow k s
    b.modFs k s (fun x => { x with level := v, leakAt := b.stride + 1 })
  else b

/-- Block `k` has a severe source. -/
def Faults.severeAny (f : Faults) (k : Nat) : Bool := (f.blk k).src.any (fun e => e.2.severe)

/-- FAULT_N is low (R392). -/
def Faults.faultLow (f : Faults) : Bool := (List.range 56).any f.severeAny || f.gasp.isSome

/-- Full service becomes degraded service (R19, R23). -/
def Bridge.degrade (b : Bridge) : Bridge :=
  if b.glb.level = 2 then { b with glb := { b.glb with level := 3 } } else b

/-- The dispatcher has stopped for a fault of its own (R177). -/
def Bridge.dispatcherOut (b : Bridge) : Bool := b.scan.stopped && [2, 3].any (fun s => (b.faults.source 0x29 s).severe)

/-- Journal copy `k` is unavailable, once the journal has been placed (R28, R435). -/
def Bridge.copyLost (b : Bridge) (k : Nat) : Bool := !b.boot.jloc.isEmpty && decide ((Tbl.get ({} : JournalCopy) k b.jrn.copy).state ≠ 1)

/-- Something outside the base set is lost (R19, R23). A journal copy counts once the journal has been placed. -/
def Bridge.lossy (b : Bridge) : Bool :=
  let g := b.glb
  g.hostLanesLost || decide (popCount g.coreActive 5 < 4) || decide (g.chFenced ≠ 0) || decide (g.stackFenced ≠ 0)
    || !g.pcFenced.isEmpty || decide (g.portFenced ≠ 0) || decide (g.sideFenced ≠ 0) || b.herd.fenced || b.icu.fenced || b.tlm.fenced
    || b.ten.fenced || b.knl.lost || !b.faults.logCtl || b.port.fenced || b.dispatcherOut || b.copyLost 0 || b.copyLost 1
    || channels.any (fun n => (b.chan n).sch.scrubOff || decide (popCount (b.chan n).rtv.active 5 < 4)
      || decide ((b.chan n).phy.width = 1))

/-- A unit is back: with nothing else lost, degraded service becomes full service again (R23, R26, log entry 87). -/
def Bridge.regain (b : Bridge) : Bridge :=
  if b.glb.level = 3 && !b.lossy then { b with glb := { b.glb with level := 2 } } else b

/-- Raise PF0 vector 1 for a log entry, at most once a stride (R391). -/
def Bridge.forward (b : Bridge) : Bridge :=
  if b.faults.forwardAt = b.stride + 1 then b.modFlt (fun f => { f with forward := true })
  else (b.modFlt (fun f => { f with forward := false, forwardAt := b.stride + 1 })).raise 0 1

/-- Write one entry of the fault log (R401); none once the last-gasp latch is set (R403). -/
def Bridge.logWrite (block src kind : Nat) (forced : Bool) (suppressed : Nat) (inst : Option Nat) (detail : Nat)
    (b : Bridge) : Bridge :=
  if b.faults.gasp.isSome then b
  else
    let e : LogEntry :=
      { seq := b.faults.nextSeq, time := b.glb.time, block := block, src := src, kind := kind, forced := forced,
        suppressed := suppressed, inst := inst, detail := detail % 2 ^ 64 }
    let log := b.faults.log ++ [e]
    let b := b.modFlt (fun f => { f with log := log.drop (log.length - 4096), nextSeq := f.nextSeq + 1 })
    if 2 ≤ kind ∧ kind ≤ 6 then b.forward else b

/-- Something is logged as informational, with no source of its own: it counts in none (log entry 120). -/
def Bridge.info (k detail : Nat) (b : Bridge) : Bridge := b.logWrite k 0 0 false 0 none detail

/-- The log entry of an event: at most one for a source in a stride, but for WRITE_LOST (R401, R558). -/
def Bridge.logEvent (k s : Nat) (kind : FaultKind) (forced : Bool) (inst : Option Nat) (detail : Nat) (b : Bridge) : Bridge :=
  let x := b.faults.source k s
  if x.loggedAt = b.stride + 1 ∧ ¬(k = 0x24 ∧ s = 12) then
    b.modFs k s (fun x => { x with suppressed := satAdd 65535 x.suppressed 1 })
  else
    (b.modFs k s (fun x => { x with loggedAt := b.stride + 1, suppressed := 0 })).logWrite k s kind.code forced x.suppressed
      inst detail

/-- A snapshot is triggered: its edge follows the command (R404); while disarmed it is counted as missed (R406). -/
def Bridge.snapTrigger (cause : Nat) (b : Bridge) : Bridge :=
  if b.faults.armed then
    b.modFlt (fun f => { f with due := if bitOf f.due cause then f.due else f.due + 2 ^ cause })
  else b.modFlt (fun f => { f with missed := cnt32 f.missed 1 })

/-- Lane `p` is out of service for the source that reports it, or the unit that source `s` of block `k` watches is fenced or
failed: the source raises no further events (R387). -/
def Bridge.muted (k s : Nat) (b : Bridge) : Bool :=
  if k < 16 then
    let c := b.chan k
    (b.chFenced k && s ≠ 0 && !(5 ≤ s && s < 25)) || (s = 4 && c.sch.scrubOff)
      || (5 ≤ s && s < 10 && bitOf c.rtv.fenced (s - 5))
      || (10 ≤ s && s < 15 && bitOf c.phy.rxFailed (s - 10))
      || (15 ≤ s && s < 20 && bitOf c.phy.rxFailed (s - 15))
      || (20 ≤ s && s < 25 && bitOf c.phy.txFailed (s - 20))
  else if k < 32 then b.chFenced (k - 16) && s ≠ 0
  else if k < 36 then bitOf b.glb.portFenced (k - 32) && s ≠ 0
  else
    match k with
    | 0x24 => b.port.fenced && s ≤ 3 && s ≠ 0
    | 0x25 => bitOf b.glb.stackFenced 0 && s ≠ 13 && s ≠ 0
    | 0x26 => bitOf b.glb.stackFenced 1 && s ≠ 0
    | 0x27 => b.herd.fenced && s ≠ 0
    | 0x28 => (s = 8 || s = 9) && decide ((Tbl.get ({} : JournalCopy) (s - 8) b.jrn.copy).state = 0) && (Tbl.find (s - 8) b.jrn.copy).isSome
    | 0x29 => b.scan.stopped && s ≤ 3 && s ≠ 0
    | 0x2A => bitOf b.glb.coreFenced 0
    | 0x2B => bitOf b.glb.coreFenced 1
    | 0x2C => bitOf b.glb.coreFenced 2
    | 0x2D => bitOf b.glb.coreFenced 3
    | 0x2E => bitOf b.glb.coreFenced 4
    | 0x2F => b.ten.fenced && s ≠ 0
    | 0x30 => b.icu.fenced && s ≠ 0
    | 0x31 => b.knl.lost && s ≠ 0
    | 0x35 => b.tlm.fenced && s ≠ 0
    | 0x37 => !b.faults.logCtl && 1 ≤ s && s ≤ 3
    | 0x36 => 8 ≤ s && bitOf b.glb.sideFenced (s - 8)
    | _ => false

/-- The unit of block `k` is fenced or failed, as the block's status shows (R28, R409, log entry 88). -/
def Bridge.blockFenced (b : Bridge) (k : Nat) : Bool :=
  if k < 32 then b.chFenced (k % 16)
  else if k < 36 then bitOf b.glb.portFenced (k - 32)
  else
    match k with
    | 0x24 => b.port.fenced
    | 0x25 => bitOf b.glb.stackFenced 0
    | 0x26 => bitOf b.glb.stackFenced 1
    | 0x27 => b.herd.fenced
    | 0x28 => b.copyLost 0 && b.copyLost 1
    | 0x29 => b.dispatcherOut
    | 0x2A => bitOf b.glb.coreFenced 0
    | 0x2B => bitOf b.glb.coreFenced 1
    | 0x2C => bitOf b.glb.coreFenced 2
    | 0x2D => bitOf b.glb.coreFenced 3
    | 0x2E => bitOf b.glb.coreFenced 4
    | 0x2F => b.ten.fenced
    | 0x30 => b.icu.fenced
    | 0x31 => b.knl.lost
    | 0x35 => b.tlm.fenced
    | 0x36 => decide (b.glb.sideFenced ≠ 0)
    | 0x37 => !b.faults.logCtl
    | _ => false

/-- The history queue takes an event (R389). -/
def FaultBlock.record (e : HistEntry) (x : FaultBlock) : FaultBlock :=
  { x with hist := Tbl.put x.next e x.hist, next := (x.next + 1) % 8, wrapped := x.wrapped || x.next = 7 }

/-- An event raises its source's count, bucket level and severe bit (R383, R386). -/
def FaultSrc.count1 (kind : FaultKind) (n : Nat) (x : FaultSrc) : FaultSrc :=
  let x := { x with count := cnt32 x.count 1, event := true }
  match kind with
  | .info => x
  | .fatal => { x with severe := true }
  | _ => { x with level := satAdd 255 x.level 1, severe := x.severe || decide (n ≤ satAdd 255 x.level 1) }

/-- Host time in nanoseconds as the CXL mailbox keeps it (R211); 0 while it has never been set. -/
def Bridge.hostTime (b : Bridge) : Nat :=
  match b.cxl.setAt with
  | some t => b.cxl.hostTime + (b.glb.time - t) * 2 / 3
  | none => 0

/-- A channel fault block's event becomes a CXL event record in CXL mode (R211): a line error is a General Media event, any other
a Memory Module event; the log follows the kind (log entry 33). Its interrupt is raised where the policy asks for one. -/
def Bridge.cxlRecord (k s : Nat) (kind : FaultKind) (detail : Nat) (b : Bridge) : Bridge :=
  if !b.port.cxl || 16 ≤ k then b
  else
    let log := match kind with
      | .error => 2
      | .fatal => 3
      | _ => 0
    let e : CxlEvent := { log := log, media := decide (s = 28 ∨ s = 29), handle := b.cxl.nextHandle, time := b.hostTime, block := k, src := s, detail := detail }
    let b := { b with cxl := { b.cxl with events := b.cxl.events ++ [e], nextHandle := b.cxl.nextHandle % 65535 + 1 } }
    if b.cxl.policy / 256 ^ log % 4 = 1 then b.raise 0 5 else b

/-- One event of source `s` of block `k`, detected or forced, but for the snapshot it may trigger (R383-R391, R401). -/
def Bridge.countEvent (k s : Nat) (forced : Bool) (detail : Nat) (inst : Option Nat) (b : Bridge) : Bridge :=
  match faultKind k s with
  | none => b
  | some kind =>
    if !forced && b.muted k s then b
    else
      let was := (b.faults.source k s).severe
      let n := (b.faults.nw k s).1
      let b := (b.leak k s).modFs k s (FaultSrc.count1 kind n)
      let b := b.modBlk k (FaultBlock.record
        { time := b.glb.time, src := s, forced := forced, kind := kind, detail := detail % 2 ^ 32 })
      let b := (b.logEvent k s kind forced inst detail).cxlRecord k s kind detail
      let fresh := !was && (b.faults.source k s).severe
      let b := if fresh then b.logWrite k s 4 forced 0 inst detail else b
      let b := match blockSource k with
        | some i => b.level i true
        | none => b
      if fresh then b.modFlt (fun f => { f with react := f.react ++ [(k, s, detail)] }) else b

/-- A trigger arrives: the snapshot's edge follows, or while disarmed it is missed, which is an event of SNAP_MISSED (R404,
R406). -/
def Bridge.trigger (cause : Nat) (b : Bridge) : Bridge :=
  let was := b.faults.armed
  let b := b.snapTrigger cause
  if was then b else b.countEvent 0x37 9 false cause none

/-- One event of source `s` of block `k`, with the snapshot it triggers where FLT_SNAP_SEL names it (R404). -/
def Bridge.event (k s : Nat) (forced : Bool) (detail : Nat) (inst : Option Nat) (b : Bridge) : Bridge :=
  let happens := (faultKind k s).isSome && (forced || !b.muted k s)
  let was := (b.faults.source k s).severe
  let b := b.countEvent k s forced detail inst
  let f := b.faults
  let fresh := !was && (f.source k s).severe
  if happens && f.faultEn && f.sel.1 = k && f.sel.2 = s && (!f.onSevere || fresh) then b.trigger 1 else b

/-- A detected event. -/
def Bridge.note (k s detail : Nat) (b : Bridge) : Bridge := b.event k s false detail none

/-- A write-combining or grace-store line discarded without its write taking effect (R558). -/
def Bridge.writeLost (ln inst : Nat) (b : Bridge) : Bridge := b.event 0x24 12 false (ln * 64) (some inst)

/-- The fault block and source that a register block's discarded writes belong to (R385; block numbers of log entry 20). -/
def lateSource (n : Nat) : Nat × Nat :=
  match n with
  | 0 => (0x33, 9)
  | 1 => (0x33, 10)
  | 2 => (0x27, 0)
  | 3 => (0x28, 0)
  | 4 => (0x25, 13)
  | 5 => (0x37, 0)
  | 6 => (0x30, 0)
  | 7 => (0x2F, 0)
  | 8 => (0x29, 0)
  | 9 => (0x31, 0)
  | 10 => (0x32, 0)
  | 11 => (0x24, 0)
  | 12 => (0x35, 0)
  | 13 => (0x34, 10)
  | _ => if n < 2048 then ((n - 32) / 8, 0) else (0x29, 0)

/-- The register blocks whose LATE_WR bits a fault source sets when it is forced (R385). -/
def lateBlocks (k s : Nat) : List Nat :=
  if k < 16 then if s = 0 then (List.range 6).map (fun j => 32 + k * 8 + j) else []
  else
    match k, s with
    | 0x33, 9 => [0]
    | 0x33, 10 => [1]
    | 0x27, 0 => [2]
    | 0x28, 0 => [3]
    | 0x25, 13 => [4]
    | 0x37, 0 => [5]
    | 0x30, 0 => [6]
    | 0x2F, 0 => [7]
    | 0x29, 0 => [8, 2048]
    | 0x31, 0 => [9]
    | 0x32, 0 => [10]
    | 0x24, 0 => [11]
    | 0x35, 0 => [12]
    | 0x34, 10 => [13]
    | _, _ => []

/-- A register write discarded under R7: the LATE_WR bit of register block `n`, and one informational event whose detail is the
register's offset in PF0 BAR0 (R385, R481). -/
def Bridge.lateWrite (n off : Nat) (b : Bridge) : Bridge :=
  let (k, s) := lateSource n
  (b.modFlt (fun f => { f with lateWr := Tbl.put n true f.lateWr })).event k s false off none

/-- The mailbox of function `f` takes a write discarded under R7 (R385). -/
def Bridge.lateMbx (f : Nat) (b : Bridge) : Bridge :=
  (b.modMbx f (fun m => { m with lateWr := true })).event 0x2F 0 false f none

/-- A sparing action is logged and flagged, and the block's interrupt raised (R17). -/
def Bridge.spareLog (k s detail : Nat) (b : Bridge) : Bridge :=
  let b := b.logWrite k s 6 false 0 none detail
  match blockSource k with
  | some i => b.level i true
  | none => b

/-- A row of an array of block `k` is replaced by a spare one (R16, R17); none where no spare row is left (R19, R387). -/
def Bridge.spareRow (k s detail : Nat) (hbm : Bool) (b : Bridge) : Option Bridge :=
  let a := (k, hbm, Config.rowArray k detail)
  if Config.spareRows k hbm a.2.2 ≤ (b.glb.rows.filter (fun r => decide (r = a))).length then none
  else some (((b.modGlb (fun g => { g with rows := g.rows ++ [a] })).modFs k s (fun x => { x with sparing := true })).spareLog k s detail)

/-- A fence is logged (R401); service becomes degraded. -/
def Bridge.fenceLog (k s detail : Nat) (b : Bridge) : Bridge := (b.logWrite k s 5 false 0 none detail).degrade

/-- A source's severe state ends without a clear when its retirement or sparing completes (R387). -/
def Bridge.healSource (k s : Nat) (b : Bridge) : Bridge :=
  b.modFs k s (fun x => { x with severe := false, level := 0, sparing := false })

/-- FAULT_FORCE: a write of 1 to a force bit (R390); discarded under R7 once FORCE_LOCK is set. -/
def doFaultForce (k s : Nat) (b : Bridge) : Bridge :=
  if b.faults.forceLock then if (faultKind k s).isSome then b.lateWrite 5 (0x41000C + k * 0x400) else b
  else
    let b := b.modFlt (fun f => { f with lateWr := (lateBlocks k s).foldl (fun t n => Tbl.put n true t) f.lateWr })
    let b := if k = 0x2F ∧ s = 0 then b.modMbx 0 (fun m => { m with lateWr := true }) else b
    b.event k s true 0 none

/-- A write of FLT_CTRL.FORCE_LOCK: the first since reset is taken, a later one discarded under R7 (R390, R408, R481). -/
def Bridge.forceLockWrite (on : Bool) (b : Bridge) : Bridge :=
  if b.faults.forceWritten then b.lateWrite 5 0x400008
  else b.modFlt (fun f => { f with forceLock := on, forceWritten := true })

/-- FORCE_LOCK_SET: FLT_CTRL.FORCE_LOCK is written 1 (R390, R408). -/
def doForceLockSet (b : Bridge) : Bridge := b.forceLockWrite true

/-- SNAPSHOT_TRIGGER: a write of 1 to FLT_SNAP_CTRL.TRIGGER (R404). -/
def doSnapshotTrigger (b : Bridge) : Bridge := b.trigger 0

/-- SNAPSHOT_REARM: a write of 1 to REARM (R406). -/
def doSnapshotRearm (b : Bridge) : Bridge := b.modFlt (fun f => { f with armed := true })

/-- SNAP_IN_EDGE: a rising edge on SNAP_IN triggers while PIN_EN is 1 (R404). -/
def doSnapInEdge (b : Bridge) : Bridge := if b.faults.pinEn then b.trigger 2 else b

/-- BUCKET_LEAK: at a tick whose stride is a multiple of D, a bucket level falls by 1, once (R386). -/
def doBucketLeak (k s : Nat) (b : Bridge) : Bridge := b.leak k s

/-- The leaks due at a tick that no command has asked for (R386). -/
def Bridge.leakAll (b : Bridge) : Bridge :=
  b.each b.faults.block (fun e b => b.each e.2.src (fun x b => if x.2.level = 0 then b else b.leak e.1 x.1))

/-- Resident firmware has served a block's interrupt: EVENT is cleared in its view, and the source falls (R391, log entry 13). -/
def Bridge.serveBlock (k : Nat) (b : Bridge) : Bridge :=
  let b := b.modBlk k (fun x => { x with src := Tbl.mapv (fun _ s => { s with event := false }) x.src })
  match blockSource k with
  | some i => b.level i false
  | none => b

end Sys2Proof.Machine
end

