-- ==== Sys2Proof/Machine/Maps.lean ====
section
/-! DEFINITION. The maps: segment entries, descriptors, remap, residency, the location of a line, what a sled and a stack hold
(chapters 03 and 04). -/

namespace Sys2Proof.Machine

open Sys2Proof

/-- Segments of an instance: P + M (R317). -/
def Grant.segs (g : Grant) : Nat := ceilDiv g.plain 512 + ceilDiv g.mirrored 512

/-- The segment entry of a window index of an instance (R71). -/
def Bridge.segAt (b : Bridge) (inst idx : Nat) : Option SegEntry := Tbl.find (inst * 131072 + idx) b.ten.seg

/-- Change a segment entry. -/
def Bridge.modSeg (key : Nat) (f : SegEntry → SegEntry) (b : Bridge) : Bridge :=
  b.modTen (fun t => { t with seg := t.seg.map (fun e => if e.1 = key then (e.1, f e.2) else e) })

/-- The segment entry, with its key, of a DLA segment (R71). -/
def Bridge.segOfDla (b : Bridge) (s : Nat) : Option (Nat × SegEntry) :=
  b.ten.seg.find? (fun e => decide (e.2.dlaSeg = s))

/-- The channel that accesses to a segment resolve on (R71, R97). -/
def SegEntry.chan (e : SegEntry) : Nat := if e.onAlt then e.alt.1 else e.res.1

/-- The descriptor key of extent number `ext` in a segment's slice on channel `ch` (R72). -/
def SegEntry.descKey (e : SegEntry) (ch ext : Nat) : Option Nat :=
  if e.res.1 = ch then some (ch * 2 ^ 22 + e.res.2 * 512 + ext % 512)
  else if e.mirrored ∧ e.alt.1 = ch then some (ch * 2 ^ 22 + e.alt.2 * 512 + ext % 512)
  else none

/-- The descriptor, with its key, that channel `ch` holds for extent `ext` (R72). -/
def Bridge.descOn (b : Bridge) (ch ext : Nat) : Option (Nat × Desc) :=
  (b.herd.desc.find? (fun e => decide (e.2.ext = ext ∧ e.1 / 2 ^ 22 = ch ∧ e.2.valid)))

/-- Change a descriptor; its generation advances (R72). -/
def Bridge.modDesc (key : Nat) (f : Desc → Desc) (b : Bridge) : Bridge :=
  b.modHerd (fun h => { h with desc := h.desc.map (fun e =>
    if e.1 = key then (e.1, { f e.2 with gen := (e.2.gen + 1) % 2 ^ 32 }) else e) })

/-- The key of a granule's exception entry on its resolving channel (R75). -/
def excKey (ch g : Nat) : Nat := ch * 2 ^ 35 + g

/-- The stack that holds a channel's maps (R13). -/
def stackOf (ch : Nat) : Nat := ch / 8

/-- A directory entry of a granule as its resolving channel sees it (R76). -/
def Bridge.resident (b : Bridge) (ch g : Nat) : Option DirEntry :=
  match Tbl.find g b.herd.dir with
  | some e => if e.resCh = ch ∧ e.state ≠ .filling then some e else none
  | none => none

/-- A granule's state as R76 names it: a dirty one whose lines are on their way home is writing back. -/
def DirEntry.shown (e : DirEntry) : FrameState := if e.state = .dirty ∧ e.wbFlight ≠ 0 then .writingBack else e.state

/-- Change a directory entry. -/
def Bridge.modDir (g : Nat) (f : DirEntry → DirEntry) (b : Bridge) : Bridge :=
  b.modHerd (fun h => { h with dir := h.dir.map (fun e => if e.1 = g then (e.1, f e.2) else e) })

/-- The home of a granule under its descriptor: channel and sled granule index; none where the map is in error (R75). -/
def Bridge.homeOf (b : Bridge) (key : Nat) (d : Desc) (g : Nat) : Option (Nat × Nat) :=
  if d.bitmap.getLsbD (g % 512) then
    match Tbl.find (excKey (key / 2 ^ 22) g) b.herd.exc with
    | some e => if e.inst = d.inst ∧ e.pending = false then some e.home else none
    | none => none
  else some (d.home.1, d.home.2 * 512 + g % 512)

/-- A kind of copy that changes a granule's location (R112). -/
def CopyKind.moves : CopyKind → Bool
  | .promotion => true
  | .relocation => true
  | .evacuation => true
  | .retirement => true
  | .homeMove => false
  | .writeBack => false
  | .mirror => false

/-- The copy in progress that directs a granule's accesses on its resolving channel (R117). -/
def Bridge.moveOf (b : Bridge) (ch g : Nat) : Option (Nat × Copy) :=
  b.herd.copies.find? (fun e => decide (e.2.gran = g) && e.2.kind.moves
    && ((b.descOn ch (g / 512)).any (fun d => !d.2.mirror || decide (e.2.srcCh = ch))))

/-- A line marked POISON has left the frame that its granule has or is being copied to (R85). -/
def Bridge.leftFrame (b : Bridge) (g k : Nat) : Bool := (Tbl.find g b.herd.dir).any (fun e => e.atHome.getLsbD k)

/-- Where an access to a line goes (R66). -/
inductive Place where
  | at (l : Loc)
  | frozen
  | unbacked (mismatch : Bool)
  deriving DecidableEq, Repr

/-- The channel of a location's link part; none for the near tier (R79). -/
def Loc.link : Loc → Option Nat
  | .near _ => none
  | .sled c _ => some c

/-- The location of a line of an instance as resolving channel `ch` finds it: extent map, remap, near-tier directory, moved
mask (R66 steps 4-7, R117, R322). -/
def Bridge.place (ch inst ln : Nat) (b : Bridge) : Place :=
  let g := ln / 64
  let k := ln % 64
  match b.descOn ch (g / 512) with
  | none => .unbacked false
  | some (key, d) =>
    if d.inst ≠ inst then .unbacked true
    else if d.state = 3 then .frozen
    else
      match b.homeOf key d g with
      | none => .frozen
      | some (hc, hg) =>
        match b.resident ch g with
        | some e =>
          if e.inst ≠ inst then .unbacked true
          else if e.atHome.getLsbD k then .at (.sled hc hg)
          else .at (.near e.frame)
        | none =>
          match b.moveOf ch g with
          | some (_, c) => if c.moved.getLsbD k && !b.leftFrame g k then .at c.dst else .at c.src
          | none => .at (.sled hc hg)

/-- The location of a line that a read is to take: the tenancy rules are checked again at its admission (R338). -/
def Bridge.readPlace (ch inst ln : Nat) (b : Bridge) : Place :=
  match b.segOfDla (ln / 2 ^ 24) with
  | some (_, e) => if e.valid ∧ e.inst = inst then b.place ch inst ln else .unbacked (decide (e.inst ≠ inst))
  | none => .unbacked false

/-- The home of a granule as its resolving channel has it (R106). -/
def Bridge.homeLoc (b : Bridge) (ch g : Nat) : Option (Nat × Nat) :=
  match b.descOn ch (g / 512) with
  | some (key, d) => b.homeOf key d g
  | none => none

/-- A granule's home channel; 16 where it has none. -/
def Bridge.homeCh (b : Bridge) (ch g : Nat) : Nat := ((b.homeLoc ch g).map Prod.fst).getD 16

/-- Dirty granules homed on channel `n` (R135). -/
def Bridge.dirtyCount (b : Bridge) (n : Nat) : Nat :=
  (b.herd.dir.filter (fun e => e.2.counts && decide (b.homeCh e.2.resCh e.1 = n))).length

/-- Resident granules of an instance, frames in filling among them (R113). -/
def Bridge.residentOf (b : Bridge) (inst : Nat) : Nat :=
  (b.herd.dir.filter (fun e => decide (e.2.inst = inst))).length

/-- Frames of a stack in use: in the directory, or reserved until FCLK 128 (R138). -/
def Bridge.framesUsed (b : Bridge) (stack : Nat) : Nat :=
  (b.herd.dir.filter (fun e => decide (e.2.frame / 2 ^ 24 = stack))).length
    + (b.herd.freeing.filter (fun e => match e.1 with
        | .near f => decide (f / 2 ^ 24 = stack)
        | .sled _ _ => false)).length

/-- In-service frames of a stack (R138). -/
def Bridge.framesOf (b : Bridge) (stack : Nat) : Nat := if stack = 0 then b.herd.frames.1 else b.herd.frames.2

/-- Free frames of a stack (R113, R138). -/
def Bridge.freeFrames (b : Bridge) (stack : Nat) : Nat := b.framesOf stack - b.framesUsed stack

/-- Frames of a pseudo-channel (R23: 1.5 GiB). -/
def pcFrames : Nat := 393216

/-- A frame is free: on a pseudo-channel in service, held by nothing, and within the frames that its stack has in service (R23, R138). -/
def Bridge.frameFree (b : Bridge) (frame : Nat) : Bool :=
  let stack := frame / 2 ^ 24
  decide (stack < 2) && decide (frame % 2 ^ 24 < 32 * pcFrames) && decide (0 < b.freeFrames stack)
    && !b.glb.pcFenced.contains (stack * 64 + Config.framePc frame)
    && b.herd.dir.all (fun e => decide (e.2.frame ≠ frame))
    && b.herd.freeing.all (fun e => decide (e.1 ≠ .near frame))

/-- Extent `x` of channel `n`'s sled, as the books have it. -/
def Bridge.sledExt (b : Bridge) (n x : Nat) : SledExt := Tbl.get {} (n * 2 ^ 22 + x) b.herd.ext

/-- Change extent `x` of channel `n`'s sled; an extent that holds nothing is not listed. -/
def Bridge.modExt (n x : Nat) (f : SledExt → SledExt) (b : Bridge) : Bridge :=
  let v := f (b.sledExt n x)
  b.modHerd (fun h => { h with ext :=
    if v = ({} : SledExt) then Tbl.del (n * 2 ^ 22 + x) h.ext else Tbl.put (n * 2 ^ 22 + x) v h.ext })

/-- Extents of the admitted sled's capacity (R514). -/
def Bridge.capExts (b : Bridge) (n : Nat) : Nat := if (b.chan n).svc.admitted then (b.chan n).svc.capGib * 512 else 0

/-- The listed extents of channel `n`. -/
def Bridge.extsOf (b : Bridge) (n : Nat) : List (Nat × SledExt) :=
  (b.herd.ext.filter (fun e => decide (e.1 / 2 ^ 22 = n))).map (fun e => (e.1 % 2 ^ 22, e.2))

/-- Granules of an extent in use. -/
def SledExt.used (x : SledExt) : Nat :=
  if x.journal then 512
  else if x.whole then 512 - bitCount (x.away &&& ~~~ (x.gran ||| x.retired))
  else bitCount (x.gran ||| x.retired)

/-- Granules of channel `n`'s sled that nothing holds, reserve included (R138). -/
def Bridge.freeGrans (b : Bridge) (n : Nat) : Nat :=
  b.capExts n * 512 - ((b.extsOf n).map (fun e => e.2.used)).foldl (· + ·) 0

/-- Granules of channel `n`'s reserve that none of the reserve's three users holds yet: granules retired into it, the journal copies, and
granules that an evacuation has homed there (R20, R125). -/
def Bridge.reserveLeft (b : Bridge) (n : Nat) : Nat :=
  (b.chan n).svc.reserve * 512 - ((b.extsOf n).map (fun e => if e.2.journal then 512 else bitCount e.2.resv)).foldl (· + ·) 0

/-- Free granules of channel `n` outside its reserve (R20, R115). -/
def Bridge.freeOutside (b : Bridge) (n : Nat) : Nat := b.freeGrans n - b.reserveLeft n

/-- An extent of channel `n`'s sled that nothing holds. -/
def Bridge.extFree (b : Bridge) (n x : Nat) : Bool := decide (x < b.capExts n) && decide (b.sledExt n x = ({} : SledExt))

/-- A granule of channel `n`'s sled that nothing holds. -/
def Bridge.granFree (b : Bridge) (n g : Nat) : Bool :=
  let x := b.sledExt n (g / 512)
  decide (g / 512 < b.capExts n) && !x.journal && !(x.gran ||| x.retired).getLsbD (g % 512) && (!x.whole || x.away.getLsbD (g % 512))
    && b.herd.freeing.all (fun e => decide (e.1 ≠ .sled n g))

/-- Claim a granule of a sled (R138). -/
def Bridge.claimGran (n g : Nat) (b : Bridge) : Bridge :=
  b.modExt n (g / 512) (fun x => { x with gran := setBit x.gran (g % 512) true })

/-- A granule that is its own extent's goes back to the extent (R115, R126). -/
def Bridge.ownGran (n g : Nat) (b : Bridge) : Bridge :=
  b.modExt n (g / 512) (fun x => { x with away := setBit x.away (g % 512) false })

/-- A granule counts as reserve in use (R20). -/
def Bridge.reserveGran (n g : Nat) (b : Bridge) : Bridge :=
  b.modExt n (g / 512) (fun x => { x with resv := setBit x.resv (g % 512) true })

/-- Free a granule of a sled (R119): one of a whole extent's own is free within the extent. -/
def Bridge.freeGran (n g : Nat) (b : Bridge) : Bridge :=
  b.modExt n (g / 512) (fun x =>
    let k := g % 512
    let x := { x with resv := setBit x.resv k false }
    if x.whole && !x.gran.getLsbD k then { x with away := setBit x.away k true } else { x with gran := setBit x.gran k false })

/-- A whole extent is no extent's home any more; granules of others that stand in it stay (R126, R340). -/
def Bridge.freeExt (n x : Nat) (b : Bridge) : Bridge :=
  b.modExt n x (fun x => { x with whole := false, away := 0, resv := x.resv &&& (x.gran ||| x.retired) })

/-- An extent whose granules all are one extent's: it is that extent's home as a whole (R75). -/
def SledExt.own (x : SledExt) : SledExt := { x with whole := true, gran := 0, away := 0 }

/-- `k` free extents of channel `n`, from a start on, going round: which ones are resident firmware's choice (R74, R318, log
entry 22). -/
def Bridge.someExts (b : Bridge) (n k start : Nat) : List Nat :=
  ((List.range (Nat.min (b.capExts n) (k + (b.extsOf n).length))).map (fun j => (start + j) % b.capExts n)).filter (b.extFree n)
    |>.take k

/-- Persist mode is in force (R133). -/
def Bridge.persistMode (b : Bridge) : Bool :=
  decide (b.herd.holdup ≠ 0) && b.herd.persistReq && channels.all (fun n => !(b.chan n).svc.admitted || (b.chan n).ll.id.persist)

/-- The link capacity of channel `n` for the ceilings: 0 for a fenced channel (R135). -/
def Bridge.ceilC (b : Bridge) (n : Nat) : Nat := if b.chFenced n then 0 else (b.chan n).sch.c

/-- The dirty ceiling of channel `n` (R135). -/
def Bridge.dirtyCeil (b : Bridge) (n : Nat) : Nat :=
  let sum := (channels.map b.ceilC).foldl (· + ·) 0
  let q := if sum = 0 then 0 else b.herd.tune.dirtyCeil * 262144 * b.ceilC n / sum
  if b.persistMode then Nat.min (b.herd.holdup * b.ceilC n * 50 / 4096) q else q

/-- Channel `n` is over its dirty ceiling (R137). -/
def Bridge.overCeil (b : Bridge) (n : Nat) : Bool := decide ((b.chan n).herd.ceil < b.dirtyCount n)

/-- A stride in which a channel is at its ceiling counts once (R141). -/
def Bridge.countCeil (n : Nat) (b : Bridge) : Bridge :=
  if b.dirtyCount n = (b.chan n).herd.ceil ∧ b.herd.ceilAt ≠ b.stride + 1 then
    b.modHerd (fun h => { h with ceilStrides := cnt32 h.ceilStrides 1, ceilAt := b.stride + 1 })
  else b

/-- The 512 bits of key number `gen`: an imported key's, or what the generator drew (R323). -/
def Bridge.keyBits (b : Bridge) (gen : Nat) : BitVec 512 := (Tbl.find gen b.knl.imported).getD (Config.key gen)

/-- Plaintext of a line's ciphertext under key number `gen` (R80, R324), where a frame holds no line of its own that of a free one (log entry 4). -/
def Bridge.plain (gen ln : Nat) (c : Option Line) (b : Bridge) : Line × Bridge :=
  match c with
  | some c => (decryptLine (b.keyBits gen) ln c, b)
  | none =>
    let (c, b) := b.freeLine
    (decryptLine (b.keyBits gen) ln c, b)

/-- The key of an instance is loaded and valid (R325). -/
def Bridge.keyOk (b : Bridge) (inst : Nat) : Bool := (b.inst inst).keyValid

/-- A fenced channel's mirrored partner, or none: the other resolving channel of a mirrored line (R97). -/
def SegEntry.other (e : SegEntry) (ch : Nat) : Option Nat :=
  if !e.mirrored then none else if ch = e.res.1 then some e.alt.1 else some e.res.1

/-- The translation cache's set of a descriptor index: 16,384 sets of 4 ways (R77). -/
def xltSet (idx : Nat) : Nat := idx % 16384

/-- Granules of an extent that are resident as its resolving channel sees them (R129, NEAR_COUNT). -/
def Bridge.nearCount (b : Bridge) (ch ext : Nat) : Nat :=
  (b.herd.dir.filter (fun e => decide (e.1 / 512 = ext) && decide (e.2.resCh = ch) && decide (e.2.state ≠ .filling))).length

/-- A map error: the extent freezes and the error is counted (R73). -/
def Bridge.mapError (n idx : Nat) (b : Bridge) : Bridge :=
  (b.modDesc (n * 2 ^ 22 + idx) (fun d => { d with state := 3 })).modAcc n (fun a => { a with crcErr := cnt32 a.crcErr 1 })

/-- A lookup in the translation cache of channel `ch` for an instance, with its count (R77): a miss fetches the descriptor, whose INSTANCE
`own` tags the entry. A full set gives up one of its ways, which one is open (log entry 4). -/
def Bridge.xltLookup (ch inst idx own : Nat) (b : Bridge) : Bridge :=
  match Tbl.find idx (b.chan ch).acc.cached with
  | some (i, _) =>
    if i = inst then b.modAcc ch (fun a => { a with hit := a.hit + 1 })
    else b.modAcc ch (fun a => { a with miss := a.miss + 1, cached := Tbl.put idx (own, false) a.cached })
  | none =>
    let ways := (Tbl.keys (b.chan ch).acc.cached).filter (fun j => decide (xltSet j = xltSet idx))
    let (k, b) := if 4 ≤ ways.length then b.freeNat else (0, b)
    let drop := if 4 ≤ ways.length then ways[k % ways.length]? else none
    b.modAcc ch (fun a =>
      let c := match drop with
        | some j => Tbl.del j a.cached
        | none => a.cached
      { a with miss := a.miss + 1, cached := Tbl.put idx (own, false) c })

/-- The remap of a granule is looked up (R66 step 5, R75, R77): the first need of the bitmap fetches it into the cache, a moved granule
costs an exception lookup, and one with no valid entry is a map error. -/
def Bridge.remapLookup (ch key : Nat) (d : Desc) (g : Nat) (b : Bridge) : Bridge :=
  if d.bitmap = 0 then b
  else
    let idx := key % 2 ^ 22
    let b := b.modAcc ch (fun a => { a with cached := match Tbl.find idx a.cached with
      | some (i, _) => Tbl.put idx (i, true) a.cached
      | none => a.cached })
    if d.bitmap.getLsbD (g % 512) then
      let b := b.modAcc ch (fun a => { a with excLookup := cnt32 a.excLookup 1 })
      if (b.homeOf key d g).isNone then (b.mapError ch idx).event ch 31 false idx (some d.inst) else b
    else b

/-- A directory lookup, made only where NEAR_COUNT is not zero: the directory cache's misses are open (R76, log entry 4). -/
def Bridge.dirLookup (ch ext : Nat) (b : Bridge) : Bridge :=
  if b.nearCount ch ext = 0 then b
  else
    let (k, b) := b.freeNat
    if k % 2 = 0 then b else b.modAcc ch (fun a => { a with dirMiss := cnt32 a.dirMiss 1 })

/-- The lookups that resolving a line takes on a channel, once for each line as it arrives there (R66 steps 4-6, R77, log entry 101): they
end with the step that refuses the access. -/
def Bridge.lookups (ch inst ln : Nat) (b : Bridge) : Bridge :=
  match (b.segOfDla (ln / 2 ^ 24)).bind (fun e => e.2.descKey ch (ln / 32768)) with
  | none => b
  | some key =>
    let d := Tbl.find key b.herd.desc
    let b := b.xltLookup ch inst (key % 2 ^ 22) (d.elim 0 (fun d => d.inst))
    match d with
    | none => b
    | some d =>
      if !d.valid || d.inst ≠ inst || d.state = 3 then b
      else
        let b := b.remapLookup ch key d (ln / 64)
        if (b.homeOf key d (ln / 64)).isNone then b else b.dirLookup ch (ln / 32768)

/-- An access found unbacked on its resolving channel (R70); its event is logged once. -/
def Bridge.unbackedOn (ch inst ln : Nat) (mismatch logged : Bool) (b : Bridge) : Bridge :=
  let b := b.modAcc ch (fun a => { a with
    unbacked := cnt32 a.unbacked 1, tagMismatch := if mismatch then cnt32 a.tagMismatch 1 else a.tagMismatch })
  if logged then b
  else (b.modInst inst (fun x => { x with tagErr := satAdd 255 x.tagErr 1 })).event 0x2F 8 false (ln * 64) (some inst)

end Sys2Proof.Machine
end

