-- ==== Sys2Proof/Machine/Send.lean ====
section
/-! DEFINITION. What a channel sends on its link: virtual channels, credits, flits (R278-R295). One message goes in one SEQ
flit (log entry 23). -/

namespace Sys2Proof.Machine

open Sys2Proof

/-- The request virtual channel of a class, by the link's count of virtual channels (R290). -/
def reqVc (count cls : Nat) : Nat :=
  match cls with
  | 1 => if count = 8 then 7 else 0
  | 4 => if count = 2 then 0 else 2
  | 5 => if count = 2 then 0 else if count ≤ 5 then 2 else 5
  | 6 => if count = 2 then 0 else if count ≤ 6 then 2 else 6
  | _ => 0

/-- The virtual channel of the bridge's management messages (R290). -/
def mgmtVc (count : Nat) : Nat := if count ≤ 3 then 0 else 3

/-- The virtual channel of the sled's management messages (R290). -/
def sledMgmtVc (count : Nat) : Nat := if count ≤ 3 then 1 else 3

/-- The response virtual channel of a read's (R291). -/
def rspVc (count vc : Nat) : Nat := if vc = 0 ∨ vc = 7 then 1 else if 5 ≤ count then 4 else 1

/-- Virtual channels in use on a link. -/
def Link.count (l : Link) : Nat := l.vcs + 1

/-- Header and data credits a message needs; none where it needs none (R283). -/
def HtlMsg.needs : HtlMsg → Option Nat
  | .wr _ _ => some 1
  | .rd _ _ _ => some 0
  | .sregRd _ _ => some 0
  | .sregWr _ _ _ => some 0
  | .save _ => some 0
  | .mcred _ => none
  | .msyncReq _ => none
  | .msyncRsp _ _ => none
  | .cred _ _ _ => none

/-- The sled lines a message is to, as first line and count (R295). -/
def HtlMsg.span : HtlMsg → Nat × Nat
  | .wr l _ => (l, 1)
  | .rd _ l n => (l, n)
  | _ => (0, 0)

/-- Two messages are to one line (R295). -/
def HtlMsg.meets (a m : HtlMsg) : Bool :=
  decide (a.span.1 < m.span.1 + m.span.2) && decide (m.span.1 < a.span.1 + a.span.2)

/-- Credits of data VC `v`. -/
def Link.cred (l : Link) (v : Nat) : VcCred := Tbl.get {} v l.vc

/-- The credits for a message are there (R292, R294). While a resynchronisation runs, no credited VC3 message is sent. -/
def Link.canPay (l : Link) (v : Nat) (m : HtlMsg) : Bool :=
  match m.needs with
  | none => true
  | some d =>
    if v = 3 then l.nonce.isNone && decide (1 ≤ l.avail)
    else
      let c := l.cred v
      decide (1 ≤ (c.hdrLimit + 65536 - c.hdrSent) % 65536) && decide (d ≤ (c.dataLimit + 65536 - c.dataSent) % 65536)

/-- Take the credits of a message (R293). -/
def Link.pay (v : Nat) (m : HtlMsg) (l : Link) : Link :=
  match m.needs with
  | none => l
  | some d =>
    if v = 3 then { l with avail := l.avail - 1 }
    else
      let c := l.cred v
      { l with vc := Tbl.put v { c with hdrSent := (c.hdrSent + 1) % 65536, dataSent := (c.dataSent + d) % 65536 } l.vc }

/-- Send what the queue of messages lets go: in order, but that a message short of credit is passed by later ones to other
lines on other virtual channels (R295); at most 128 flits unacknowledged (R288). Answers the link, what is held, and what
goes out. -/
def pumpList (ch : Nat) : List (Nat × HtlMsg) → List (Nat × HtlMsg) → Link → List Emit → Link × List (Nat × HtlMsg) × List Emit
  | [], held, l, out => (l, held, out)
  | (v, m) :: t, held, l, out =>
    if held.all (fun h => decide (h.1 ≠ v) && !h.2.meets m) && l.canPay v m && decide (l.unacked.length < 128) then
      let l := l.pay v m
      let seq := l.txNext
      pumpList ch t held
        { l with txNext := (seq + 1) % 4096, unacked := l.unacked ++ [(seq, v, m)], txFlits := l.txFlits + 1 }
        (out ++ [.htl ch v seq m])
    else pumpList ch t (held ++ [(v, m)]) l out

/-- Send what waits on channel `n`'s link, while it is UP and not saved (R298, R307). -/
def Bridge.pump (n : Nat) (b : Bridge) : Bridge :=
  let l := (b.chan n).ll
  if l.state = .up ∧ !l.saved then
    let (l, held, out) := pumpList n l.txq [] l []
    (b.modLl n (fun _ => { l with txq := held })).emits out
  else b

/-- Put a message on channel `n`'s link (R283). -/
def Bridge.sendHtl (n vc : Nat) (m : HtlMsg) (b : Bridge) : Bridge :=
  (b.modLl n (fun l => { l with txq := l.txq ++ [(vc, m)] })).pump n

/-- A tag that no outstanding read has, from the next one on (R284). -/
def Link.freeTag (l : Link) : Nat :=
  (((List.range (l.tags.length + 1)).map (fun k => (l.nextTag + k) % 65536)).find? (fun k => (Tbl.find k l.tags).isNone)).getD l.nextTag

/-- Send a read of `lns.length` lines from sled line `first` on channel `n` for a class (R284). -/
def Bridge.sendRead (n cls first : Nat) (lns : List Nat) (use : TagUse) (b : Bridge) : Bridge :=
  let l := (b.chan n).ll
  let tag := l.freeTag
  let b := b.modLl n (fun l => { l with
    tags := Tbl.put tag { line := first, len := lns.length, use := use, lns := lns, vc := reqVc l.count cls } l.tags, nextTag := (tag + 1) % 65536 })
  b.sendHtl n (reqVc l.count cls) (.rd tag first lns.length)

/-- Send a write of one line on channel `n` for a class (R284). -/
def Bridge.sendWrite (n cls line : Nat) (w : Codeword) (b : Bridge) : Bridge :=
  b.sendHtl n (reqVc (b.chan n).ll.count cls) (.wr line w)

/-- Send a link-control record (R286); nothing goes to a sled whose SAVE_RSP has been accepted (R307). -/
def Bridge.sendRec (n : Nat) (r : HtlRec) (b : Bridge) : Bridge := if (b.chan n).ll.saved then b else b.emit (.linkRec n r)

/-- The sled line of line `k` of a sled granule (R284). -/
def sledLine (gran k : Nat) : Nat := gran * 64 + k % 64

/-- Runs of a unit's lines that lie one after another in one granule of channel `n`'s sled: number of the first, and the lines
(R283: at most 8, within one granule). -/
def sledRuns (n : Nat) : Nat → List (Nat × Loc) → List (Nat × Nat × List Nat) → List (Nat × Nat × List Nat)
  | _, [], acc => acc.reverse
  | k, (ln, loc) :: t, acc =>
    match loc with
    | .near _ => sledRuns n (k + 1) t acc
    | .sled c g =>
      if c ≠ n then sledRuns n (k + 1) t acc
      else
        match acc with
        | (off, first, lns) :: rest =>
          if first + lns.length = sledLine g ln ∧ off + lns.length = k ∧ lns.length < 8 ∧ first / 64 = g then
            sledRuns n (k + 1) t ((off, first, lns ++ [ln]) :: rest)
          else sledRuns n (k + 1) t ((k, sledLine g ln, [ln]) :: acc)
        | [] => sledRuns n (k + 1) t [(k, sledLine g ln, [ln])]

/-- Send the reads of a unit's lines that lie on channel `n`'s sled (R79, R284). -/
def Bridge.sendUnitReads (n cls resCh uid : Nat) (places : List (Nat × Loc)) (b : Bridge) : Bridge :=
  b.each (sledRuns n 0 places []) (fun r b => b.sendRead n cls r.2.1 r.2.2 (.unit resCh uid r.1))

end Sys2Proof.Machine
end

