-- ==== Sys2Proof/Machine/HostData.lean ====
section
/-! DEFINITION. Host reads in progress: their lines' data, poison, completions (R83-R86, R90, R97, R223, R233, R397). -/

namespace Sys2Proof.Machine

open Sys2Proof

/-- Host read `rid`. -/
def Bridge.read (b : Bridge) (rid : Nat) : Option HostRead := Tbl.find rid b.port.reads

/-- Change host read `rid`. -/
def Bridge.modRead (rid : Nat) (f : HostRead → HostRead) (b : Bridge) : Bridge :=
  b.modPort (fun p => { p with reads := p.reads.map (fun e => if e.1 = rid then (e.1, f e.2) else e) })

/-- Change line `idx` of host read `rid`. -/
def Bridge.modLine (rid idx : Nat) (f : RdLine → RdLine) (b : Bridge) : Bridge :=
  b.modRead rid (fun r => { r with lines := r.lines.set idx (f (r.lines.getD idx { ln := 0, ch := none })) })

/-- Completions of a PCI Express read in ascending address order: start and length of each (R223). -/
def completionSpans (addr len mps : Nat) (poisoned : Bool) : List (Nat × Nat) :=
  blocksOf (if poisoned then 64 else Nat.min 256 mps) 4096 addr len

/-- Line number of the first line of a read. -/
def HostRead.base (r : HostRead) : Nat := r.addr / 64

/-- The data and poison of the line that holds byte `a` of a read. -/
def HostRead.lineAt (r : HostRead) (a : Nat) : Line × Bool :=
  match (r.lines[a / 64 - r.base]?).bind (·.done) with
  | some d => d
  | none => (0, false)

/-- A line's data is poisoned in some line of the read. -/
def HostRead.anyPoison (r : HostRead) : Bool := r.lines.any (fun l => match l.done with
  | some (_, p) => p
  | none => false)

/-- Bytes of a read's completion from `a`, `n` long; a poisoned completion's payload is zeros (R86). -/
def HostRead.payload (r : HostRead) (a n : Nat) (ep : Bool) : List Byte :=
  if ep then List.replicate n 0
  else ((List.range n).map (fun k => lineByte (r.lineAt (a + k)).1 ((a + k) % 64)))

/-- Max_Payload_Size in bytes: PF0's for every function (R225). -/
def Bridge.mpsBytes (b : Bridge) : Nat := 128 * 2 ^ (b.func 0).mps

/-- Answer a host read whose lines are all there (R223, R233), and forget it. -/
def Bridge.finishRead (rid : Nat) (r : HostRead) (b : Bridge) : Bridge :=
  let b := b.modPort (fun p => { p with reads := Tbl.del rid p.reads, rxRd := p.rxRd + r.len })
  let b := b.countTlm (fun t => { t with hostRd := t.hostRd + r.lines.length })
  if r.cxl then
    let d := r.lineAt r.addr
    let ch := (r.lines[0]?).bind (·.ch)
    let dl := match ch with
      | some c => (b.chan c).sch.devload
      | none => 0
    (b.modPort (fun p => { p with poisonTx := if d.2 then cnt32 p.poisonTx 1 else p.poisonTx })).emit
      (.memData r.tag (if d.2 then 0 else d.1) d.2 dl)
  else
    b.each (completionSpans r.addr r.len b.mpsBytes r.anyPoison) (fun s b =>
      let ep := r.anyPoison && (r.lineAt s.1).2
      (b.modPort (fun p => { p with poisonTx := if ep then cnt32 p.poisonTx 1 else p.poisonTx })).emit
        (.cpl r.fn r.tag 0 (r.payload s.1 s.2 ep) ep))

/-- Answer host read `rid` if every line has returned. -/
def Bridge.checkRead (rid : Nat) (b : Bridge) : Bridge :=
  match b.read rid with
  | some r => if r.lines.all (fun l => l.done.isSome) then b.finishRead rid r else b
  | none => b

/-- A line of a host read has its data: the first to arrive decides. -/
def Bridge.lineDone (rid idx : Nat) (data : Line) (poison : Bool) (b : Bridge) : Bridge :=
  match (b.read rid).bind (fun r => r.lines[idx]?) with
  | some l =>
    if l.done.isSome then b
    else
      let b := b.modLine rid idx (fun l => { l with done := some (data, poison) })
      let b := match l.ch, poison with
        | some c, true => b.modAcc c (fun a => { a with poisonRd := cnt32 a.poisonRd 1 })
        | _, _ => b
      b.checkRead rid
  | none => b

/-- A line completes with poison and returns zeros (R86). -/
def Bridge.linePoison (rid idx : Nat) (b : Bridge) : Bridge := b.lineDone rid idx 0 true

/-- What a read gets of a line: its snapshot over the memory's bytes (R90). An entry with the POISON flag makes it poison (R86); a line that
memory has as poison stays so unless one entry replaces all of it (R85). -/
def mergeSnap (s : Option Snap) (mem : Line) (poison : Bool) : Line × Bool :=
  match s with
  | none => (if poison then 0 else mem, poison)
  | some s => if s.poison || (poison && !s.whole) then (0, true) else (mergeLine s.mask s.data mem, false)

/-- A line returns from memory: the read's snapshot is applied over the memory's bytes (R90). -/
def Bridge.lineMerge (rid idx : Nat) (mem : Line) (poison : Bool) (b : Bridge) : Bridge :=
  match (b.read rid).bind (fun r => r.lines[idx]?) with
  | some l => let v := mergeSnap l.snap mem poison; b.lineDone rid idx v.1 v.2
  | none => b

/-- Whether an access to channel `ch` is refused because it is fenced, or its sled's channel is (R397). -/
def Bridge.locFenced (b : Bridge) (ch : Nat) (l : Loc) : Bool :=
  b.chFenced ch || (match l.link with
    | some c => b.chFenced c
    | none => false)

/-- The condition of the hold limit on channel `c` (R395): it is fenced, or its link is in retry, replaying, or not UP. -/
def Bridge.linkBad (b : Bridge) (c : Nat) : Bool :=
  let l := (b.chan c).ll
  b.chFenced c || decide (l.state ≠ .up) || l.retrying || l.replaying

/-- The segment entry of a line, by its DLA. -/
def Bridge.segOfLine (b : Bridge) (ln : Nat) : Option (Nat × SegEntry) := b.segOfDla (ln / 2 ^ 24)

/-- The partner channel of a mirrored line on channel `ch` (R97): none where it is not mirrored, that channel is fenced, or the
mirror is degraded and the copy there is the one that takes no writes (R400, log entry 89). -/
def Bridge.partnerOf (b : Bridge) (ch ln : Nat) : Option Nat :=
  match b.segOfLine ln with
  | some (_, e) =>
    match e.other ch with
    | some c => if b.chFenced c || (e.degraded && decide (c ≠ e.chan)) then none else some c
    | none => none
  | none => none

/-- Whether a host read's line that cannot be had here is to be had from its mirror partner (R97, R303). -/
def Bridge.aside (b : Bridge) (rid idx ch : Nat) : Bool :=
  ((b.read rid).bind (fun r => r.lines[idx]?)).any (fun l => l.done.isNone && (b.partnerOf ch l.ln).isSome && !l.partner)

/-- Poison, or set aside for a reissue at the next tick, a host read's line that cannot be had here (R97, R303, R397). -/
def Bridge.loseLine (rid idx ch : Nat) (b : Bridge) : Bridge :=
  match (b.read rid).bind (fun r => r.lines[idx]?) with
  | none => b
  | some l =>
    if l.done.isSome then b
    else if (b.partnerOf ch l.ln).isSome && !l.partner then b.modLine rid idx (fun l => { l with ch := none, fix := none })
    else b.linePoison rid idx

/-- Of two units that reach a scheduler in the same FCLK, the first comes before the second: by class, then instance, then port (R37). -/
def WorkUnit.ahead (u v : WorkUnit) : Bool :=
  decide (u.cls < v.cls) || (decide (u.cls = v.cls) && (decide (u.inst < v.inst) || (decide (u.inst = v.inst) && decide (u.port < v.port))))

/-- A unit joins a queue: behind all that arrived in earlier FCLK, and among those of its own in their order (R37). -/
def arrive (u : WorkUnit) (q : List WorkUnit) : List WorkUnit :=
  let later : WorkUnit → Bool := fun v => decide (v.born = u.born) && u.ahead v
  let tail := (q.reverse.takeWhile later).reverse
  q.take (q.length - tail.length) ++ u :: tail

/-- Take a unit into a channel's class queue (R37); the first unit to arrive ungates the data path (R60). -/
def Bridge.enqueue (n : Nat) (u : WorkUnit) (b : Bridge) : Bridge :=
  let u := { u with id := b.glb.nextUnit, born := b.glb.time }
  ({ b with glb := { b.glb with nextUnit := b.glb.nextUnit + 1 } }).modSch n (fun s => { s with queue := arrive u s.queue, gated := false })

/-- Take a unit into a channel's queue ahead of every other unit of its class (R57, R83). -/
def Bridge.enqueueFirst (n : Nat) (u : WorkUnit) (b : Bridge) : Bridge :=
  let u := { u with id := b.glb.nextUnit, born := b.glb.time }
  ({ b with glb := { b.glb with nextUnit := b.glb.nextUnit + 1 } }).modSch n (fun s => { s with queue := u :: s.queue, gated := false })

/-- Schedule the rewriting of a line at a sled location as a class 6 unit ahead of the others (R57, R83, R84). -/
def Bridge.rewrite (ln : Nat) (loc : Loc) (w : Codeword) (b : Bridge) : Bridge :=
  match loc.link with
  | some c => if b.chFenced c then b else b.enqueueFirst c { id := 0, cls := 6, inst := 0, kind := .scrubWb ln loc w, port := 3 }
  | none => b

/-- Reissue line `idx` of host read `rid` on a partner channel (R84, R97, R303, R395). -/
def Bridge.reissue (rid idx ch : Nat) (b : Bridge) : Bridge :=
  match b.read rid with
  | some r =>
    (b.modLine rid idx (fun l => { l with ch := some ch, partner := true, since := b.glb.time })).enqueue ch
      { id := 0, cls := 2, inst := r.inst, kind := .hostRead rid idx 1, colour := r.colour }
  | none => b

/-- An uncorrectable line is counted and recorded (R84, R104), and is an event of LINE_UNCORR (R388). -/
def Bridge.countUncorr (ch ln inst : Nat) (b : Bridge) : Bridge :=
  (b.modAcc ch (fun a => { a with uncorr := cnt32 a.uncorr 1, last := (ln * 64, inst), lastValid := true })).event ch 29 false
    (ln * 64) (some inst)

/-- A correctable line error is counted (R83), and is an event of LINE_CORR. -/
def Bridge.countCorr (ch ln inst : Nat) (b : Bridge) : Bridge :=
  (b.modAcc ch (fun a => { a with corr := cnt32 a.corr 1 })).event ch 28 false (ln * 64) (some inst)

/-- A line of a host read is uncorrectable at its sled (R84). -/
def Bridge.readUncorr (rid idx ch : Nat) (loc : Loc) (b : Bridge) : Bridge :=
  match b.read rid with
  | none => b
  | some r =>
    match r.lines[idx]? with
    | none => b
    | some l =>
      let bad := Codeword.bad
      match l.fix with
      | some failed =>
        let b := (b.countUncorr ch l.ln r.inst).countUncorr failed l.ln r.inst
        let b := b.rewrite l.ln loc bad
        let b := match b.place failed r.inst l.ln with
          | .at p => b.rewrite l.ln p bad
          | _ => b
        b.linePoison rid idx
      | none =>
        match (if l.partner then none else b.partnerOf ch l.ln) with
        | some c => (b.modLine rid idx (fun l => { l with fix := some ch })).reissue rid idx c
        | none => ((b.countUncorr ch l.ln r.inst).rewrite l.ln loc bad).linePoison rid idx

/-- A line of a host read has been read at its location: checked, decrypted, merged (R82-R86, R90). -/
def Bridge.readLine (rid idx ch gen : Nat) (loc : Loc) (w : Codeword) (check : LineCheck) (b : Bridge) : Bridge :=
  match b.read rid with
  | none => b
  | some r =>
    match r.lines[idx]? with
    | none => b
    | some l =>
      match check with
      | .uncorrectable => b.readUncorr rid idx ch loc
      | _ =>
        let b := if check = .corrected then (b.countCorr ch l.ln r.inst).rewrite l.ln loc w else b
        let b := match l.fix with
          | some failed =>
            let b := b.modAcc failed (fun a => { a with mirrorFix := cnt32 a.mirrorFix 1 })
            match b.place failed r.inst l.ln with
            | .at p => b.rewrite l.ln p w
            | _ => b
          | none => b
        if w.poison || !b.keyOk r.inst then b.lineMerge rid idx 0 true
        else
          let (d, b) := b.plain gen l.ln (some w.data)
          b.lineMerge rid idx d false

end Sys2Proof.Machine
end

