-- ==== Sys2Proof/Machine/Wcb.lean ====
section
/-! DEFINITION. The write-combining buffers: entering, merging, offering, freeing, discarding (R86-R94, R43, R304). -/

namespace Sys2Proof.Machine

open Sys2Proof

/-- Entries of a channel's buffer, open and sealed (R93). -/
def Access.occupied (a : Access) : Nat := a.wcb.length

/-- A unit is the part of another channel's unit: a link part, or a second read of one of its lines (R79, R84). -/
def WorkUnit.partOf (n : Nat) (uids : List Nat) (u : WorkUnit) : Bool :=
  match u.kind with
  | .link c uid _ => decide (c = n) && uids.contains uid
  | .second c uid _ _ _ => decide (c = n) && uids.contains uid
  | _ => false

/-- The ranking of class 3 follows the occupancy (R43). -/
def Bridge.rankByOccupancy (n : Nat) (b : Bridge) : Bridge :=
  let k := (b.chan n).acc.occupied
  b.modSch n (fun s =>
    if 48 ≤ k ∧ !s.flip then { s with flip := true, flips := cnt32 s.flips 1 }
    else if k ≤ 32 then { s with flip := false } else s)

/-- A line of a granule is in flight (R117), or is being copied back to its home in the power-loss sequence (R443). -/
def Bridge.inFlight (n ln : Nat) (b : Bridge) : Bool :=
  (match b.moveOf n (ln / 64) with
  | some (_, c) => c.inFlight.getLsbD (ln % 64)
  | none => false)
    || b.herd.copies.any (fun e => decide (e.2.kind = .mirror ∧ e.2.gran = ln / 64) && (e.2.want &&& ~~~ e.2.landed).getLsbD (ln % 64))

/-- Offer an entry of a channel for drain: its unit joins class 3 (R89); one whose line is in flight is held, and counted (R118). -/
def Bridge.offerEntry (n : Nat) (e : WcbEntry) (b : Bridge) : Bridge :=
  if e.offered ∨ e.sealed then b
  else
    let b := b.modAcc n (fun a => { a with wcb := a.wcb.map (fun x => if x.ln = e.ln ∧ !x.sealed then { x with offered := true } else x) })
    let b := if b.inFlight n e.ln then b.modHerd (fun h => { h with drainHeld := cnt32 h.drainHeld 1 }) else b
    b.enqueue n { id := 0, cls := 3, inst := e.inst, kind := .drain e.ln, colour := e.colour }

/-- Offer every open entry of a channel, oldest first (R89). -/
def Bridge.offerAll (n : Nat) (b : Bridge) : Bridge := b.each (b.chan n).acc.wcb (fun e b => b.offerEntry n e)

/-- The offers due at once: a full mask, or OCCUPIED at 32 or more (R89). -/
def Bridge.offerNow (n : Nat) (b : Bridge) : Bridge :=
  if 32 ≤ (b.chan n).acc.occupied then b.offerAll n
  else b.each ((b.chan n).acc.wcb.filter (fun e => decide (e.mask = fullMask))) (fun e b => b.offerEntry n e)

/-- The open entry of a line. -/
def Access.openEntry (a : Access) (ln : Nat) : Option WcbEntry := a.wcb.find? (fun e => decide (e.ln = ln) && !e.sealed)

/-- The sealed entry of a line. -/
def Access.sealedEntry (a : Access) (ln : Nat) : Option WcbEntry := a.wcb.find? (fun e => decide (e.ln = ln) && e.sealed)

/-- A write's bytes can enter a channel's buffer: an open entry of the line and the same tag takes them, or one is free (R87,
R89, R92). -/
def Access.room (a : Access) (ln inst : Nat) : Bool :=
  match a.openEntry ln with
  | some e => decide (e.inst = inst)
  | none => decide (a.occupied < 64)

/-- A write merges into an open entry (R86, R89). -/
def WcbEntry.merge (data : Line) (mask : LineMask) (poison : Bool) (colour : Colour) (gen : Nat) (e : WcbEntry) : WcbEntry :=
  { e with
    data := mergeLine mask data e.data
    mask := e.mask ||| mask
    colour := colour
    gen := gen
    poison := if poison then true else if mask = fullMask then false else e.poison }

/-- Enter the bytes a write places in one line into a channel's buffer (R86-R89). A write is counted with its first line there (R103). -/
def Bridge.enterLine (n ln inst gen : Nat) (colour : Colour) (mask : LineMask) (data : Line) (poison first : Bool) (b : Bridge) : Bridge :=
  let fresh := ((b.chan n).acc.openEntry ln).isNone
  let b := b.modAcc n (fun a =>
    let wcb :=
      if fresh then
        a.wcb ++ [{ ln := ln, inst := inst, gen := gen, data := mergeLine mask data 0, mask := mask, poison := poison, colour := colour }]
      else a.wcb.map (fun e => if e.ln = ln ∧ !e.sealed then e.merge data mask poison colour gen else e)
    { a with
      wcb := wcb
      writes := if first then a.writes + 1 else a.writes
      coalesce := if fresh then a.coalesce else a.coalesce + 1
      poisonWr := if poison && first then cnt32 a.poisonWr 1 else a.poisonWr
      high := Nat.max a.high wcb.length })
  (b.rankByOccupancy n).offerNow n

/-- What one entry gives a snapshot. -/
def WcbEntry.snap (e : WcbEntry) : Snap := { data := e.data, mask := e.mask, poison := e.poison, whole := !e.poison && decide (e.mask = fullMask) }

/-- The bytes of a line that a channel's sealed and open entries hold, the open entry's taking precedence, with the POISON flag
(R90). -/
def Access.snapshot (a : Access) (ln : Nat) : Option Snap :=
  match (a.sealedEntry ln).map WcbEntry.snap, (a.openEntry ln).map WcbEntry.snap with
  | none, none => none
  | some s, none => some s
  | none, some o => some o
  | some s, some o =>
    some { data := mergeLine o.mask o.data s.data, mask := s.mask ||| o.mask, poison := (s.poison && !o.whole) || o.poison, whole := !o.poison && (s.whole || o.whole) }

/-- Free a sealed entry (R91). -/
def Bridge.freeEntry (n ln : Nat) (b : Bridge) : Bridge :=
  (b.modAcc n (fun a => { a with wcb := a.wcb.filter (fun e => !(decide (e.ln = ln) && e.sealed)) })).rankByOccupancy n

/-- Drop the drain of a line, and its link part, from a channel's schedulers: its entry is gone. -/
def Bridge.dropDrain (n ln : Nat) (b : Bridge) : Bridge :=
  let isDrain : WorkUnit → Bool := fun u => decide (u.kind = .drain ln)
  let uids := ((b.chan n).sch.running.filter (fun r => isDrain r.unit)).map (fun r => r.unit.id)
  let b := b.modSch n (Sched.drop isDrain)
  b.each channels (fun m b => b.modSch m (Sched.drop (WorkUnit.partOf n uids)))

/-- A write of a mirrored line whose partner channel still holds or has taken it is not lost (R558). -/
def Bridge.partnerHolds (b : Bridge) (n ln : Nat) : Bool := (b.partnerOf n ln).isSome

/-- Discard an entry: its drain is dropped, and the line is logged unless its mirror takes the write (R94, R558). -/
def Bridge.discardEntry (n : Nat) (e : WcbEntry) (b : Bridge) : Bridge :=
  let b := b.modAcc n (fun a => { a with wcb := a.wcb.filter (fun x => decide (x ≠ e)) })
  let b := if (b.chan n).acc.wcb.any (fun x => decide (x.ln = e.ln)) then b else b.dropDrain n e.ln
  let b := b.rankByOccupancy n
  if b.partnerHolds n e.ln then b else b.writeLost e.ln e.inst

/-- Discard the entries of a channel's buffer that `p` names. -/
def Bridge.discardEntries (n : Nat) (p : WcbEntry → Bool) (b : Bridge) : Bridge :=
  b.each ((b.chan n).acc.wcb.filter p) (fun e b => b.discardEntry n e)

/-- The stored form of a drain in a grace store (R304): its plaintext encrypted under the key the write was entered with. -/
def WcbEntry.grace (e : WcbEntry) (key : BitVec 512) (resCh : Nat) : GraceLine :=
  { ln := e.ln, inst := e.inst, gen := e.gen, cipher := encryptLine key e.ln (mergeLine e.mask e.data 0),
    mask := e.mask, poison := e.poison, resCh := resCh }

/-- Discard a line of a channel's grace store: the line is logged unless its mirror takes the write (R306, R558). -/
def Bridge.graceLost (n : Nat) (g : GraceLine) (b : Bridge) : Bridge :=
  let b := b.modLl n (fun l => { l with gstore := l.gstore.filter (fun x => !(decide (x.ln = g.ln) && decide (x.resCh = g.resCh))) })
  if b.partnerHolds g.resCh g.ln then b else b.writeLost g.ln g.inst

/-- Move a drain into a channel's grace store and free its entry (R304, R395). Answers whether the store was full. -/
def Bridge.toGrace (n resCh : Nat) (e : WcbEntry) (b : Bridge) : Bool × Bridge :=
  if 65536 ≤ (b.chan n).ll.gstore.length then (true, b)
  else
    let b := b.modLl n (fun l => { l with gstore := l.gstore ++ [e.grace (b.keyBits e.gen) resCh] })
    let b := b.dropDrain resCh e.ln
    let b := b.modAcc resCh (fun a => { a with wcb := a.wcb.filter (fun x => decide (x ≠ e)) })
    (false, b.rankByOccupancy resCh)

end Sys2Proof.Machine
end

