-- ==== Sys2Proof/Machine/Cost.lean ====
section
/-! DEFINITION. What a unit of work is when it is offered: its lines, their locations, its cost on each channel, and whether it
may be admitted (R36, R54, R55, R79, R90, R107, R117, R118, R302-R305). -/

namespace Sys2Proof.Machine

open Sys2Proof

/-- A unit as it stands at a decision: cost at its own channel, link parts on other channels, the lines it reads or writes with
their locations, and lines that end at once with poison. -/
structure Plan where
  cost : Slots := {}
  remote : List (Nat × Slots) := []
  places : List (Nat × Loc) := []
  dead : List Nat := []
  through : Bool := false
  deriving DecidableEq, Repr

/-- Add slots to a channel's share of a split access (R79). -/
def addRemote (c : Nat) (s : Slots) (r : List (Nat × Slots)) : List (Nat × Slots) :=
  match r with
  | [] => [(c, s)]
  | (d, t) :: rest => if d = c then (d, t.add s) :: rest else (d, t) :: addRemote c s rest

/-- The lines of a unit on channel `n`, as DLA line numbers (R36). A line of a host read that has completed is left out. -/
def Bridge.unitLines (n : Nat) (u : WorkUnit) (b : Bridge) : List Nat :=
  match u.kind with
  | .hostRead rid first k =>
    match b.read rid with
    | some r => (((r.lines.drop first).take k).filter (fun l => l.done.isNone && decide (l.ch = some n))).map (fun l => l.ln)
    | none => []
  | .drain ln => [ln]
  | .retriever _ first k => (List.range k).map (· + first)
  | .copySrc c first k => match Tbl.find c b.herd.copies with
    | some x => (List.range k).map (fun j => x.gran * 64 + first + j)
    | none => []
  | .copyDst c first k => match Tbl.find c b.herd.copies with
    | some x => (List.range k).map (fun j => x.gran * 64 + first + j)
    | none => []
  | .scrubRead first k => (List.range k).map (· + first)
  | .scrubWb ln _ _ => [ln]
  | _ => []

/-- A channel's link is held past READ_HOLD (R303). -/
def Bridge.held (b : Bridge) (c : Nat) : Bool := (b.chan c).ll.hold

/-- The home of a line's granule as a location. -/
def Bridge.homePlace (b : Bridge) (n ln : Nat) : Option Loc :=
  (b.homeLoc n (ln / 64)).map (fun h => Loc.sled h.1 h.2)

/-- The copy that moves a line from a location (R117). -/
def Bridge.copyFrom (ln : Nat) (l : Loc) (b : Bridge) : Option Copy :=
  (b.herd.copies.find? (fun e => decide (e.2.gran = ln / 64) && e.2.kind.moves && decide (e.2.src = l))).map Prod.snd

/-- A location is the home of a line on some channel that resolves it. -/
def Bridge.isHome (ln : Nat) (l : Loc) (b : Bridge) : Bool := channels.any (fun c => decide (b.homePlace c ln = some l))

/-- Where a line read at a location, and corrected or found uncorrectable there, is written back: at the destination of its granule's copy
once it has moved, but that POISON never enters the near tier (R85, R117); nowhere once the location is no home of the line any
more. -/
def Bridge.backTo (ln : Nat) (l : Loc) (poison : Bool) (b : Bridge) : Option Loc :=
  match b.copyFrom ln l with
  | some c =>
    if c.moved.getLsbD (ln % 64) && !b.leftFrame (ln / 64) (ln % 64) && !(poison && c.dst.link.isNone) then some c.dst else some l
  | none => if b.isHome ln l then some l else none


/-- A line is to be marked POISON at a location: the write-back that does it waits. Until then it counts as marked (R85, log entry 95). -/
def Bridge.poisonDue (ln : Nat) (l : Loc) (b : Bridge) : Bool :=
  channels.any (fun c => (b.chan c).sch.waiting.any (fun u => match u.kind with
    | .scrubWb k m w => w.poison && decide (k = ln) && decide (b.backTo ln m true = some l)
    | _ => false))

/-- Add one line read to a plan (R36, R79): `own` slots at the unit's channel besides the link part. -/
def Plan.read (b : Bridge) (n ln : Nat) (eng : Nat) (poisonHeld : Bool) (p : Place) (x : Plan) : Plan :=
  match p with
  | .at l =>
    if b.locFenced n l || b.poisonDue ln l then { x with dead := x.dead ++ [ln] }
    else
      match l.link with
      | none => { x with cost := x.cost.add { eng := eng }, places := x.places ++ [(ln, l)] }
      | some c =>
        if poisonHeld && b.held c then { x with dead := x.dead ++ [ln] }
        else if c = n then { x with cost := x.cost.add { inb := 1, eng := eng }, places := x.places ++ [(ln, l)] }
        else { x with cost := x.cost.add { eng := eng }, remote := addRemote c { inb := 1 } x.remote, places := x.places ++ [(ln, l)] }
  | _ => { x with dead := x.dead ++ [ln] }

/-- Channel `n`'s dirty count is at its ceiling (R136). -/
def Bridge.atCeil (b : Bridge) (n : Nat) : Bool := decide ((b.chan n).herd.ceil ≤ b.dirtyCount n)

/-- A drain's plan for one write at a sled location: full lines take one outbound slot, partial lines one inbound too (R36). -/
def drainSled (n ln : Nat) (full : Bool) (c g : Nat) : Plan :=
  let link : Slots := if full then { out := 1 } else { out := 1, inb := 1 }
  let eng : Slots := if full then { eng := 1 } else { eng := 2 }
  if c = n then { cost := link.add eng, places := [(ln, .sled c g)] }
  else { cost := eng, remote := [(c, link)], places := [(ln, .sled c g)] }

/-- A drain's plan for a near-tier frame and a home at once: write-through, or a mirrored granule (R98, R136). -/
def drainBoth (n ln : Nat) (full : Bool) (f c g : Nat) : Plan :=
  let eng : Slots := if full then { eng := 1 } else { eng := 2 }
  if c = n then { cost := eng.add { out := 1 }, places := [(ln, .near f), (ln, .sled c g)], through := true }
  else { cost := eng, remote := [(c, { out := 1 })], places := [(ln, .near f), (ln, .sled c g)], through := true }

/-- The granule counts as dirty already (R135). -/
def Bridge.countsDirty (b : Bridge) (g : Nat) : Bool := match Tbl.find g b.herd.dir with
  | some e => e.counts
  | none => false

/-- A drain's plan (R36, R79, R85, R89, R98, R107, R136); no place where its line has none any more. -/
def Bridge.drainPlan (n : Nat) (e : WcbEntry) (b : Bridge) : Plan :=
  let full := decide (e.mask = fullMask) || e.poison
  match b.place n e.inst e.ln with
  | .at (.sled c g) => drainSled n e.ln full c g
  | .at (.near f) =>
    match b.homeLoc n (e.ln / 64) with
    | none => { dead := [e.ln] }
    | some (c, g) =>
      let mirrored := (b.descOn n (e.ln / 512 / 64)).any (fun d => d.2.mirror)
      if e.poison then drainSled n e.ln true c g
      else if mirrored || (!b.countsDirty (e.ln / 64) && b.atCeil c) then drainBoth n e.ln full f c g
      else { cost := if full then { eng := 1 } else { eng := 2 }, places := [(e.ln, .near f)] }
  | _ => { dead := [e.ln] }

/-- A unit's plan on channel `n` under the map in force (R36, R55). -/
def Bridge.planOf (n : Nat) (u : WorkUnit) (b : Bridge) : Plan :=
  match u.kind with
  | .mgmt send => { cost := if send then { out := 1 } else { inb := 1 } }
  | .hostRead _ _ _ =>
    (b.unitLines n u).foldl (fun x ln => x.read b n ln 1 true (b.readPlace n u.inst ln)) {}
  | .drain ln =>
    match (b.chan n).acc.openEntry ln with
    | some e =>
      let p := b.drainPlan n e
      if p.places.any (fun l => (l.2.link).any b.held) then { p with cost := { eng := p.cost.eng }, remote := [] } else p
    | none => {}
  | .retriever _ _ _ =>
    (b.unitLines n u).foldl (fun x ln => x.read b n ln 1 false (b.readPlace n u.inst ln)) {}
  | .copySrc c first k =>
    match Tbl.find c b.herd.copies with
    | some x =>
      let ls := (List.range k).map (fun j => (x.gran * 64 + first + j, x.src))
      match x.src with
      | .near _ => { places := ls }
      | .sled _ _ => { cost := { inb := k }, places := ls }
    | none => {}
  | .copyDst c first k =>
    match Tbl.find c b.herd.copies with
    | some x => { cost := { out := k }, places := (List.range k).map (fun j => (x.gran * 64 + first + j, x.dst)) }
    | none => {}
  | .scrubRead first k =>
    let inst := ((b.descOn n (first / 64 / 512)).map (fun d => d.2.inst)).getD 0
    (List.range k).foldl (fun x j => x.read b n (first + j) 0 false (b.place n inst (first + j))) {}
  | .scrubWb ln l w =>
    match b.backTo ln l w.poison with
    | none => {}
    | some (.near f) => { places := [(ln, .near f)] }
    | some (.sled c g) =>
      if c = n then { cost := { out := 1 }, places := [(ln, .sled c g)] } else { remote := [(c, { out := 1 })], places := [(ln, .sled c g)] }
  | .selfTest c => { cost := c }
  | .window c => { cost := c }
  | .link _ _ c => { cost := c }
  | .second _ _ _ ln l =>
    let stays : Bool := match l with
      | .near f => (b.resident n (ln / 64)).any (fun e => decide (e.frame = f))
      | .sled _ _ => true
    let l := if stays then some l else b.homePlace n ln
    ({} : Plan).read b n ln (if u.cls = 4 then 1 else 0) false (l.elim .frozen .at)
  | .grace ln full =>
    match (b.chan n).ll.gstore.find? (fun g => decide (g.ln = ln)) with
    | some g =>
      if full then { cost := { out := 1 } }
      else if g.resCh = n then { cost := { out := 1, inb := 1, eng := 3 } }
      else { cost := { out := 1, inb := 1 }, remote := [(g.resCh, { eng := 3 })] }
    | none => {}

/-- Lines a unit stands for in the deficit round robin (R45). -/
def WorkUnit.lineCount (u : WorkUnit) : Nat :=
  match u.kind with
  | .hostRead _ _ k => k
  | .retriever _ _ k => k
  | .copySrc _ _ k => k
  | .copyDst _ _ k => k
  | .scrubRead _ k => k
  | .link _ _ c => Nat.max 1 (Nat.max c.out c.inb)
  | _ => 1

/-- The link of channel `c` carries traffic (R52, R298). -/
def Bridge.linkOpen (b : Bridge) (c : Nat) : Bool := decide ((b.chan c).ll.state = .up) && !b.chFenced c

/-- A read of a line waits for admission on channel `n` (R90). -/
def Bridge.readWaits (n ln : Nat) (b : Bridge) : Bool :=
  let s := (b.chan n).sch
  s.waiting.any (fun u => match u.kind with
    | .hostRead _ _ _ => (b.unitLines n u).contains ln
    | .retriever _ first k => decide (first ≤ ln) && decide (ln < first + k)
    | _ => false)

/-- Outbound slots that channel `d` can set aside for a copy now: from its migration ceiling, its class 5 reservation and the
common pool (R42, R118). -/
def Bridge.canSetAside (d k : Nat) (b : Bridge) : Bool :=
  let s := (b.chan d).sch
  b.linkOpen d && decide (k ≤ s.ceil - s.mig.out) && decide (k ≤ s.rsv5.out + s.pool.out)

/-- Lines in flight on a channel as source (R120). -/
def Bridge.linesInFlight (n : Nat) (b : Bridge) : Nat :=
  ((b.herd.copies.filter (fun e => decide (e.2.srcCh = n))).map (fun e => bitCount e.2.inFlight)).foldl (· + ·) 0

/-- A unit with a write-back source on a line whose earlier destination part is not admitted yet (R108). -/
def Bridge.wbBusy (b : Bridge) (x : Copy) (first k : Nat) : Bool :=
  match Tbl.find x.gran b.herd.dir with
  | some e => !x.kind.moves && decide (e.wbFlight &&& maskRange first k ≠ 0)
  | none => false

/-- A unit may be offered now, whatever its fit: its link carries traffic, and nothing holds it (R52, R90, R117, R118, R120,
R302-R305). -/
def Bridge.ready (n : Nat) (u : WorkUnit) (p : Plan) (b : Bridge) : Bool :=
  let needsLink := decide (p.cost.out + p.cost.inb ≠ 0)
  match u.kind with
  | .hostRead _ _ _ => !needsLink || (b.linkOpen n && !(b.chan n).ll.gdrain)
  | .drain ln =>
    let a := (b.chan n).acc
    (a.openEntry ln).isSome && (a.sealedEntry ln).isNone && !b.readWaits n ln && !b.inFlight n ln
      && (!needsLink || b.linkOpen n)
  | .copySrc c first k =>
    match Tbl.find c b.herd.copies with
    | some x =>
      (!needsLink || b.linkOpen n) && !b.wbBusy x first k && decide (b.linesInFlight n + k ≤ 64)
        && (match x.dst with
          | .near _ => true
          | .sled d _ => b.canSetAside d k)
    | none => true
  | .scrubWb ln l _ => (!needsLink || b.linkOpen n) && !(b.copyFrom ln l).any (fun c => c.inFlight.getLsbD (ln % 64))
  | _ => !needsLink || b.linkOpen n

/-- The colour of a unit of classes 2 and 3 by its own state (R46, R47): a drain has that of the last write merged into its entry; one
that has re-entered is never red again. -/
def Bridge.ownColour (n : Nat) (u : WorkUnit) (b : Bridge) : Colour :=
  if u.aged then .green
  else
    let c := match u.kind with
      | .drain ln => match (b.chan n).acc.openEntry ln with
        | some e => e.colour
        | none => u.colour
      | _ => u.colour
    if c = .red ∧ u.reentry ≠ 0 then .yellow else c

/-- How a unit counts in the ranking of classes 2 and 3: while class 3 ranks above class 2, its units are green (R43, R46, R47). -/
def Bridge.colourNow (n : Nat) (u : WorkUnit) (b : Bridge) : Colour :=
  if u.cls = 3 && (b.chan n).sch.flip then .green else b.ownColour n u

end Sys2Proof.Machine
end

