-- ==== Sys2Proof/Machine/ScanProg.lean ====
section
/-! DEFINITION. Scan programs: columns, terms, the predicate, groups and aggregates, the checks of a descriptor and a program
block, the lines a piece reads and what it makes of them (R157-R176). -/

namespace Sys2Proof.Machine

open Sys2Proof

/-- The width of a type code, CHAR's being its length; none for a code that is no type (R163). -/
def typeWidth (code len : Nat) : Option Nat :=
  match code with
  | 1 => some 1
  | 2 => some 2
  | 3 => some 4
  | 4 => some 8
  | 5 => some 1
  | 6 => some 2
  | 7 => some 4
  | 8 => some 8
  | 9 => some 4
  | 10 => some 8
  | 11 => some 4
  | 12 => some len
  | _ => none

/-- FLOAT32 or FLOAT64 (R163). -/
def isFloat (code : Nat) : Bool := code = 9 || code = 10

/-- A type compared as a signed number: INT8 to INT64 and DATE32 (R163, R166). -/
def isSigned (code : Nat) : Bool := (1 ≤ code && code ≤ 4) || code = 11

/-- A column as a term, an aggregate or the group key names it (R164, R165). -/
structure Col where
  /-- R165: COL -/
  col : Nat
  /-- R163: TYPE -/
  type : Nat
  /-- R165: LEN -/
  len : Nat
  /-- R165: NULL -/
  null : Nat
  /-- R165: NULL_OFF -/
  nullOff : Nat
  deriving DecidableEq, Repr

/-- The width of a column's values; a COUNT of a CHAR column, whose length no field gives, reads its first byte (log entry 29). -/
def Col.width (c : Col) : Nat := (typeWidth c.type c.len).getD 1

/-- The column may be null in row layout (R165). -/
def Col.nullable (c : Col) : Bool := bitOf c.null 7

/-- A job's descriptor, program block and set table, as bytes. -/
structure Prog where
  desc : List Byte
  prog : List Byte
  set : List Byte
  deriving DecidableEq, Repr

namespace Prog

/-- R157: FLAGS, bit `k`. -/
def flag (p : Prog) (k : Nat) : Bool := bitOf (fieldAt 1 1 p.desc) k
/-- R157: OUTPUT. -/
def output (p : Prog) : Nat := fieldAt 2 1 p.desc
/-- R157: JOB_TAG. -/
def tag (p : Prog) : Nat := fieldAt 4 4 p.desc
/-- R157: extent-list form. -/
def isList (p : Prog) : Bool := p.flag 1
/-- R157: column layout. -/
def columnar (p : Prog) : Bool := p.flag 2
/-- R157: STOP_ON_POISON. -/
def stopOnPoison (p : Prog) : Bool := p.flag 3
/-- R157: ROW_STRIDE or NCOLS. -/
def stride (p : Prog) : Nat := fieldAt 32 2 p.desc
/-- R157: RESULT_RING. -/
def ring (p : Prog) : Nat := fieldAt 48 8 p.desc
/-- R164: TERMS. -/
def terms (p : Prog) : Nat := fieldAt 0 1 p.prog
/-- R164: NODES. -/
def nodes (p : Prog) : Nat := fieldAt 1 1 p.prog
/-- R164: ROOT. -/
def root (p : Prog) : Nat := fieldAt 2 1 p.prog
/-- R164: PROJ_FIELDS. -/
def projs (p : Prog) : Nat := fieldAt 3 1 p.prog
/-- R164: ID_PREFIX. -/
def idPrefix (p : Prog) : Bool := bitOf (fieldAt 4 1 p.prog) 0
/-- R164: AGGS. -/
def aggs (p : Prog) : Nat := fieldAt 5 1 p.prog
/-- R164: GROUPS. -/
def groups (p : Prog) : Nat := fieldAt 6 1 p.prog

/-- R165: term `t`'s field at an offset. -/
def termAt (p : Prog) (t off len : Nat) : Nat := fieldAt (0x100 + 80 * t + off) len p.prog
/-- R165: OP of term `t`. -/
def termOp (p : Prog) (t : Nat) : Nat := p.termAt t 3 1
/-- R165: the column of term `t`. -/
def termCol (p : Prog) (t : Nat) : Col :=
  { col := p.termAt t 0 2, type := p.termAt t 2 1, len := p.termAt t 4 1, null := p.termAt t 5 1, nullOff := p.termAt t 6 2 }
/-- R165: CONST_A (0) or CONST_B (1) of term `t`. -/
def termConst (p : Prog) (t k : Nat) : List Byte := bytesAt (0x100 + 80 * t + 16 + 32 * k) 32 p.prog

/-- R165: node `k`'s field at an offset. -/
def nodeAt (p : Prog) (k off len : Nat) : Nat := fieldAt (0x80 + 8 * k + off) len p.prog

/-- R164: FUNC of aggregate `a`. -/
def aggFunc (p : Prog) (a : Nat) : Nat := fieldAt (0x60 + 8 * a) 1 p.prog
/-- R164: the column of aggregate `a`. -/
def aggCol (p : Prog) (a : Nat) : Col :=
  let o := 0x60 + 8 * a
  { col := fieldAt (o + 2) 2 p.prog, type := fieldAt (o + 1) 1 p.prog, len := 1, null := fieldAt (o + 6) 1 p.prog, nullOff := fieldAt (o + 4) 2 p.prog }

/-- R164: the group key's column. -/
def groupCol (p : Prog) : Col :=
  { col := fieldAt 8 2 p.prog, type := fieldAt 10 1 p.prog, len := fieldAt 11 1 p.prog, null := fieldAt 14 1 p.prog, nullOff := fieldAt 12 2 p.prog }
/-- R164: KEY `g`. -/
def key (p : Prog) (g : Nat) : List Byte := bytesAt (0x600 + 32 * g) 32 p.prog

/-- R164: SRC and LEN of projection field `f`. -/
def proj (p : Prog) (f : Nat) : Nat × Nat := (fieldAt (0x40 + 4 * f) 2 p.prog, fieldAt (0x42 + 4 * f) 1 p.prog)

/-- The columns that the program names besides projection fields (R160). -/
def cols (p : Prog) : List Col :=
  (List.range p.terms).map p.termCol ++ (List.range p.aggs).map p.aggCol ++ (if p.groups = 0 then [] else [p.groupCol])

/-- A term is IN_SET (R167). -/
def inSet (p : Prog) : Bool := (List.range p.terms).any (fun t => p.termOp t = 10)

/-- The ranges of the program block that the header's counts name, but for the header (R164). -/
def ranges (p : Prog) : List (Nat × Nat) :=
  [(0x40, 4 * Nat.min 8 p.projs), (0x60, 8 * Nat.min 4 p.aggs), (0x80, 8 * Nat.min 15 p.nodes), (0x100, 80 * Nat.min 16 p.terms),
   (0x600, 32 * Nat.min 16 p.groups)].filter (fun r => decide (r.2 ≠ 0))

/-- Rows of an extent in row layout (R160). -/
def rowsPer (p : Prog) : Nat := 2097152 / p.stride

end Prog

/-- Bits 0 to 127 of NULL that are reserved: 6 to 3 (R164, R165). -/
def nullReserved (n : Nat) : Bool := decide (bitsOf n 6 3 ≠ 0)

/-- A column breaks its rules of place: outside the row, or a slot at or above NCOLS (R160, R165). -/
def Prog.badPlace (p : Prog) (c : Col) : Bool :=
  if p.columnar then decide (p.stride ≤ c.col) else decide (p.stride < c.col + c.width)

/-- A null flag lies outside the row, or reserved bits of NULL are set (R160, R165); ignored in column layout. -/
def Prog.badNull (p : Prog) (c : Col) : Bool :=
  !p.columnar && (nullReserved c.null || (c.nullable && decide (p.stride < c.nullOff + 1)))

/-- Size of a projected entry with the page's WIDTH where LEN is 0 (R164). -/
def Prog.entrySize (p : Prog) (n : Nat) (width : Nat → Nat) : Nat :=
  8 * ceilDiv ((if p.idPrefix then 8 else 0) + ((List.range n).map (fun f => if (p.proj f).2 = 0 then width (p.proj f).1 else (p.proj f).2)).foldl (· + ·) 0) 8

/-- The width of a column slot as the program declares it, at least 1 where it does not (R164). -/
def Prog.declared (p : Prog) (slot : Nat) : Nat :=
  (((p.cols.filter (fun c => decide (c.col = slot))).map Col.width).foldl Nat.max 1)

/-- Parents of a node, or of a term (R165). -/
def Prog.parents (p : Prog) (term : Bool) (k : Nat) : List Nat :=
  (List.range p.nodes).filter (fun j => bitOf (p.nodeAt j (if term then 2 else 4) 2) k)

/-- The root's number: a node, or 16 more for a term (R164). -/
def Prog.rootIs (p : Prog) : Nat := if bitOf p.root 7 then 16 + p.root % 16 else p.root % 16

/-- The level of a node, the root's being 1 (R165); 5 stands for deeper ones. -/
def Prog.level (p : Prog) : Nat → Nat → Nat
  | 0, _ => 5
  | fuel + 1, k =>
    if p.rootIs = k then 1
    else match p.parents false k with
      | j :: _ => 1 + p.level fuel j
      | [] => 5

/-- Offsets in the program block of what breaks the rules of R164 and R165, in ascending order of their 16-byte units: each with
whether it does. -/
def Prog.checks (p : Prog) : List (Nat × Bool) :=
  let out := p.output
  let header : List (Nat × Bool) :=
    [ (0, decide (16 < p.terms) || decide (15 < p.nodes) || (decide (p.nodes = 0) && decide (1 < p.terms))
        || (decide (p.terms + p.nodes ≠ 0) && (if bitOf p.root 7 then decide (p.terms ≤ p.root % 16) || decide (p.nodes ≠ 0) else decide (p.nodes ≤ p.root % 16)))
        || decide (8 < p.projs) || (if out = 2 then decide (p.projs = 0) else decide (p.projs ≠ 0))
        || decide (fieldAt 4 1 p.prog / 2 ≠ 0)
        || decide (4 < p.aggs) || (if out = 3 then decide (p.aggs = 0) else decide (p.aggs ≠ 0))
        || decide (16 < p.groups) || decide (fieldAt 7 1 p.prog ≠ 0)
        || (decide (p.groups ≠ 0) &&
            (match typeWidth p.groupCol.type p.groupCol.len with
              | none => true
              | some w => isFloat p.groupCol.type || decide (w = 0) || decide (32 < w) || p.badPlace p.groupCol || p.badNull p.groupCol))
        || decide (fieldAt 15 1 p.prog ≠ 0)) ]
    ++ (List.range 3).map (fun u => (16 * (u + 1), decide (fieldAt (16 * (u + 1)) 16 p.prog ≠ 0)))
  let projs := (List.range p.projs).map (fun f =>
    let (src, len) := p.proj f
    (0x40 + 4 * f, decide (fieldAt (0x43 + 4 * f) 1 p.prog ≠ 0)
      || (if p.columnar then decide (p.stride ≤ src) else decide (len = 0) || decide (p.stride < src + len))
      || decide (256 < p.entrySize (f + 1) p.declared)))
  let aggs := (List.range p.aggs).map (fun a =>
    let c := p.aggCol a
    let f := p.aggFunc a
    (0x60 + 8 * a, decide (f = 0) || decide (4 < f) || (typeWidth c.type 1).isNone || p.badPlace c || p.badNull c
      || decide (fieldAt (0x67 + 8 * a) 1 p.prog ≠ 0)
      || (decide (f = 2) && (decide (c.type = 11) || decide (c.type = 12))) || (decide (3 ≤ f) && decide (c.type = 12))))
  let nodes := (List.range p.nodes).map (fun k =>
    let tm := p.nodeAt k 2 2
    let nm := p.nodeAt k 4 2
    (0x80 + 8 * k, decide (p.nodeAt k 0 1 = 0) || decide (2 < p.nodeAt k 0 1) || decide (1 < p.nodeAt k 1 1) || decide (p.nodeAt k 6 2 ≠ 0)
      || decide (tm / 2 ^ p.terms ≠ 0) || decide (nm / 2 ^ p.nodes ≠ 0) || decide (nm % 2 ^ (k + 1) ≠ 0)
      || decide (popCount tm 16 + popCount nm 16 < 2)
      || (if p.rootIs = k then decide (p.parents false k ≠ []) else decide ((p.parents false k).length ≠ 1))
      || decide (4 < p.level 16 k)))
  let terms := (List.range p.terms).map (fun t =>
    let c := p.termCol t
    let op := p.termOp t
    let base := 0x100 + 80 * t
    let a := leNat (p.termConst t 0)
    [ (base, (match typeWidth c.type c.len with
          | none => true
          | some w => decide (w = 0) || decide (32 < w))
        || (decide (c.type ≠ 12) && decide (c.len ≠ 0)) || decide (op = 0) || decide (10 < op) || p.badPlace c || p.badNull c
        || ((decide (op = 8) || decide (op = 9)) && !p.columnar && !c.nullable) || (decide (op = 10) && isFloat c.type)
        || (if p.rootIs = 16 + t then decide (p.parents true t ≠ []) else decide ((p.parents true t).length ≠ 1))
        || decide (p.termAt t 8 8 ≠ 0)),
      (base + 16, decide (op = 10) && decide (c.type = 12) && (decide (a = 0) || decide (128 < a))),
      (base + 48, decide (op ≠ 7) && decide (leNat (p.termConst t 1) ≠ 0)) ])
  let keys := (List.range p.groups).map (fun g =>
    (0x600 + 32 * g, (nonZeroFrom p.groupCol.width (32 - p.groupCol.width) (p.key g)).isSome
      || (List.range g).any (fun h => decide (p.key h = p.key g))))
  header ++ projs ++ aggs ++ nodes ++ terms.flatten ++ keys

/-- Offsets of the descriptor's fields that break R157's rules: each with whether it does. `segs` and `vectors` are the
instance's, `list` the extent list. -/
def Prog.descChecks (p : Prog) (segs vectors : Nat) (list : List Byte) : List (Nat × Bool) :=
  let start := fieldAt 8 8 p.desc
  let len := fieldAt 16 8 p.desc
  let two := 2097152
  let entries := (List.range (Nat.min len 65536)).map (fun k => fieldAt (4 * k) 4 list)
  [ (0, decide (fieldAt 0 1 p.desc ≠ 1)), (1, decide (fieldAt 1 1 p.desc / 32 ≠ 0)), (2, decide (3 < p.output)), (3, decide (fieldAt 3 1 p.desc ≠ 0)),
    (8, if p.isList then decide (start % 8 ≠ 0) || entries.any (fun e => decide (e / 2 ^ 26 ≠ 0) || decide (segs ≤ e / 512))
        else decide (start % two ≠ 0) || decide (segs * 2 ^ 30 ≤ start)),
    (16, if p.isList then decide (len = 0) || decide (65536 < len)
        else decide (len % two ≠ 0) || decide (len = 0) || decide (2 ^ 47 < start + len) || decide (segs * 2 ^ 30 < start + len)),
    (32, if p.columnar then decide (p.stride = 0) || decide (16 < p.stride)
        else decide (p.stride < 8) || decide (4096 < p.stride) || decide (p.stride % 8 ≠ 0)),
    (34, p.flag 4 && decide (vectors ≤ fieldAt 34 2 p.desc)), (36, decide (fieldAt 36 4 p.desc ≠ 0)),
    (40, decide (fieldAt 40 8 p.desc % 64 ≠ 0)), (48, decide (p.ring % 64 ≠ 0)),
    (56, decide (fieldAt 56 8 p.desc % 4096 ≠ 0) || (!p.inSet && decide (fieldAt 56 8 p.desc ≠ 0))),
    (64, decide (fieldAt 64 64 p.desc ≠ 0)) ]

/-- DETAIL of the first field in error (R172); none where the job breaks no rule (R148). -/
def Prog.invalid (p : Prog) (segs vectors : Nat) (list : List Byte) : Option Nat :=
  match (p.descChecks segs vectors list).find? (fun c => c.2) with
  | some (o, _) => some o
  | none => (p.checks.find? (fun c => c.2)).map (fun c => 0x80 + c.1 / 16)

-- Values -------------------------------------------------------------------------------------------------------------------

/-- The FLOAT64 pattern of a FLOAT32 pattern (R168). -/
def widen (n : Nat) : Nat :=
  let s := n / 2 ^ 31 % 2 * 2 ^ 63
  let e := n / 2 ^ 23 % 256
  let m := n % 2 ^ 23
  if e = 255 then s + 0x7FF * 2 ^ 52 + m * 2 ^ 29
  else if e ≠ 0 then s + (e + 896) * 2 ^ 52 + m * 2 ^ 29
  else if m = 0 then s
  else
    let k := Nat.log2 m
    s + (k + 874) * 2 ^ 52 + (m - 2 ^ k) * 2 ^ (52 - k)

/-- The FLOAT64 pattern of a float value of a type. -/
def f64Of (type : Nat) (bs : List Byte) : Nat := if type = 9 then widen (leNat (bs.take 4)) else leNat (bs.take 8)

/-- A FLOAT64 pattern is a NaN. -/
def isNan (n : Nat) : Bool := decide (0x7FF0000000000000 < n % 2 ^ 63)

/-- The order of IEEE comparison, in which -0.0 equals +0.0 (R166). -/
def ieeeKey (n : Nat) : Int := if n < 2 ^ 63 then (n : Int) else - ((n - 2 ^ 63 : Nat) : Int)

/-- IEEE total order, in which -0.0 lies below +0.0 (R168). -/
def totalKey (n : Nat) : Int := if n < 2 ^ 63 then (n : Int) else - ((n - 2 ^ 63 : Nat) : Int) - 1

/-- The FLOAT64 pattern of a place in the total order. -/
def ofTotalKey (k : Int) : Nat := if 0 ≤ k then k.toNat else (- (k + 1)).toNat + 2 ^ 63

/-- A finite FLOAT64's value in units of 2^-1074 (R168). -/
def exactOf (n : Nat) : Int :=
  let e : Nat := n / 2 ^ 52 % 2048
  let m : Nat := n % 2 ^ 52
  let v : Nat := if e = 0 then m else (2 ^ 52 + m) * 2 ^ (e - 1)
  if n < 2 ^ 63 then (v : Int) else - (v : Int)

/-- Round an exact sum to FLOAT64, to nearest even, once (R168). -/
def roundF64 (v : Int) : Nat :=
  let s := if v < 0 then 2 ^ 63 else 0
  let a := v.natAbs
  if v = 0 then (if Config.zeroSumNegative then 2 ^ 63 else 0)
  else if a < 2 ^ 53 then s + a
  else
    let sh := Nat.log2 a - 52
    let q := a / 2 ^ sh
    let r := a % 2 ^ sh
    let half := 2 ^ sh / 2
    let q := if half < r ∨ (r = half ∧ q % 2 = 1) then q + 1 else q
    s + Nat.min (sh * 2 ^ 52 + q) 0x7FF0000000000000

/-- A value's place in its type's order: integers and dates by their signedness, CHAR byte by byte, floats as IEEE 754 compares
(R166). -/
def orderKey (type len : Nat) (bs : List Byte) : Int :=
  match typeWidth type len with
  | none => 0
  | some w =>
    if type = 12 then (leNat ((bs.take w).reverse) : Int)
    else if isFloat type then ieeeKey (f64Of type bs)
    else if isSigned type then signedOf (8 * w) (leNat (bs.take w))
    else (leNat (bs.take w) : Int)

/-- A comparison of a value with CONST_A and CONST_B (R165, R166): with a NaN only NE holds. -/
def compareOp (op type len : Nat) (x a z : List Byte) : Bool :=
  let k := orderKey type len x
  let ka := orderKey type len a
  let kz := orderKey type len z
  let nan := isFloat type && (isNan (f64Of type x) || isNan (f64Of type a) || (decide (op = 7) && isNan (f64Of type z)))
  if nan then decide (op = 2)
  else
    match op with
    | 1 => decide (k = ka)
    | 2 => decide (k ≠ ka)
    | 3 => decide (k < ka)
    | 4 => decide (k ≤ ka)
    | 5 => decide (ka < k)
    | 6 => decide (ka ≤ k)
    | 7 => decide (ka ≤ k) && decide (k ≤ kz)
    | _ => false

/-- IN_SET (R167). -/
def inSetOp (type len : Nat) (x a : List Byte) (set : List Byte) : Bool :=
  if type = 12 then (List.range (Nat.min 128 (leNat a))).any (fun s => decide (bytesAt (32 * s) len set = x.take len))
  else
    let d := orderKey type len x - orderKey type len a
    decide (0 ≤ d) && decide (d ≤ 32767) && bitOf (fieldAt (d.toNat / 8) 1 set) (d.toNat % 8)

/-- A term's value on a row: none is UNKNOWN (R166). -/
def Prog.evalTerm (p : Prog) (row : Col → Option (List Byte)) (t : Nat) : Option Bool :=
  let c := p.termCol t
  let v := row c
  match p.termOp t, v with
  | 8, v => some v.isNone
  | 9, v => some v.isSome
  | _, none => none
  | 10, some x => some (inSetOp c.type c.len x (p.termConst t 0) p.set)
  | op, some x => some (compareOp op c.type c.len x (p.termConst t 0) (p.termConst t 1))

/-- AND, or OR, of children's values (R166). -/
def combine (isAnd : Bool) (vs : List (Option Bool)) : Option Bool :=
  if vs.any (fun v => decide (v = some (!isAnd))) then some (!isAnd)
  else if vs.any Option.isNone then none
  else some isAnd

/-- A node's value on a row (R165, R166). -/
def Prog.evalNode (p : Prog) (row : Col → Option (List Byte)) : Nat → Nat → Option Bool
  | 0, _ => none
  | fuel + 1, k =>
    let ts := ((List.range p.terms).filter (bitOf (p.nodeAt k 2 2))).map (p.evalTerm row)
    let ns := ((List.range p.nodes).filter (bitOf (p.nodeAt k 4 2))).map (p.evalNode row fuel)
    let v := combine (decide (p.nodeAt k 0 1 = 1)) (ts ++ ns)
    if bitOf (p.nodeAt k 1 1) 0 then v.map (fun b => !b) else v

/-- A row qualifies: the root is TRUE, or there is no term (R164, R166). -/
def Prog.qualifies (p : Prog) (row : Col → Option (List Byte)) : Bool :=
  if p.terms = 0 then true
  else if bitOf p.root 7 then decide (p.evalTerm row (p.root % 16) = some true)
  else decide (p.evalNode row 5 (p.root % 16) = some true)

-- Aggregates ---------------------------------------------------------------------------------------------------------------

/-- The better of two places for MIN (3) or MAX (4) (R168). -/
def better (func : Nat) (a z : Option Int) : Option Int :=
  match a, z with
  | none, z => z
  | a, none => a
  | some a, some z => some (if func = 3 then (if a ≤ z then a else z) else (if a ≤ z then z else a))

/-- One more value of an aggregate; null is skipped (R168). -/
def AggVal.take (func type : Nat) (v : Option (List Byte)) (x : AggVal) : AggVal :=
  match v with
  | none => x
  | some bs =>
    if func = 1 then { x with count := x.count + 1 }
    else if isFloat type then
      let n := f64Of type bs
      if func = 2 then
        let x := { x with count := x.count + 1 }
        if isNan n then { x with nan := true }
        else if n % 2 ^ 63 = 0x7FF0000000000000 then (if n < 2 ^ 63 then { x with pinf := true } else { x with ninf := true })
        else { x with sum := x.sum + exactOf n }
      else if isNan n then x
      else { x with count := x.count + 1, best := better func x.best (some (totalKey n)) }
    else
      let k := orderKey type 1 bs
      if func = 2 then { x with count := x.count + 1, sum := x.sum + k }
      else { x with count := x.count + 1, best := better func x.best (some k) }

/-- Two partials of an aggregate merged exactly (R168). -/
def AggVal.merge (func : Nat) (x y : AggVal) : AggVal :=
  { count := x.count + y.count, sum := x.sum + y.sum, nan := x.nan || y.nan, pinf := x.pinf || y.pinf, ninf := x.ninf || y.ninf
    best := better func x.best y.best }

/-- Partials at their start: 17 groups of 4 aggregates (R168). -/
def emptyAcc : List GroupAcc := ({} : Eval).acc

/-- Partials merged, group by group (R168). -/
def Prog.mergeAcc (p : Prog) (x y : List GroupAcc) : List GroupAcc :=
  (x.zip y).map (fun e =>
    { rows := e.1.rows + e.2.rows
      val := (List.range 4).map (fun a => (e.1.val.getD a {}).merge (p.aggFunc a) (e.2.val.getD a {})) })

/-- The group of a qualifying row (R168). -/
def Prog.groupOf (p : Prog) (row : Col → Option (List Byte)) : Nat :=
  if p.groups = 0 then 0
  else
    match row p.groupCol with
    | none => 16
    | some x => ((List.range p.groups).find? (fun g => decide ((p.key g).take p.groupCol.width = x.take p.groupCol.width))).getD 16

/-- A qualifying row enters its group (R168). -/
def Prog.aggregate (p : Prog) (row : Col → Option (List Byte)) (acc : List GroupAcc) : List GroupAcc :=
  acc.set (p.groupOf row)
    (let g := acc.getD (p.groupOf row) {}
     { rows := g.rows + 1
       val := (List.range 4).map (fun a =>
         if a < p.aggs then (g.val.getD a {}).take (p.aggFunc a) (p.aggCol a).type (row (p.aggCol a)) else g.val.getD a {}) })

/-- The value, VALID and OVF of an aggregate of a group (R168). -/
def AggVal.result (func type : Nat) (x : AggVal) : Nat × Bool × Bool :=
  if func = 1 then (x.count, true, false)
  else if x.count = 0 then (0, false, false)
  else if func = 2 then
    if isFloat type then
      (if x.nan || (x.pinf && x.ninf) then 0x7FF8000000000000
       else if x.pinf then 0x7FF0000000000000
       else if x.ninf then 0xFFF0000000000000
       else roundF64 x.sum, true, false)
    else if isSigned type then ((x.sum % 2 ^ 64).toNat, true, decide (x.sum < -(2 ^ 63)) || decide (2 ^ 63 ≤ x.sum))
    else ((x.sum % 2 ^ 64).toNat, true, decide (2 ^ 64 ≤ x.sum))
  else
    match x.best with
    | none => (0, false, false)
    | some k => (if isFloat type then ofTotalKey k else (k % 2 ^ 64).toNat, true, false)

/-- The AGGREGATE record's payload (R168, R171). -/
def Prog.aggBody (p : Prog) (acc : List GroupAcc) : List Byte :=
  ((List.range 17).map (fun g =>
    if g < Nat.max p.groups 1 ∨ (g = 16 ∧ p.groups ≠ 0) then
      let x := acc.getD g {}
      let rs := (List.range p.aggs).map (fun a => (x.val.getD a {}).result (p.aggFunc a) (p.aggCol a).type)
      let at' : Nat → Nat × Bool × Bool := fun a => rs.getD a (0, false, false)
      leBytes 8 x.rows ++ ((List.range 4).map (fun a => leBytes 8 (at' a).1)).flatten
        ++ leBytes 1 (packBits (fun a => (at' a).2.1) 4) ++ leBytes 1 (packBits (fun a => (at' a).2.2) 4) ++ leBytes 6 0
    else leBytes 48 0)).flatten

-- Pieces -------------------------------------------------------------------------------------------------------------------

/-- Byte `a` of a piece's extent, from the lines read; a byte past them is open (log entry 28). -/
def Piece.byte (x : Piece) (a : Nat) : Byte :=
  match Tbl.find (a / 64) x.got with
  | some (d, _) => lineByte d (a % 64)
  | none => Config.unreadByte (x.ext * 2097152 + a)

/-- Bytes of a piece's extent. -/
def Piece.bytes (x : Piece) (a n : Nat) : List Byte := (List.range n).map (fun k => x.byte (a + k))

/-- A number in a piece's extent. -/
def Piece.num (x : Piece) (a n : Nat) : Nat := leNat (x.bytes a n)

/-- A line of a piece has been read, and as poison (R175). -/
def Piece.bad (x : Piece) (ln : Nat) : Bool := (Tbl.find ln x.got).any (fun v => v.2)

/-- Some line of `n` bytes from byte `a` on was read as poison. -/
def Piece.badBytes (x : Piece) (a n : Nat) : Bool := (linesOf a n).any x.bad

/-- Fields of a row: offset and width (R160). -/
def Prog.rowFields (p : Prog) : List (Nat × Nat) :=
  (p.cols.map (fun c => (c.col, c.width))) ++ (p.cols.filter Col.nullable).map (fun c => (c.nullOff, 1)) ++ (List.range p.projs).map p.proj

/-- A line of an extent holds at least one byte of a field that the program names (R160). -/
def Prog.wantsRowLine (p : Prog) (ln : Nat) : Bool :=
  let s := p.stride
  let fields := p.rowFields
  (List.range ((64 * ln + 63) / s - 64 * ln / s + 1)).any (fun k =>
    let i := 64 * ln / s + k
    decide (i < p.rowsPer) && fields.any (fun f => decide (f.2 ≠ 0) && decide (i * s + f.1 < 64 * ln + 64) && decide (64 * ln < i * s + f.1 + f.2)))

/-- The slots that the program names in column layout, rising (R161). -/
def Prog.slots (p : Prog) : List Nat :=
  let named := p.cols.map (fun c => c.col) ++ (List.range p.projs).map (fun f => (p.proj f).1)
  (List.range p.stride).filter (fun k => named.contains k)

/-- Row groups of an extent (R161). -/
def Prog.groupsPer (p : Prog) : Nat := 32 / p.stride

/-- The first byte of slot `k`'s page of row group `g` (R161). -/
def Prog.page (p : Prog) (g k : Nat) : Nat := (g * p.stride + k) * 65536

/-- A page's header field in a piece (R161). -/
def Piece.head (x : Piece) (page off len : Nat) : Nat := x.num (page + off) len

/-- ROWS of a row group, as its first header read gives it (R161, R162). -/
def Piece.groupRows (x : Piece) (page : Nat) : Nat := x.head page 4 4

/-- A named page fails a check of R162 against the first header read. -/
def Prog.badPage (p : Prog) (x : Piece) (first page slot : Nat) : Bool :=
  let rows := x.groupRows first
  let width := x.head page 3 1
  let vals := x.head page 16 4
  let nulls := x.head page 20 4
  decide (x.head page 0 2 ≠ 0x7C9E)
    || (p.cols.any (fun c => decide (c.col = slot) && (decide (x.head page 2 1 ≠ c.type)
        || (if c.type = 12 then decide (width = 0) || decide (32 < width) || (decide (c.len ≠ width) && !(List.range p.aggs).any (fun a => decide (p.aggCol a = c)))
            else decide (some width ≠ typeWidth c.type 0)))))
    || decide (x.groupRows page ≠ rows) || decide (x.head page 8 8 ≠ x.head first 8 8)
    || decide (65536 < vals + rows * width) || (decide (nulls ≠ 0) && decide (65536 < nulls + ceilDiv rows 8))

/-- What a row group comes to, as far as its headers tell (R162, R175): its rows are evaluated, or skipped with a count. -/
inductive GroupIs where
  | waits (lines : List Nat)
  | empty
  | poisoned (rows : Nat)
  | broken (rows : Nat)
  | good (rows : Nat)
  deriving DecidableEq, Repr

/-- Row group `g` of a piece (R162, R175). The pages' widths may make an entry longer than 256 bytes (R164): the group fails then (log entry
111). A program that names no slot reads no header, so no row group gives a row (log entry 105). -/
def Prog.groupIs (p : Prog) (x : Piece) (g : Nat) : GroupIs :=
  match p.slots with
  | [] => .empty
  | s :: t =>
    let first := p.page g s
    if (Tbl.find (first / 64) x.got).isNone then .waits [first / 64]
    else if x.bad (first / 64) then .poisoned (Config.hiddenRows (x.ext * 2097152 + first))
    else if x.groupRows first = 0 then .empty
    else
      let heads := t.map (fun k => p.page g k / 64)
      if heads.any (fun l => (Tbl.find l x.got).isNone) then .waits heads
      else if heads.any x.bad then .poisoned (x.groupRows first)
      else if (s :: t).any (fun k => p.badPage x first (p.page g k) k)
          || (decide (p.output = 2) && decide (256 < p.entrySize p.projs (fun k => x.head (p.page g k) 3 1))) then .broken (x.groupRows first)
      else .good (x.groupRows first)

/-- The value and bitmap lines of a page (R162). -/
def Piece.pageLines (x : Piece) (page rows : Nat) : List Nat :=
  linesOf (page + x.head page 16 4) (rows * x.head page 3 1)
    ++ (if x.head page 20 4 = 0 then [] else linesOf (page + x.head page 20 4) (ceilDiv rows 8))

/-- The lines that a piece needs, as far as the lines read so far tell (R160, R162). -/
def Prog.wants (p : Prog) (x : Piece) : List Nat :=
  if p.columnar then
    ((List.range p.groupsPer).map (fun g =>
      match p.groupIs x g with
      | .waits ls => ls
      | .good rows => (p.slots.map (fun k => x.pageLines (p.page g k) rows)).flatten
      | _ => [])).flatten
  else (List.range 32768).filter p.wantsRowLine

/-- A row of the piece is evaluated (R166, R168, R171, R173). -/
def Prog.evalRow (p : Prog) (id : Nat) (row : Col → Option (List Byte)) (field : Nat → List Byte) (e : Eval) : Eval :=
  let e := { e with rows := e.rows + 1 }
  if p.qualifies row then
    let e := { e with qual := e.qual + 1 }
    match p.output with
    | 0 => { e with entries := e.entries ++ [leBytes 4 id] }
    | 1 => { e with entries := e.entries ++ [leBytes 8 id] }
    | 2 =>
      let bs := (if p.idPrefix then leBytes 8 id else []) ++ ((List.range p.projs).map field).flatten
      { e with entries := e.entries ++ [bytesAt 0 (8 * ceilDiv bs.length 8) bs] }
    | _ => { e with acc := p.aggregate row e.acc }
  else e

/-- A row of a row-layout extent (R160, R175). -/
def Prog.evalRowLayout (p : Prog) (x : Piece) (i : Nat) (e : Eval) : Eval :=
  let base := i * p.stride
  if x.badBytes base p.stride then { e with skipped := e.skipped + 1 }
  else
    p.evalRow ((fieldAt 24 8 p.desc + x.ord * p.rowsPer + i) % 2 ^ 64)
      (fun c => if c.nullable && bitOf (x.byte (base + c.nullOff)).toNat (c.null % 8) then none else some (x.bytes (base + c.col) c.width))
      (fun f => x.bytes (base + (p.proj f).1) (p.proj f).2) e

/-- Row `i` of a row group whose pages are good (R161, R175). -/
def Prog.evalColumnar (p : Prog) (x : Piece) (g i : Nat) (e : Eval) : Eval :=
  let val : Nat → Nat → Nat := fun page n => page + x.head page 16 4 + i * n
  let isNull : Nat → Bool := fun page => decide (x.head page 20 4 ≠ 0) && bitOf (x.byte (page + x.head page 20 4 + i / 8)).toNat (i % 8)
  let hit := p.slots.any (fun k =>
    let page := p.page g k
    let w := x.head page 3 1
    x.badBytes (val page w) w || (decide (x.head page 20 4 ≠ 0) && x.bad ((page + x.head page 20 4 + i / 8) / 64)))
  if hit then { e with skipped := e.skipped + 1 }
  else
    let first := p.page g (p.slots.headD 0)
    p.evalRow ((x.head first 8 8 + i) % 2 ^ 64)
      (fun c =>
        let page := p.page g c.col
        if isNull page then none else some (x.bytes (val page (x.head page 3 1)) (x.head page 3 1)))
      (fun f =>
        let (slot, len) := p.proj f
        let page := p.page g slot
        x.bytes (val page (x.head page 3 1)) (if len = 0 then x.head page 3 1 else len)) e

/-- A line has been read, or is none that the program wants. -/
def Prog.lineIn (p : Prog) (x : Piece) (ln : Nat) : Bool := (Tbl.find ln x.got).isSome || !p.wantsRowLine ln

/-- What a lane finds at a piece's position: it lacks a line of the next row, the extent is over, or the piece as it stands past the row. -/
inductive Advance where
  | waits
  | over
  | past (x : Piece)
  deriving DecidableEq, Repr

/-- The value and bitmap lines of row `i` of a good row group. -/
def Prog.rowLines (p : Prog) (x : Piece) (g i : Nat) : List Nat :=
  (p.slots.map (fun k =>
    let page := p.page g k
    let w := x.head page 3 1
    linesOf (page + x.head page 16 4 + i * w) w
      ++ (if x.head page 20 4 = 0 then [] else [(page + x.head page 20 4 + i / 8) / 64]))).flatten

/-- One row further in row layout (R160, R175). -/
def Prog.nextRow (p : Prog) (x : Piece) : Advance :=
  if p.rowsPer ≤ x.row then .over
  else if !(linesOf (x.row * p.stride) p.stride).all (p.lineIn x) then .waits
  else .past { x with row := x.row + 1, ev := p.evalRowLayout x x.row x.ev }

/-- One row further in column layout, or past a row group (R161, R162, R175). -/
def Prog.nextInGroup (p : Prog) (x : Piece) : Advance :=
  if p.groupsPer ≤ x.group then .over
  else
    let skip : Eval → Advance := fun e => .past { x with group := x.group + 1, row := 0, ev := e }
    match p.groupIs x x.group with
    | .waits _ => .waits
    | .empty => skip x.ev
    | .poisoned rows => skip { x.ev with skipped := x.ev.skipped + rows }
    | .broken rows => skip { x.ev with groupsBad := x.ev.groupsBad + 1, rowsBad := x.ev.rowsBad + rows }
    | .good rows =>
      if rows ≤ x.row then skip x.ev
      else if (p.rowLines x x.group x.row).any (fun l => (Tbl.find l x.got).isNone) then .waits
      else .past { x with row := x.row + 1, ev := p.evalColumnar x x.group x.row x.ev }

/-- One step of a lane over its piece (R160-R175). -/
def Prog.advance (p : Prog) (x : Piece) : Advance := if p.columnar then p.nextInGroup x else p.nextRow x

/-- The IA of a piece's first poisoned line, or of its extent (R171). -/
def Piece.badIa (x : Piece) : Nat :=
  x.ext * 2097152 + (match x.got.find? (fun v => v.2.2) with
    | some (l, _) => l * 64
    | none => 0)

/-- A row record of a piece (R171). -/
def Prog.rowRec (p : Prog) (x : Piece) (last : Bool) : Rec :=
  { kind := p.output + 1, flags := b2n last, piece := x.ord, count := x.ev.entries.length, body := x.ev.entries.flatten }

/-- LENGTH of a record, in units of 64 bytes (R171). -/
def Rec.units (r : Rec) : Nat := ceilDiv (16 + r.body.length) 64

/-- The row record being filled is closed once the entry last added does not fit its 4,080 payload bytes (R171). -/
def Prog.close (p : Prog) (x : Piece) : Piece :=
  if x.ev.entries.flatten.length ≤ 4080 then x
  else
    let full := { x with ev := { x.ev with entries := x.ev.entries.dropLast } }
    { x with out := x.out ++ [p.rowRec full false], ev := { x.ev with entries := x.ev.entries.drop (x.ev.entries.length - 1) } }

/-- Bytes of a piece's output buffer in use (R154). -/
def Prog.outBytes (p : Prog) (x : Piece) : Nat :=
  64 * (((x.out.map Rec.units).foldl (· + ·) 0) + (if x.ev.entries.isEmpty then 0 else (p.rowRec x true).units))

/-- A lane goes on over its piece while it has the lines, a place in its 16 KiB of output, and rows left in the stride (R154, R178). -/
def Prog.goOn (p : Prog) (left : Nat) : Nat → Piece → Piece
  | 0, x => x
  | fuel + 1, x =>
    match p.advance x with
    | .past y =>
      let y := p.close y
      if x.ev.rows + left < y.ev.rows ∨ 16384 < p.outBytes y then x else p.goOn (left - (y.ev.rows - x.ev.rows)) fuel y
    | _ => x

/-- The lane's output buffer has no place for the next row's entry (R154). -/
def Prog.full (p : Prog) (x : Piece) : Bool :=
  match p.advance x with
  | .past y => decide (16384 < p.outBytes (p.close y))
  | _ => false

/-- The PIECE_END record of a piece (R171, R176). -/
def pieceEnd (ord status skipped ia rows : Nat) : Rec :=
  { kind := 6, piece := ord, body := leBytes 1 status ++ leBytes 3 0 ++ leBytes 4 skipped ++ leBytes 8 ia ++ leBytes 8 rows }

/-- A piece whose rows have all been evaluated: its last row record, and PIECE_END unless it is OK (R171-R176). POISONED goes before
PAGE_ERROR where both apply (log entry 30). -/
def Prog.finish (p : Prog) (x : Piece) : Piece :=
  let poisoned := x.got.any (fun v => v.2.2)
  let status := if poisoned then 1 else if x.ev.groupsBad ≠ 0 then 4 else 0
  let last := if x.ev.entries.isEmpty then [] else [p.rowRec x true]
  { x with
    status := status, ended := true, ev := { x.ev with entries := [] }
    out := x.out ++ last ++ (if status = 0 then [] else [pieceEnd x.ord status (x.ev.skipped + x.ev.rowsBad) x.badIa x.ev.rows]) }

/-- JOB_STATUS of a job that has run (R172). -/
def Job.status (j : Job) : Nat :=
  if j.herderLost then 6 else if j.poisonStop then 5 else if j.cancelled then 1 else if j.other ≠ 0 then 4 else 0

/-- A job's program. -/
def Job.program (j : Job) : Prog := { desc := j.desc, prog := j.prog, set := j.set }

/-- The COMPLETION record of a job (R172). -/
def Job.completion (j : Job) (records : Nat) : Rec :=
  let (status, detail) := j.refused.getD (j.status, 0)
  { kind := 0x0F, piece := 0xFFFFFFFF
    body := leBytes 1 status ++ leBytes 1 detail ++ leBytes 2 0 ++ leBytes 4 j.total ++ leBytes 4 j.ok ++ leBytes 4 j.other
      ++ leBytes 4 j.dropped ++ leBytes 4 records ++ leBytes 8 j.rows ++ leBytes 8 j.qual ++ leBytes 8 j.skipped }

/-- A record's bytes (R171). -/
def Rec.bytes (tag seq : Nat) (r : Rec) : List Byte :=
  bytesAt 0 (64 * r.units)
    (leBytes 1 r.kind ++ leBytes 1 r.flags ++ leBytes 2 r.units ++ leBytes 4 tag ++ leBytes 4 r.piece ++ leBytes 2 r.count
      ++ leBytes 2 (seq % 65536) ++ r.body)

end Sys2Proof.Machine
end

