-- ==== Sys2Proof/Machine/Start.lean ====
section
/-! DEFINITION. What comes about when a unit is admitted, by what it does: reads go out, drains are sealed, copies take lines in
flight, link parts are handed on (R79, R84-R91, R108, R117, R118, R135, R136, R304). -/

namespace Sys2Proof.Machine

open Sys2Proof

/-- The number of a line within a host read. -/
def HostRead.idxOf (r : HostRead) (ln : Nat) : Nat := r.lines.findIdx (fun l => decide (l.ln = ln))

/-- Put a unit among those admitted and not finished (R34). -/
def Bridge.running (n : Nat) (r : Running) (b : Bridge) : Bridge := b.modSch n (fun s => { s with running := s.running ++ [r] })

/-- The unit of a number that runs on a channel. -/
def Bridge.runningUnit (n uid : Nat) (b : Bridge) : Option Running :=
  (b.chan n).sch.running.find? (fun r => decide (r.unit.id = uid))

/-- Change a running unit. -/
def Bridge.modRun (n uid : Nat) (f : Running → Running) (b : Bridge) : Bridge :=
  b.modSch n (fun s => { s with running := s.running.map (fun r => if r.unit.id = uid then f r else r) })

/-- A unit has finished (R34). -/
def Bridge.finishUnit (n uid : Nat) (b : Bridge) : Bridge :=
  b.modSch n (fun s => { s with running := s.running.filter (fun r => decide (r.unit.id ≠ uid)) })

/-- Hand a split access's link parts to their channels' schedulers, in the colour its unit counts in (R46, R79). -/
def Bridge.handOn (n : Nat) (u : WorkUnit) (remote : List (Nat × Slots)) (b : Bridge) : Bridge :=
  let c := b.colourNow n u
  b.each remote (fun r b => b.enqueue r.1
    { id := 0, cls := u.cls, inst := u.inst, kind := .link n u.id r.2, port := u.port, colour := c })

-- The order of accesses at a location (R54) ---------------------------------------------------------------------------------------

/-- A unit writes the lines of its places. -/
def WorkUnit.writes (u : WorkUnit) : Bool :=
  match u.kind with
  | .drain _ => true
  | .copyDst _ _ _ => true
  | .scrubWb _ _ _ => true
  | .grace _ _ => true
  | _ => false

/-- A running unit has still to act on a line at a location: a near-tier line until it has returned or is written, a sled line until the
access has been handed to the link, which keeps the order of accesses to one line (R54, R295). -/
def Running.owes (r : Running) (p : Nat × Loc) : Bool :=
  match p.2 with
  | .near _ => if r.unit.writes then r.places.contains p else r.await.any (fun i => decide (r.places[i]? = some p))
  | .sled _ _ => r.hold.any (fun i => decide (r.places[i]? = some p))

/-- A unit admitted before number `seq` has still to act on a line at a location (R54). -/
def Bridge.earlierOn (seq : Nat) (p : Nat × Loc) (b : Bridge) : Bool :=
  channels.any (fun c => (b.chan c).sch.running.any (fun r => decide (r.seq < seq) && r.owes p))

/-- The link part of a unit runs on a channel. -/
def Bridge.linkRuns (c n uid : Nat) (b : Bridge) : Bool :=
  (b.chan c).sch.running.any (fun r => match r.unit.kind with
    | .link m u _ => decide (m = n ∧ u = uid)
    | _ => false)

/-- The numbers of a unit's sled lines whose turn has come: its link part there runs, and every unit admitted earlier has acted on the
line (R54, R79). -/
def Bridge.mayGo (n : Nat) (r : Running) (b : Bridge) : List Nat :=
  r.hold.filter (fun i => match r.places[i]? with
    | some (ln, .sled c g) => (decide (c = n) || b.linkRuns c n r.unit.id) && !b.earlierOn r.seq (ln, .sled c g)
    | _ => false)

/-- The numbers of a unit's sled lines, all still to be handed to the link. -/
def sledIdxs (places : List (Nat × Loc)) : List Nat :=
  (List.range places.length).filter (fun i => (places[i]?).any (fun p => p.2.link.isSome))

/-- The ciphertext a drain writes, under the key of its admission (R80, R324). -/
def Bridge.cipherOf (e : WcbEntry) (b : Bridge) : Line := encryptLine (b.keyBits e.gen) e.ln e.data

/-- The codeword of a drained entry. -/
def Bridge.entryWord (e : WcbEntry) (b : Bridge) : Codeword := Codeword.of (b.cipherOf e) e.poison

/-- What a unit writes at its line number `i`: its entry's codeword, or what it holds itself. -/
def Bridge.wordOf (n : Nat) (r : Running) (i : Nat) (b : Bridge) : Codeword :=
  match r.unit.kind with
  | .drain ln => match (b.chan n).acc.sealedEntry ln with
    | some e => b.entryWord e
    | none => Codeword.bad
  | _ => Tbl.get Codeword.bad i r.words

/-- What of an admitted unit's messages to sleds may go out goes out: reads, a partial line's read half, and writes once their data is
whole (R54, R79, R84, R284). -/
def Bridge.flow (n uid : Nat) (b : Bridge) : Bridge :=
  match b.runningUnit n uid with
  | none => b
  | some r =>
    let go := b.mayGo n r
    if go.isEmpty then b
    else if r.unit.writes then
      if r.await.isEmpty then
        let b := b.modRun n uid (fun r => { r with hold := r.hold.filter (fun i => !go.contains i) })
        b.each go (fun i b => match r.places[i]? with
          | some (ln, .sled c g) => b.sendWrite c r.unit.cls (sledLine g ln) (b.wordOf n r i)
          | _ => b)
      else
        match r.places.head? with
        | some (ln, .sled c g) =>
          if r.asked then b
          else (b.modRun n uid (fun r => { r with asked := true })).sendRead c r.unit.cls (sledLine g ln) [ln] (.unit n uid 0)
        | _ => b
    else
      let b := b.modRun n uid (fun r => { r with hold := r.hold.filter (fun i => !go.contains i) })
      let mine := ((List.range r.places.length).zip r.places).map (fun x => if go.contains x.1 then x.2 else (x.2.1, .near 0))
      b.each channels (fun c b => b.sendUnitReads c r.unit.cls n uid mine)

/-- The units of all channels that still have something to hand to a link, in order of admission. -/
def Bridge.holding (b : Bridge) : List (Nat × Running) :=
  let all := (channels.map (fun n => ((b.chan n).sch.running.filter (fun r => !r.hold.isEmpty)).map (fun r => (n, r)))).flatten
  all.foldr (fun x t => (t.takeWhile (fun y => decide (y.2.seq < x.2.seq))) ++ x :: (t.dropWhile (fun y => decide (y.2.seq < x.2.seq)))) []

/-- Accesses held for those of units admitted earlier go out once these have acted (R54). -/
def Bridge.releaseHolds (b : Bridge) : Bridge := b.each b.holding (fun x b => b.flow x.1 x.2.unit.id)

-- Admission, by what the unit does -------------------------------------------------------------------------------------------------

/-- Near-tier lines and link slots of a plan, counted for the device (R530); a partial line in a frame is read and written. -/
def Bridge.countLines (u : WorkUnit) (p : Plan) (b : Bridge) : Bridge :=
  let near := (p.places.filter (fun l => l.2.link.isNone)).length
  let half := if u.cls = 3 ∧ near ≠ 0 ∧ p.cost.eng = 2 then 1 else 0
  b.countTlm (fun t => { t with nearLines := t.nearLines + near + half, sledLines := t.sledLines + p.cost.out + p.cost.inb })

/-- A read unit starts: its local sled lines are asked for, its remote link parts handed on (R79, R284). -/
def Bridge.startRead (n : Nat) (u : WorkUnit) (p : Plan) (r : Running) (b : Bridge) : Bridge :=
  if p.places.isEmpty then b
  else
    let b := b.running n { r with places := p.places, await := List.range p.places.length, hold := sledIdxs p.places }
    (b.flow n u.id).handOn n u p.remote

/-- A host read unit starts: lines that end at once return poison (R303, R397), unbacked ones count as R70 states. -/
def Bridge.startHostRead (n rid : Nat) (u : WorkUnit) (p : Plan) (r : Running) (b : Bridge) : Bridge :=
  match b.read rid with
  | none => b
  | some x =>
    let b := b.startRead n u p r
    b.each p.dead (fun ln b =>
      let b := match b.readPlace n u.inst ln with
        | .at l => if b.locFenced n l && !b.aside rid (x.idxOf ln) n then b.note 0x24 11 (ln * 64) else b
        | .unbacked mis =>
          if (b.read rid).any (fun (y : HostRead) => y.unbacked) then b
          else (b.modRead rid (fun r => { r with unbacked := true })).unbackedOn n x.inst ln mis false
        | .frozen => b
      match b.readPlace n u.inst ln with
      | .at l => if b.poisonDue ln l then b.linePoison rid (x.idxOf ln) else b.loseLine rid (x.idxOf ln) n
      | _ => b.linePoison rid (x.idxOf ln))

/-- A copy of a granule in progress notes what a drain does to a line (R112, R117): of a copy that changes its location, a line that has
moved is WRITTEN, and for a promotion DIRTIED unless written through; of a home move, a line written through is dirty towards the new
home. -/
def Bridge.noteWritten (id k : Nat) (through : Bool) (b : Bridge) : Bridge :=
  b.modHerd (fun h => { h with copies := h.copies.map (fun e =>
    if e.1 = id then
      (e.1, { e.2 with
        written := setBit e.2.written k true
        dirtied := if e.2.kind = .promotion then setBit e.2.dirtied k (!through) else e.2.dirtied })
    else e) })

/-- The home move of a granule that is under way (R112). -/
def Bridge.homeMoveOf (g : Nat) (b : Bridge) : Option (Nat × Copy) :=
  b.herd.copies.find? (fun e => decide (e.2.gran = g ∧ e.2.kind = .homeMove))

/-- A granule's frame takes a drain: the line is dirty, and the granule counts (R107, R117, R135); a write-through marks no line
dirty (R136). A drain withdraws a demotion (R114). -/
def Bridge.markDirty (n ln : Nat) (through : Bool) (b : Bridge) : Bridge :=
  let g := ln / 64
  let k := ln % 64
  match b.resident n g with
  | some _ =>
    if through then
      match b.homeMoveOf g with
      | some (id, _) => b.noteWritten id k true
      | none => b
    else (b.modDir g (fun e => { e with dirty := setBit e.dirty k true, counts := true, state := .dirty, demote := false })).countCeil (b.homeCh n g)
  | none =>
    match b.moveOf n g with
    | some (id, c) =>
      if c.moved.getLsbD k && !b.leftFrame g k then
        let b := b.noteWritten id k through
        if c.kind = .promotion then (b.modDir g (fun e => { e with counts := e.counts || !through })).countCeil (b.homeCh n g) else b
      else b
    | none => b

/-- A line with POISON leaves its granule's frame, or the one it is being copied to: later accesses go to the home, and the granule's
other dirty lines are to be written back (R85). -/
def Bridge.leaveFrame (g k : Nat) (b : Bridge) : Bridge :=
  let b := b.modDir g (fun e => { e with dirty := setBit e.dirty k false, atHome := setBit e.atHome k true, leaving := true })
  b.modHerd (fun h => { h with copies := h.copies.map (fun e =>
    if e.2.gran = g ∧ e.2.kind = .promotion then
      (e.1, { e.2 with written := setBit e.2.written k false, dirtied := setBit e.2.dirtied k false })
    else e) })

/-- The entry of a line is sealed: its drain has been admitted, under the key then in force (R87, R89, R324). A partial write to a line that
is to be marked POISON leaves it so (R85). -/
def Bridge.sealEntry (n ln : Nat) (bad : Bool) (b : Bridge) : Bridge :=
  b.modAcc n (fun a => { a with wcb := a.wcb.map (fun e =>
    if e.ln = ln ∧ !e.sealed then
      let e := if bad && !(e.mask = fullMask) then { e with poison := true } else e
      { e with sealed := true, gen := (b.inst e.inst).gen, data := if e.poison then mergeLine e.mask e.data 0 else e.data }
    else e) })

/-- A line that a drain writes at a location is not written back there any more with what an earlier read found (R54, R99, log entry
92). -/
def Bridge.dropBacks (ln : Nat) (places : List (Nat × Loc)) (b : Bridge) : Bridge :=
  let stale : WorkUnit → Bool := fun u => match u.kind with
    | .scrubWb k l w => decide (k = ln) && (b.backTo ln l w.poison).any (fun t => places.contains (ln, t))
    | _ => false
  b.each channels (fun c b => if (b.chan c).sch.waiting.any stale then b.modSch c (Sched.dropWaiting stale) else b)

/-- A sealed entry's line joins the grace store of a channel (R304); a full store takes the link to FLUSH. -/
def Bridge.graceLine (c n : Nat) (e : WcbEntry) (b : Bridge) : Bridge :=
  if 65536 ≤ (b.chan c).ll.gstore.length then b.modLl c (fun l => { l with state := .flush })
  else b.modLl c (fun l => { l with gstore := l.gstore ++ [e.grace (b.keyBits e.gen) n] })

/-- A drain of which some location's link is held starts (R303, R304): its line for that sled goes into the grace store of the sled's
channel, and what it writes in a frame besides is written as ever; where it writes nothing else, its entry is free. -/
def Bridge.startHeld (n c : Nat) (s : WcbEntry) (p : Plan) (r : Running) (b : Bridge) : Bridge :=
  match p.places.filter (fun l => l.2.link.isNone) with
  | [] =>
    let (isOver, b) := b.toGrace c n s
    if isOver then b.modLl c (fun l => { l with state := .flush }) else b
  | near =>
    (b.graceLine c n s).running n { r with
      places := near, await := if s.mask = fullMask || s.poison then [] else [0], through := p.through }

/-- A drain starts (R85, R89, R136, R304): the entry is sealed; a full line's sled write goes out, a partial line's read half
first; a line whose location's link is held goes into the grace store, and one with no place any more is discarded (log entry 93). -/
def Bridge.startDrain (n ln : Nat) (u : WorkUnit) (p : Plan) (r : Running) (b : Bridge) : Bridge :=
  match (b.chan n).acc.openEntry ln with
  | none => b
  | some e =>
    let bad := p.places.any (fun l => b.poisonDue ln l.2)
    let full := decide (e.mask = fullMask) || e.poison || bad
    let inFrame := match b.place n e.inst ln with
      | .at (.near _) => true
      | _ => false
    let near := p.places.any (fun l => l.2.link.isNone)
    let b := if e.poison && inFrame && !near then b.leaveFrame (ln / 64) (ln % 64) else b
    let b := if near || (b.moveOf n (ln / 64)).isSome then b.markDirty n ln p.through else b
    let b := (b.dropBacks ln p.places).sealEntry n ln bad
    match (b.chan n).acc.sealedEntry ln with
    | none => b
    | some s =>
      if p.places.isEmpty then
        (b.when (decide (b.place n s.inst ln = .frozen)) (·.event n 31 false (ln * 64) (some s.inst))).discardEntry n s
      else
        match p.places.find? (fun (l : Nat × Loc) => l.2.link.any b.held) with
        | some (_, Loc.sled c _) => b.startHeld n c s p r
        | _ =>
          let b := b.running n { r with
            places := p.places, await := if full then [] else [0], hold := sledIdxs p.places, remote := !p.remote.isEmpty, through := p.through }
          (b.handOn n u p.remote).flow n u.id

/-- Set aside a copy unit's outbound slots at its destination: from the class 5 reservation first, then the pool, under the
ceiling (R42, R118). -/
def Bridge.setAside (d k : Nat) (b : Bridge) : Bridge :=
  b.modSch d (fun s =>
    let fromRsv := Nat.min k s.rsv5.out
    { s with
      rsv5 := { s.rsv5 with out := s.rsv5.out - fromRsv }
      pool := { s.pool with out := s.pool.out - (k - fromRsv) }
      mig := { s.mig with out := s.mig.out + k } })

/-- Lines of a copy still to be asked for, from a line on. -/
def Copy.todo (c : Copy) (start : Nat) : List Nat :=
  ((List.range 64).filter (fun k => decide (start ≤ k) && c.want.getLsbD k && !(c.inFlight ||| c.moved ||| c.landed).getLsbD k))

/-- How many numbers of a rising list run on from `k`. -/
def runLen : Nat → List Nat → Nat
  | _, [] => 0
  | k, j :: t => if j = k then 1 + runLen (k + 1) t else 0

/-- The most lines of one unit of a class with a share: min(8, rsv), rsv being the inbound reservation that the tick which opened the
stride computed, and 1 where that is 0 (R36, R39, R443). -/
def Sched.unitMost (share : Nat) (s : Sched) : Nat := if s.uncapped then 1 else Nat.max 1 (Nat.min 8 (ceilDiv (s.c * share) 256))

/-- A unit is one of a copy's source parts. -/
def WorkUnit.isSrc (c : Nat) (u : WorkUnit) : Bool :=
  match u.kind with
  | .copySrc d _ _ => decide (d = c)
  | _ => false

/-- The Herder issues a copy's next unit, from a line on: 1 to min(8, rsv5) lines, in ascending order; none while one waits (R36, R120). -/
def Bridge.issueCopy (c start : Nat) (b : Bridge) : Bridge :=
  match Tbl.find c b.herd.copies with
  | none => b
  | some x =>
    if (b.chan x.srcCh).sch.waiting.any (WorkUnit.isSrc c) then b
    else
      match x.todo start with
      | [] => b
      | k :: t =>
        let m := (b.chan x.srcCh).sch.unitMost b.glb.shares.2.1
        b.enqueue x.srcCh { id := 0, cls := 5, inst := x.inst, kind := .copySrc c k (Nat.min m (1 + runLen (k + 1) t)), port := 1 }

/-- Drains of a granule's lines that wait for admission, on whatever channel (R118). -/
def Bridge.drainsWaiting (g : Nat) (m : BitVec 64) (b : Bridge) : Nat :=
  (channels.map (fun n => ((b.chan n).sch.waiting.filter (fun w => match w.kind with
    | .drain l => decide (l / 64 = g) && m.getLsbD (l % 64)
    | _ => false)).length)).foldl (· + ·) 0

/-- A copy unit's source part starts: its lines are in flight, and drains that wait for them are held; a write-back's or home move's lines
are no longer dirty (R108, R112, R117, R118). -/
def Bridge.startCopy (n c first k : Nat) (u : WorkUnit) (p : Plan) (r : Running) (b : Bridge) : Bridge :=
  match Tbl.find c b.herd.copies with
  | none => b
  | some x =>
    let m := maskRange first k
    let b := b.modHerd (fun h => { h with copies := Tbl.put c { x with inFlight := x.inFlight ||| m, stride := b.stride } h.copies })
    let b := match x.dst with
      | .sled d _ => b.setAside d k
      | .near _ => b
    let b := if x.kind.moves then
        let waiting := b.drainsWaiting x.gran m
        b.modHerd (fun h => { h with drainHeld := cnt32 h.drainHeld waiting })
      else
        let was := (Tbl.find x.gran b.herd.dir).elim 0 (fun e => e.dirty &&& m)
        let b := b.modHerd (fun h => { h with copies := h.copies.map (fun e =>
          if e.1 = c then (e.1, { e.2 with dirtied := e.2.dirtied ||| was }) else e) })
        b.modDir x.gran (fun e => { e with dirty := e.dirty &&& ~~~ m, wbFlight := e.wbFlight ||| m })
    let b := if x.kind.moves then b else b.modHerd (fun h => { h with wbLines := h.wbLines + k })
    let b := b.running n { r with places := p.places, await := List.range p.places.length, hold := sledIdxs p.places }
    (b.flow n u.id).issueCopy c (first + k)

/-- A change is prepared for the next tick; a journaled one waits for its commit group first (R78, R439). -/
def Bridge.prepare (c : Change) (records : Nat) (b : Bridge) : Bridge :=
  { b with citan := { b.citan with prepared := b.citan.prepared ++ [{ change := c, records := records, awaits := records ≠ 0 }] } }

/-- Change a copy in progress. -/
def Bridge.modCopy (c : Nat) (f : Copy → Copy) (b : Bridge) : Bridge :=
  b.modHerd (fun h => { h with copies := h.copies.map (fun e => if e.1 = c then (e.1, f e.2) else e) })

/-- The destination part of a copy unit is admitted: its lines are moved, and the switch follows once all are (R117, R119). -/
def Bridge.copyMoved (c first k : Nat) (b : Bridge) : Bridge :=
  let m := maskRange first k
  let b := b.modCopy c (fun x => { x with
    inFlight := x.inFlight &&& ~~~ m, moved := x.moved ||| m,
    buf := x.buf.filter (fun e => !m.getLsbD e.1) })
  match Tbl.find c b.herd.copies with
  | none => b
  | some x =>
    if x.kind.moves ∧ x.moved = BitVec.allOnes 64 ∧ !x.ready then
      (b.modCopy c (fun x => { x with ready := true })).prepare (.copySwitch c) (if x.kind = .promotion then 0 else 3)
    else if x.kind.moves || decide (x.kind = .mirror) then b
    else b.modDir x.gran (fun e => { e with wbFlight := e.wbFlight &&& ~~~ m })

/-- A copy unit's destination part starts: its lines are written, and are moved from now on (R117, R118). -/
def Bridge.startCopyDst (n c first k : Nat) (p : Plan) (r : Running) (b : Bridge) : Bridge :=
  match Tbl.find c b.herd.copies with
  | none => b
  | some x =>
    let words := (List.range k).map (fun j => (j, Tbl.get Codeword.bad (first + j) x.buf))
    ((b.running n { r with places := p.places, hold := sledIdxs p.places, words := words }).flow n r.unit.id).copyMoved c first k

/-- A link part starts: its unit's reads and writes on this channel may go out (R79). -/
def Bridge.startLink (m resCh uid : Nat) (r : Running) (b : Bridge) : Bridge :=
  match b.runningUnit resCh uid with
  | none => b
  | some _ => (b.running m r).flow resCh uid

/-- A line of the grace store starts to drain (R305). -/
def Bridge.startGrace (n ln : Nat) (full : Bool) (u : WorkUnit) (p : Plan) (r : Running) (b : Bridge) : Bridge :=
  match (b.chan n).ll.gstore.find? (fun g => decide (g.ln = ln)) with
  | none => b
  | some g =>
    match b.homePlace g.resCh ln with
    | some (.sled c s) =>
      let b := b.running n { r with
        places := [(ln, .sled c s)], await := if full then [] else [0], hold := [0]
        words := if full then [(0, Codeword.of g.cipher g.poison)] else [] }
      (b.handOn n u p.remote).flow n u.id
    | _ => b.graceLost n g

/-- A corrected line's write-back starts (R57, R117): its write goes out, or its frame is written once the unit completes; POISON that
the near tier is not to hold leaves it (R85). -/
def Bridge.startBack (n ln : Nat) (l : Loc) (w : Codeword) (u : WorkUnit) (p : Plan) (r : Running) (b : Bridge) : Bridge :=
  if p.places.isEmpty then b
  else
    let g := ln / 64
    let ch := ((b.segOfDla (g / 262144)).map (fun e => e.2.chan)).getD 16
    let b := match b.copyFrom ln l with
      | some c =>
        if c.moved.getLsbD (ln % 64) then if w.poison && c.dst.link.isNone then b.leaveFrame g (ln % 64) else b.markDirty ch ln false else b
      | none => b
    ((b.running n { r with places := p.places, hold := sledIdxs p.places, remote := !p.remote.isEmpty, words := [(0, w)] }).handOn n u p.remote).flow n u.id

/-- Change the piece that a lane of a channel holds. -/
def Bridge.modPiece (n lane : Nat) (f : Piece → Piece) (b : Bridge) : Bridge :=
  b.modRtv n (fun r => { r with lane := r.lane.map (fun e => if e.1 = lane then (e.1, f e.2) else e) })

/-- Lines read and rows evaluated by a lane in the stride (R178). -/
def Bridge.laneWork (b : Bridge) (n lane : Nat) : Nat × Nat :=
  match Tbl.find lane (b.chan n).rtv.work with
  | some (s, w) => if s = b.stride then w else (0, 0)
  | none => (0, 0)

/-- Lines and rows are added to what a lane has done in the stride (R178). -/
def Bridge.addWork (n lane lines rows : Nat) (b : Bridge) : Bridge :=
  let w := b.laneWork n lane
  b.modRtv n (fun r => { r with work := Tbl.put lane (b.stride, w.1 + lines, w.2 + rows) r.work })

/-- Lines that a lane may ask for: 128 in flight at most, and 300 in a stride, those asked for and not begun included (R178). -/
def Bridge.askRoom (b : Bridge) (n lane : Nat) (x : Piece) : Nat :=
  Nat.min (128 - (x.asked.length - x.got.length)) (300 - (b.laneWork n lane).1 - (x.asked.length - x.begun.length))

/-- The lane asks for the next lines its piece needs: each line is one class 4 unit, which is looked up and takes its snapshot as it reaches
the channel (R77, R90, R174, R178). A lane with a full output buffer asks for none (R154). -/
def Bridge.askPiece (n lane : Nat) (b : Bridge) : Bridge :=
  match Tbl.find lane (b.chan n).rtv.lane with
  | none => b
  | some x =>
    match Tbl.find x.job b.scan.job with
    | none => b
    | some j =>
      if x.ended || j.program.full x then b
      else
        let next := (((j.program.wants x).filter (fun l => !x.asked.contains l)).eraseDups).take (b.askRoom n lane x)
        let b := b.modPiece n lane (fun x => { x with asked := x.asked ++ next })
        b.each next (fun l b =>
          let b := b.lookups n j.fn (x.dla + l)
          let b := match (b.chan n).acc.snapshot (x.dla + l) with
            | some s => (b.modPiece n lane (fun x => { x with snap := Tbl.put l s x.snap })).modAcc n (fun a => { a with rdmerge := a.rdmerge + 1 })
            | none => b
          b.enqueue n { id := 0, cls := 4, inst := j.fn, kind := .retriever lane (x.dla + l) 1, port := 2 })

/-- A line of a piece has its data and poison (R174, R175), and its lane goes on asking. -/
def Bridge.pieceLine (n lane ln : Nat) (data : Line) (poison : Bool) (b : Bridge) : Bridge :=
  match Tbl.find lane (b.chan n).rtv.lane with
  | none => b
  | some p =>
    let k := ln - p.dla
    let v := mergeSnap (Tbl.find k p.snap) data poison
    let b := b.when v.2 (·.modAcc n (fun a => { a with poisonRd := cnt32 a.poisonRd 1 }))
    (b.modPiece n lane (fun p => { p with got := Tbl.put k v p.got, snap := Tbl.del k p.snap })).askPiece n lane

/-- A retriever read starts; lines that end at once return poison, an unbacked one with its counts (R70, R174, R175, R322). -/
def Bridge.startPiece (n lane : Nat) (u : WorkUnit) (p : Plan) (r : Running) (b : Bridge) : Bridge :=
  let b := match u.kind with
    | .retriever _ ln _ => (b.addWork n lane 1 0).modPiece n lane (fun x => { x with
        begun := if x.begun.contains (ln - x.dla) then x.begun else x.begun ++ [ln - x.dla] })
    | _ => b
  let b := b.countTlm (fun t => { t with scanLines := t.scanLines + p.places.length })
  let b := b.modRtv n (fun x => { x with lines := x.lines + p.places.length })
  let b := b.startRead n u p r
  b.each p.dead (fun ln b =>
    let b := match b.readPlace n u.inst ln with
      | .unbacked mis => b.unbackedOn n u.inst ln mis false
      | _ => b
    b.pieceLine n lane ln 0 true)

/-- A unit is admitted: it starts (R36). -/
def Bridge.start (n : Nat) (u : WorkUnit) (p : Plan) (r : Running) (b : Bridge) : Bridge :=
  let b := b.countLines u p
  match u.kind with
  | .hostRead rid _ _ => b.startHostRead n rid u p r
  | .drain ln => b.startDrain n ln u p r
  | .retriever lane _ _ => b.startPiece n lane u p r
  | .copySrc c first k => b.startCopy n c first k u p r
  | .copyDst c first k => b.startCopyDst n c first k p r
  | .scrubRead _ _ => b.startRead n u p r
  | .second _ _ _ _ _ => if p.places.isEmpty then b.running n r else b.startRead n u p r
  | .scrubWb ln l w => b.startBack n ln l w u p r
  | .link c uid _ => b.startLink n c uid r
  | .grace ln full => b.startGrace n ln full u p r
  | _ => b.running n { r with places := p.places }

end Sys2Proof.Machine
end

