-- ==== Sys2Proof/Machine/Sched.lean ====
section
/-! DEFINITION. The channel scheduler: plan of a stride, admission, the stride's end, loss of capacity (chapter 02). -/

namespace Sys2Proof.Machine

open Sys2Proof

/-- Lines that a unit counts for when it is admitted: those it has a place for, each once; a link part stands for its slots' lines
(R65). -/
def Plan.lines (u : WorkUnit) (p : Plan) : Nat :=
  if p.places.isEmpty then u.lineCount else ((p.places.map Prod.fst).eraseDups).length

/-- Count what an admission uses: lines of its class, class 1 and migration slots, foreground use (R41, R42, R65, R235). -/
def Sched.account (u : WorkUnit) (p : Plan) (s : Sched) : Sched :=
  let s := { s with lines := Tbl.put u.cls (Tbl.get 0 u.cls s.lines + p.lines u) s.lines, inbUse := s.inbUse + p.cost.inb }
  match u.cls with
  | 1 => { s with c1 := s.c1.add p.cost }
  | 5 => { s with mig := s.mig.add p.cost }
  | 2 => { s with fore := s.fore.add p.cost, foreNear := if p.cost.inb + p.cost.out = 0 then s.foreNear + p.cost.eng else s.foreNear }
  | 3 => { s with fore := s.fore.add p.cost, foreNear := if p.cost.inb + p.cost.out = 0 then s.foreNear + p.cost.eng else s.foreNear }
  | _ => s

/-- The deficit round robin of a class among instances (R45): the next unit of those eligible, with the deficits and the pointer
as the visits leave them. `fuel` bounds the visits. -/
def drrNext (weight : Nat → Nat) (us : List WorkUnit) : Nat → Nat → Tbl Nat → Option (WorkUnit × Nat × Tbl Nat)
  | 0, _, _ => none
  | fuel + 1, p, d =>
    match us.find? (fun u => decide (u.inst = p)) with
    | some u =>
      if u.debited ∨ u.lineCount ≤ Tbl.get 0 p d then some (u, p, d)
      else
        let q := (pickFrom (fun i => us.any (fun u => decide (u.inst = i))) 256 (p + 1)).getD p
        drrNext weight us fuel q (Tbl.put q (Tbl.get 0 q d + weight q) d)
    | none =>
      match pickFrom (fun i => us.any (fun u => decide (u.inst = i))) 256 (p + 1) with
      | some q => drrNext weight us fuel q (Tbl.put q (Tbl.get 0 q d + weight q) d)
      | none => none

/-- An instance's deficits in a class, by instance. -/
def Sched.deficits (s : Sched) (cls : Nat) : Tbl Nat :=
  (s.deficit.filter (fun e => decide (e.1 / 256 = cls))).map (fun e => (e.1 % 256, e.2))

/-- Put back a class's deficits; an instance with nothing queued in the class has none (R45). -/
def Sched.setDeficits (cls : Nat) (d : Tbl Nat) (s : Sched) : Sched :=
  let keep := d.filter (fun e => decide (e.2 ≠ 0) && s.queue.any (fun u => decide (u.cls = cls) && decide (u.inst = e.1)))
  { s with deficit := keep.foldl (fun t e => Tbl.put (cls * 256 + e.1) e.2 t) (s.deficit.filter (fun e => decide (e.1 / 256 ≠ cls))) }

/-- The round-robin weight of an instance (R45). -/
def Bridge.weight (b : Bridge) (i : Nat) : Nat := Nat.max 1 (b.inst i).grant.weight

/-- A unit may be admitted in the power state: in the power-loss sequence only the sequence's own, in a thermal hold no class 6
unit but a corrected line's write-back (R443, R501). -/
def Bridge.powerOk (b : Bridge) (u : WorkUnit) : Bool :=
  (decide (b.jrn.step = 0) ||
    (match u.kind with
    | .mgmt _ => true
    | .drain _ => true
    | .grace _ _ => true
    | .link _ _ _ => true
    | .copyDst _ _ _ => true
    | .second _ _ _ _ _ => decide (u.cls = 5)
    | .copySrc c _ _ => (Tbl.find c b.herd.copies).any (fun x => decide (x.kind = .writeBack ∨ x.kind = .mirror))
    | _ => false))
  && (!b.pwr.thermHold || decide (u.cls ≠ 6) ||
    (match u.kind with
    | .scrubWb _ _ _ => true
    | _ => false))

/-- The units of a class that may be offered in this decision, in order of arrival: ready, and taking no slot of a resource on
which the head of the head list lacks capacity (R44, R50). -/
def Bridge.eligible (n cls : Nat) (block : Bool × Bool × Bool) (b : Bridge) : List (WorkUnit × Plan) :=
  let s := (b.chan n).sch
  if bitOf s.closed (cls - 1) then []
  else
    ((s.queue.filter (fun u => decide (u.cls = cls))).map (fun u => (u, b.planOf n u))).filter (fun x =>
      b.powerOk x.1 && b.ready n x.1 x.2 && !(block.1 && x.2.cost.out ≠ 0) && !(block.2.1 && x.2.cost.inb ≠ 0) && !(block.2.2 && x.2.cost.eng ≠ 0))

/-- Take a unit off the list it waits in. -/
def Sched.dequeue (u : WorkUnit) (s : Sched) : Sched :=
  let keep : List WorkUnit → List WorkUnit := fun q => q.filter (fun x => decide (x.id ≠ u.id))
  { s with queue := keep s.queue, head := keep s.head, deferred := keep s.deferred, carried := keep s.carried }

/-- Admit a unit whose slots have been taken, with what of them its class's reservation and the overhang gave (R36). -/
def Bridge.admitUnit (n : Nat) (u : WorkUnit) (p : Plan) (fromRsv fromOvh : Slots) (b : Bridge) : Bridge :=
  let r : Running := { unit := u, stride := b.stride, seq := b.glb.nextAdmit, born := b.glb.time, gen := (b.inst u.inst).gen, cost := p.cost, fromRsv := fromRsv, fromOvh := fromOvh }
  let b := (b.modGlb (fun g => { g with nextAdmit := g.nextAdmit + 1 })).modSch n (fun s => (s.dequeue u).account u p)
  (b.start n u p r).modSch n Sched.tidy

/-- Defer a unit whole to the head list of the next stride; its class closes (R49). -/
def Bridge.deferUnit (n : Nat) (u : WorkUnit) (b : Bridge) : Bridge :=
  b.modSch n (fun s =>
    let s := s.dequeue u
    Sched.tidy { s with
      deferred := s.deferred ++ [{ u with debited := true }]
      closed := if bitOf s.closed (u.cls - 1) then s.closed else s.closed + 2 ^ (u.cls - 1)
      defers := cnt32 s.defers 1
      stress := s.stress || u.cls = 2 })

/-- Offer a unit a budget, with the overhang where it may use it: admitted (true), deferred, or left (R44, R48, R49). -/
def Bridge.offer (n : Nat) (u : WorkUnit) (p : Plan) (avail : Slots) (mayOvh mayDefer : Bool) (b : Bridge) : Bool × Bridge :=
  let s := (b.chan n).sch
  let fromRsv := Slots.min p.cost (s.rsv u.cls)
  if p.cost.fits avail then
    (true, (b.modSch n (fun s => s.take u.cls p.cost)).admitUnit n u p fromRsv {})
  else if mayOvh && s.fitsOvh avail p.cost then
    let lack := p.cost.sub avail
    (true, (b.modSch n (fun s => { (s.take u.cls p.cost) with ovh := s.ovh.add lack, ovhs := cnt32 s.ovhs 1 })).admitUnit n u p fromRsv lack)
  else if mayDefer then (false, b.deferUnit n u)
  else (false, b)

/-- Set a class's deficits and pointer after a unit of it was admitted or deferred; its lines are debited once (R45, R49). -/
def Bridge.debit (n : Nat) (u : WorkUnit) (ptr : Nat) (d : Tbl Nat) (b : Bridge) : Bridge :=
  let d := if u.debited then d else Tbl.put u.inst (Tbl.get 0 u.inst d - u.lineCount) d
  b.modSch n (fun s => { (s.setDeficits u.cls d) with ptr := Tbl.put u.cls ptr s.ptr })

/-- Step 3 for one class: its next green unit (R44, R45, R48, R49). -/
def Bridge.offerGreen (n cls : Nat) (block : Bool × Bool × Bool) (b : Bridge) : Bool × Bridge :=
  let us := (b.eligible n cls block).filter (fun x => decide (b.colourNow n x.1 = .green))
  let s := (b.chan n).sch
  match drrNext b.weight (us.map Prod.fst) 4096 (Tbl.get 255 cls s.ptr) (s.deficits cls) with
  | none => (false, b)
  | some (u, ptr, d) =>
    match us.find? (fun x => decide (x.1.id = u.id)) with
    | none => (false, b)
    | some (u, p) =>
      let (done, b) := b.offer n u p s.pool true true
      (done, b.debit n u ptr d)

/-- A unit is the source part of a write-back that a test accepts, which is given the granule and its home channel. -/
def Bridge.writesBack (p : Nat → Nat → Bool) (u : WorkUnit) (b : Bridge) : Bool :=
  match u.kind with
  | .copySrc c _ _ => (Tbl.find c b.herd.copies).any (fun x => decide (x.kind = .writeBack) && p x.gran x.dstCh)
  | _ => false

/-- The next class 5 unit: write-back owed by a home channel over its ceiling first, else the oldest; ahead of every other write-back goes that of
a frame that a line marked POISON has left (R85, R132, R137). -/
def Bridge.nextMove (us : List (WorkUnit × Plan)) (b : Bridge) : Option (WorkUnit × Plan) :=
  let leaver := us.find? (fun x => b.writesBack (fun g _ => (Tbl.find g b.herd.dir).any (fun e => e.leaving)) x.1)
  let owed := us.find? (fun x => b.writesBack (fun _ c => b.overCeil c) x.1)
  match owed.or us.head? with
  | none => none
  | some x => if b.writesBack (fun _ _ => true) x.1 then leaver.or (some x) else some x

/-- The next unit of a background class: class 4 by deficit round robin, class 5 oldest first, class 6 its first corrected-line
write-back, else scrub and self-test in turn (R45, R57). -/
def Bridge.nextBack (n cls : Nat) (us : List (WorkUnit × Plan)) (b : Bridge) : Option (WorkUnit × Plan × Nat × Tbl Nat) :=
  let s := (b.chan n).sch
  match cls with
  | 4 =>
    match drrNext b.weight (us.map Prod.fst) 4096 (Tbl.get 255 4 s.ptr) (s.deficits 4) with
    | some (u, ptr, d) => (us.find? (fun x => decide (x.1.id = u.id))).map (fun x => (x.1, x.2, ptr, d))
    | none => none
  | 6 =>
    let isScrub : WorkUnit → Bool := fun u => match u.kind with
      | .selfTest _ => false
      | .window _ => false
      | _ => true
    let isWb : WorkUnit → Bool := fun u => match u.kind with
      | .scrubWb _ _ _ => true
      | _ => false
    let pick := match us.find? (fun (x : WorkUnit × Plan) => isWb x.1) with
      | some x => some x
      | none => match us.find? (fun (x : WorkUnit × Plan) => decide (isScrub x.1 ≠ s.scrubLast)) with
        | some x => some x
        | none => us.head?
    pick.map (fun (x : WorkUnit × Plan) => (x.1, x.2, 0, []))
  | _ => (b.nextMove us).map (fun x => (x.1, x.2, 0, []))

/-- An exclusive window opens at most once in a stride, never in FCLK 0 to 127 (R58). -/
def Bridge.windowOk (n : Nat) (u : WorkUnit) (b : Bridge) : Bool :=
  match u.kind with
  | .window _ => !(b.chan n).sch.windowUsed && decide (128 ≤ b.phase)
  | _ => true

/-- Steps 4 and 5 for one background class: from its reservation alone, or with the common pool and the overhang (R44, R48). -/
def Bridge.offerBack (n cls : Nat) (withPool : Bool) (block : Bool × Bool × Bool) (b : Bridge) : Bool × Bridge :=
  let us := (b.eligible n cls block).filter (fun x => b.windowOk n x.1)
  match b.nextBack n cls us with
  | none => (false, b)
  | some (u, p, ptr, d) =>
    let s := (b.chan n).sch
    if cls = 5 ∧ !s.ceilOk p.cost then (false, b)
    else
      let isWindow := match u.kind with
        | .window _ => true
        | _ => false
      let avail := if withPool && !isWindow then (s.rsv cls).add s.pool else s.rsv cls
      let (done, b) := b.offer n u p avail (withPool && !isWindow) (withPool && !isWindow)
      let left := (b.chan n).sch.queue.any (fun x => decide (x.id = u.id))
      let b := if cls = 4 && !left then b.debit n u ptr d else b
      let b := if done && cls = 6 then b.modSch n (fun s => { s with
          scrubLast := match u.kind with
            | .selfTest _ => false
            | .window _ => false
            | _ => true
          windowUsed := s.windowUsed || isWindow }) else b
      (done, b)

/-- Step 6 for one class: the first unit of its yellow queue, from the common pool alone (R44, R46). -/
def Bridge.offerYellow (n cls : Nat) (block : Bool × Bool × Bool) (b : Bridge) : Bool × Bridge :=
  let us := (b.eligible n cls block).filter (fun x => decide (b.colourNow n x.1 = .yellow))
  let top := us.foldl (fun (best : Option (WorkUnit × Plan)) x => match best with
    | none => some x
    | some y => if y.1.reentry < x.1.reentry then some x else best) none
  match top with
  | none => (false, b)
  | some (u, p) => b.offer n u p (b.chan n).sch.pool false false

/-- Class 1, oldest first, within its cap; one beyond the cap waits (R41, R44 step 2). -/
def Bridge.offerMgmt (n : Nat) (block : Bool × Bool × Bool) (b : Bridge) : Bool × Bridge :=
  match (b.eligible n 1 block).head? with
  | none => (false, b)
  | some (u, p) => if (b.chan n).sch.capOk p.cost then b.offer n u p (b.chan n).sch.pool true true else (false, b)

/-- A green unit of classes 1 to 3 waits on a channel (R44 step 5). -/
def Bridge.greenWaits (n : Nat) (withMgmt : Bool) (b : Bridge) : Bool :=
  (b.chan n).sch.queue.any (fun u => (withMgmt && u.cls = 1) || ((u.cls = 2 || u.cls = 3) && decide (b.colourNow n u = .green)))

/-- Try steps in order until one admits. -/
def firstOf : List (Bridge → Bool × Bridge) → Bridge → Bool × Bridge
  | [], b => (false, b)
  | f :: t, b =>
    let (done, b) := f b
    if done then (true, b) else firstOf t b

/-- Try a step where a condition holds at that point. -/
def whenStep (c : Bridge → Bool) (f : Bridge → Bool × Bridge) (b : Bridge) : Bool × Bridge := if c b then f b else (false, b)

/-- Steps 2 to 6 of R44, with the resources that the head of the head list lacks. The green units that hold step 6 back are those of classes 2 and 3,
which alone have a colour (R46, log entry 100). -/
def Bridge.offerRest (n : Nat) (block : Bool × Bool × Bool) (b : Bridge) : Bool × Bridge :=
  let s := (b.chan n).sch
  let a := if s.flip then 3 else 2
  let z := if s.flip then 2 else 3
  let sld : Bridge → Bool := fun b => (b.chan n).sch.sealedPlan
  let bg : Bridge → Bool := fun b => sld b && !b.greenWaits n true
  let yl : Bridge → Bool := fun b => sld b && !b.greenWaits n false
  firstOf
    [ fun b => b.offerMgmt n block,
      whenStep sld (fun b => b.offerGreen n a block), whenStep sld (fun b => b.offerGreen n z block),
      whenStep sld (fun b => b.offerBack n 4 false block), whenStep sld (fun b => b.offerBack n 5 false block),
      whenStep sld (fun b => b.offerBack n 6 false block),
      whenStep bg (fun b => b.offerBack n 4 true block), whenStep bg (fun b => b.offerBack n 5 true block),
      whenStep bg (fun b => b.offerBack n 6 true block),
      whenStep yl (fun b => b.offerYellow n a block), whenStep yl (fun b => b.offerYellow n z block) ] b

/-- An exclusive window runs: no other unit that uses its resources is admitted (R58). -/
def Bridge.windowBlock (n : Nat) (b : Bridge) : Bool × Bool × Bool :=
  (b.chan n).sch.running.foldl (fun x r => match r.unit.kind with
    | .window c => (x.1 || c.out ≠ 0, x.2.1 || c.inb ≠ 0, x.2.2 || c.eng ≠ 0)
    | _ => x) (false, false, false)

/-- The resources on which the first unit of the head list lacks capacity (R50), the class 1 cap counted (R41). -/
def Sched.headLacks (s : Sched) (cls : Nat) (cost : Slots) : Bool × Bool × Bool :=
  let l := s.lacks cls cost
  if cls = 1 ∧ !s.uncapped then
    let m := shareOf 32 s.full
    let u := s.c1.add cost
    (l.1 || (cost.out ≠ 0 && decide (m.out < u.out)), l.2.1 || (cost.inb ≠ 0 && decide (m.inb < u.inb)), l.2.2 || (cost.eng ≠ 0 && decide (m.eng < u.eng)))
  else l

/-- What of a head-list unit's cost its class's reservation gives: on each resource the whole, where that covers it (R50). -/
def Sched.headFromRsv (s : Sched) (cls : Nat) (cost : Slots) : Slots :=
  let r := s.rsv cls
  { out := if cost.out ≤ r.out then cost.out else 0, inb := if cost.inb ≤ r.inb then cost.inb else 0, eng := if cost.eng ≤ r.eng then cost.eng else 0 }

/-- The destination part of a copy is admitted in the slots set aside for it, which the ceiling has counted: its lines are moved (R42,
R44, R117, R118). -/
def Bridge.admitDst (n k : Nat) (u : WorkUnit) (b : Bridge) : Bridge :=
  (b.admitUnit n u (b.planOf n u) {} {}).modSch n (fun s => { s with mig := s.mig.sub { out := k } })

/-- Step 1 of R44 for carried destination parts: the first one, while the link carries traffic and no window has it (R52, R58). -/
def Bridge.offerCarried (n : Nat) (w : Bool × Bool × Bool) (b : Bridge) : Bool × Bridge :=
  match (b.chan n).sch.carried with
  | [] => (false, b)
  | u :: _ =>
    match u.kind with
    | .copyDst _ _ k => if b.linkOpen n && !w.1 then (true, b.admitDst n k u) else (false, b)
    | _ => (false, b)

/-- The head list and the steps after it (R44, R50). -/
def Bridge.offerHead (n : Nat) (w : Bool × Bool × Bool) (b : Bridge) : Bridge :=
  match (b.chan n).sch.head with
  | [] => (b.offerRest n w).2
  | u :: _ =>
    let p := b.planOf n u
    let s := (b.chan n).sch
    let l := s.headLacks u.cls p.cost
    let hit := (w.1 && p.cost.out ≠ 0) || (w.2.1 && p.cost.inb ≠ 0) || (w.2.2 && p.cost.eng ≠ 0)
    if !l.1 && !l.2.1 && !l.2.2 && !hit && b.ready n u p && (u.cls ≠ 5 || s.ceilOk p.cost) then
      (b.modSch n (fun s => s.takeHead u.cls p.cost)).admitUnit n u p (s.headFromRsv u.cls p.cost) {}
    else (b.offerRest n (w.1 || l.1, w.2.1 || l.2.1, w.2.2 || l.2.2)).2

/-- ADMISSION_DECISION: the scheduler's one decision of the FCLK (R37, R44-R50). -/
def doAdmissionDecision (n : Nat) (b : Bridge) : Bridge :=
  if b.chFenced n || decide (b.pwr.state = 3) || decide (b.pwr.state = 4) then b
  else
    let w := b.windowBlock n
    let (done, b) := b.offerCarried n w
    if done then b else b.offerHead n w

/-- WORK_UNIT_ARRIVAL: a class 1 unit, a management message or a map or journal access, joins its queue (R36, R37; the units of
the other classes arrive with the commands that make them). -/
def doWorkUnitArrival (n : Nat) (send : Bool) (b : Bridge) : Bridge :=
  if b.chFenced n then b else b.enqueue n { id := 0, cls := 1, inst := 0, kind := .mgmt send, port := 1 }

/-- YELLOW_AGEING: units that have waited four ticks are treated as green (R47). -/
def doYellowAgeing (n : Nat) (b : Bridge) : Bridge :=
  let due : WorkUnit → Bool := fun u => (u.cls = 2 || u.cls = 3) && decide (4 ≤ u.ticks) && !u.aged && decide (b.ownColour n u = .yellow)
  b.modSch n (fun s => { s with
    aged := cnt32 s.aged (s.queue.filter due).length
    queue := s.queue.map (fun u => if due u then { u with aged := true } else u) })

/-- An access of a unit on a channel's link has been sent: a read or write that it had to hand to the link is no longer waiting there. -/
def Bridge.sentOn (m n uid : Nat) (r : Running) (b : Bridge) : Bool :=
  let l := (b.chan m).ll
  let idxs := (List.range r.places.length).filter (fun i => decide ((r.places[i]?).bind (fun p => p.2.link) = some m))
  let reads := (l.tags.filter (fun e => match e.2.use with
    | .unit c u _ => decide (c = n ∧ u = uid)
    | .lost => false)).map Prod.fst
  let waits : Nat → Bool := fun t => l.txq.any (fun m => match m.2 with
    | .rd t' _ _ => decide (t' = t)
    | _ => false)
  let queued : Nat → Bool := fun i => (r.places[i]?).any (fun p => match p.2 with
    | .sled _ g => l.txq.any (fun m => match m.2 with
      | .wr k _ => decide (k = sledLine g p.1)
      | _ => false)
    | .near _ => false)
  if r.unit.writes then
    if r.await.isEmpty then idxs.any (fun i => !r.hold.contains i && !queued i) else reads.any (fun t => !waits t)
  else reads.any (fun t => !waits t) || idxs.any (fun i => !r.hold.contains i && !r.await.contains i)

/-- A unit that has not started: nothing of it has been sent on the channel's link; one that acts there otherwise starts in the FCLK of its
admission (R51, log entry 94). The destination part of a copy is never withdrawn (R118). -/
def Bridge.notStarted (n : Nat) (r : Running) (b : Bridge) : Bool :=
  match r.unit.kind with
  | .copyDst _ _ _ => false
  | .mgmt _ => decide (r.born = b.glb.time)
  | .selfTest _ => decide (r.born = b.glb.time)
  | .window _ => decide (r.born = b.glb.time)
  | .link c uid _ => (b.runningUnit c uid).any (fun p => !b.sentOn n c uid p)
  | _ => !b.sentOn n n r.unit.id r

/-- The lines of a withdrawn copy unit are no longer in flight, a write-back's are dirty as before, and the copy's later units are issued
anew (R51, R120). -/
def Bridge.undoCopy (c first k : Nat) (sameStride : Bool) (b : Bridge) : Bridge :=
  match Tbl.find c b.herd.copies with
  | none => b
  | some x =>
    let m := maskRange first k
    let b := b.modHerd (fun h => { h with copies := Tbl.put c { x with inFlight := x.inFlight &&& ~~~ m, dirtied := if x.kind.moves then x.dirtied else x.dirtied &&& ~~~ m } h.copies })
    let b := if x.kind.moves then b
      else b.modDir x.gran (fun e =>
        let back := x.dirtied &&& m
        { e with dirty := e.dirty ||| back, wbFlight := e.wbFlight &&& ~~~ m, state := if back = 0 then e.state else .dirty })
    let b := if x.kind.moves then b else b.modHerd (fun h => { h with wbLines := h.wbLines - k })
    let b := b.modSch x.srcCh (Sched.dropWaiting (WorkUnit.isSrc c))
    match x.dst with
    | .sled d _ => if sameStride then b.modSch d (fun s => { s with pool := s.pool.add { out := k }, mig := s.mig.sub { out := k } }) else b
    | .near _ => b

/-- A drain that is withdrawn has its entry open again; a later entry of the line takes its bytes in under its own (R51, R89). -/
def Bridge.reopen (n ln : Nat) (b : Bridge) : Bridge :=
  let a := (b.chan n).acc
  match a.sealedEntry ln, a.openEntry ln with
  | some s, some o =>
    let both : WcbEntry := { o with
      data := mergeLine o.mask o.data s.data, mask := s.mask ||| o.mask, poison := (s.poison && !(o.mask = fullMask)) || o.poison, offered := true }
    let b := b.modAcc n (fun a => { a with wcb := (a.wcb.filter (fun e => !(decide (e.ln = ln) && e.sealed))).map (fun e => if e.ln = ln then both else e) })
    (b.modSch n (Sched.dropWaiting (fun u => decide (u.kind = .drain ln)))).rankByOccupancy n
  | some _, none => b.modAcc n (fun a => { a with wcb := a.wcb.map (fun e => if e.ln = ln then { e with sealed := false } else e) })
  | none, _ => b

/-- A unit's messages that still wait to be sent on a channel are taken back. -/
def Bridge.takeBack (m n uid : Nat) (r : Running) (b : Bridge) : Bridge :=
  let gone := ((b.chan m).ll.tags.filter (fun e => match e.2.use with
    | .unit c u _ => decide (c = n ∧ u = uid)
    | .lost => false)).map Prod.fst
  let lines := r.places.filterMap (fun p => match p.2 with
    | .sled c g => if c = m then some (sledLine g p.1) else none
    | .near _ => none)
  b.modLl m (fun l => { l with
    txq := l.txq.filter (fun x => match x.2 with
      | .rd t _ _ => !gone.contains t
      | .wr k _ => !(r.unit.writes && lines.contains k)
      | _ => true)
    tags := l.tags.filter (fun e => !gone.contains e.1) })

/-- Withdraw an admitted unit that has not started (R51): its slots go back, and it joins, in admission order, the head list of the stride
after the one that it was admitted to. -/
def Bridge.withdraw (n : Nat) (r : Running) (b : Bridge) : Bridge :=
  let now := decide (r.stride = b.stride)
  let b := match r.unit.kind with
    | .link c uid _ =>
      match b.runningUnit c uid with
      | some p => (b.takeBack n c uid p).modRun c uid (fun p => { p with hold := sledIdxs p.places, asked := false })
      | none => b
    | .copySrc c first k => (b.takeBack n n r.unit.id r).undoCopy c first k now
    | .drain ln => (b.takeBack n n r.unit.id r).reopen n ln
    | _ => b.takeBack n n r.unit.id r
  let b := b.each channels (fun m b => b.modSch m (Sched.drop (WorkUnit.partOf n [r.unit.id])))
  b.modSch n (fun s =>
    let u := { r.unit with debited := true }
    let s := { s with running := s.running.filter (fun x => decide (x.unit.id ≠ r.unit.id)), withdraws := cnt32 s.withdraws 1 }
    let before : WorkUnit → Bool := fun v => decide (v.id = u.id)
    if now then { (s.refund u.cls r.cost r.fromRsv r.fromOvh) with deferred := s.deferred.filter (fun v => !before v) ++ [u] }
    else { s with head := s.head ++ [u], retLeft := s.retLeft + r.cost.inb })

/-- Withdraw units of a stride, the latest admitted first, until what they give back covers what is owed (R51). -/
def Bridge.withdrawFor (n : Nat) (owed : Slots) (b : Bridge) : List Running → Slots × Bridge × List Running
  | [] => (owed, b, [])
  | r :: t =>
    let uses := decide (r.cost.out ≠ 0 ∧ owed.out ≠ 0) || decide (r.cost.inb ≠ 0 ∧ owed.inb ≠ 0)
    if !uses || !b.notStarted n r then b.withdrawFor n owed t
    else
      let b := b.withdraw n r
      if r.stride = b.stride then
        let (o, s) := (b.chan n).sch.lose owed
        let (o, b, out) := (b.modSch n (fun _ => s)).withdrawFor n o t
        (o, b, r :: out)
      else
        let s := (b.chan n).sch
        let (o, b, out) := (b.modSch n (fun s => { s with retLeft := s.retLeft - owed.inb })).withdrawFor n { owed with inb := owed.inb - s.retLeft } t
        (o, b, r :: out)

/-- Units withdrawn stand on their list in the order in which they were admitted (R51). -/
def Bridge.orderWithdrawn (n : Nat) (out : List Running) (b : Bridge) : Bridge :=
  let ids := (out.reverse).map (fun r => r.unit.id)
  b.modSch n (fun s =>
    let sort : List WorkUnit → List WorkUnit := fun q =>
      q.filter (fun u => !ids.contains u.id) ++ ids.filterMap (fun i => q.find? (fun u => decide (u.id = i)))
    { s with head := sort s.head, deferred := sort s.deferred })

/-- Slots lost to a replay, a retrain or a pause leave the stride: from the pool, then the reservations of classes 6, 5 and 4,
then from units withdrawn, the latest admitted first (R51). Inbound slots lost while the last stride's return frame still runs are
that stride's (R33). -/
def Bridge.loseSlots (n : Nat) (lost : Slots) (b : Bridge) : Bridge :=
  let late := decide (b.phase < (b.chan n).sch.rtt)
  let (o, s) := (b.chan n).sch.lose (if late then { lost with inb := 0 } else lost)
  let inb := if late then lost.inb - s.retLeft else 0
  let s := if late then { s with retLeft := s.retLeft - lost.inb } else s
  let b := b.modSch n (fun _ => s)
  let rs := (b.chan n).sch.running.reverse
  let (_, b, out) := b.withdrawFor n { o with eng := 0 } (rs.filter (fun r => decide (r.stride = b.stride)))
  let b := b.orderWithdrawn n out
  let (_, b, out) := b.withdrawFor n { inb := inb } (rs.filter (fun r => decide (r.stride ≠ b.stride)))
  b.orderWithdrawn n out

/-- A unit runs past FCLK 127 of the stride after the one it was admitted to, in the return frame where it has inbound slots (R33, R51);
`more` FCLK later still. -/
def Bridge.overruns (n : Nat) (r : Running) (more : Nat) (b : Bridge) : Bool :=
  decide (strideLen + 128 + (if r.cost.inb = 0 then 0 else (b.chan n).sch.rtt) + more ≤ b.since r.stride * strideLen + b.phase)

/-- SCHEDULER_OVERRUN: a unit still running past FCLK 127 of the next stride is recorded, and its stride counts once (R51, R65). -/
def doSchedulerOverrun (n uid : Nat) (b : Bridge) : Bridge :=
  match b.runningUnit n uid with
  | none => b
  | some r =>
    if !b.overruns n r 0 then b
    else
      let b := if (b.chan n).sch.overAt = r.stride + 1 then b
        else b.modSch n (fun s => { s with overruns := cnt32 s.overruns 1, overAt := r.stride + 1 })
      let b := b.modGlb (fun g => { g with overrun := putBit g.overrun n true, overrunNow := putBit g.overrunNow n true })
      b.note n 25 uid

/-- The plan of a channel's stride at the tick (R31, R33, R35, R39, R42, R50-R52, R118, R235). -/
def Bridge.planChannel (n : Nat) (b : Bridge) : Bridge :=
  let c := b.chan n
  let open_ := decide (c.ll.state = .up) && decide (c.phy.state = .active) && !b.chFenced n
  let cap := if open_ then capOf c.phy.rate c.phy.width else if c.ll.state = .paused then c.sch.c else 0
  let aside := (b.herd.copies.map (fun e => match e.2.dst with
    | .sled d _ => if d = n then bitCount e.2.inFlight else 0
    | .near _ => 0)).foldl (· + ·) 0
  b.modSch n (fun s =>
    let reds := s.queue.filter (fun u => (u.cls = 2 || u.cls = 3) && decide (b.colourNow n u = .red))
    let queue := s.queue.map (fun u =>
      { u with ticks := u.ticks + 1, reentry := if (u.cls = 2 || u.cls = 3) && decide (b.colourNow n u = .red) then b.stride + 1 else u.reentry })
    let head := s.head ++ s.deferred
    let s := { s with
      c := cap, carry := s.ovh, ovh := {}, closed := 0, c1 := {}, mig := { out := aside }, windowUsed := false, charged := 0,
      sealedPlan := false, queue := queue, head := head, deferred := [], reds := cnt32 s.reds reds.length,
      headAtTick := Nat.min 255 head.length, retLeft := s.pool.inb + s.rsv4.inb + s.rsv5.inb + s.rsv6.inb
      fore := {}, foreNear := 0, stress := false, inbUse := 0 }
    let loss := decide (b.jrn.step ≠ 0)
    let s := { s with uncapped := loss }
    let r4 := if loss then {} else shareOf b.glb.shares.1 s.full
    let r5 := if loss then {} else shareOf b.glb.shares.2.1 s.full
    let r6 := if loss then {} else shareOf b.glb.shares.2.2 s.full
    let r5left := r5.sub { out := aside }
    let pool := (((s.capacity.sub r4).sub r5).sub r6).sub { out := aside - r5.out }
    let budget := if c.herd.raised then b.herd.tune.evacBudget else b.herd.tune.migBudget
    { s with rsv4 := r4, rsv5 := r5left, rsv6 := r6, shown := (r4.inb, r5.inb, r6.inb), pool := pool, ceil := migCeil budget cap r5.inb })

/-- DevLoad of a channel from the stride that ends (R235). -/
def Bridge.devLoad (n : Nat) (b : Bridge) : Nat :=
  let s := (b.chan n).sch
  let red := s.queue.any (fun u => decide (u.cls = 2) && decide (b.colourNow n u = .red))
  let pct : Nat → Nat → Nat := fun use cap => if cap = 0 then 0 else use * 100 / cap
  let f := Nat.max (Nat.max (pct s.fore.inb s.c) (pct s.fore.out s.c)) (pct s.foreNear engCap)
  if s.stress || red then 3 else if 90 ≤ f then 2 else if 50 ≤ f then 1 else 0

/-- The plan of one channel is sealed: classes with no work lose their reservation; a channel with nothing queued, no head list
and no overhang running gates its data path, where Idle gating is on (R39, R60, R495). -/
def Bridge.sealChannel (n : Nat) (b : Bridge) : Bridge :=
  let idle := decide (b.pwr.prev = 1)
  b.modSch n (fun s =>
    let s := { s with sealedPlan := true }
    let s := [4, 5, 6].foldl (fun s k =>
      if s.hasWork k then s
      else
        let s := s.giveBack k
        if bitOf s.charged k then s
        else { s with shown := match k with
          | 4 => (0, s.shown.2.1, s.shown.2.2)
          | 5 => (s.shown.1, 0, s.shown.2.2)
          | _ => (s.shown.1, s.shown.2.1, 0) }) s
    { s with gated := idle && s.waiting.isEmpty && s.running.all (fun r => decide (r.fromOvh = ({} : Slots))) })

end Sys2Proof.Machine
end

