-- ==== Sys2Proof/Machine/Copies.lean ====
section
/-! DEFINITION. Granule copies in progress: their lines' data, the parts at the destination, switch and abnormal end (R106-R121). -/

namespace Sys2Proof.Machine

open Sys2Proof

/-- A journal copy is available (R23, R436). -/
def Bridge.journalUp (b : Bridge) : Bool := b.jrn.copy.any (fun e => decide (e.2.state = 1))

/-- A copy is over: its masks are released. -/
def Bridge.dropCopy (c : Nat) (b : Bridge) : Bridge := b.modHerd (fun h => { h with copies := Tbl.del c h.copies })

/-- A stack's bucket for a granule's exception entry has no free entry (R75, R123). -/
def Bridge.bucketFull (b : Bridge) (ch g : Nat) : Bool :=
  decide (8 ≤ (b.herd.exc.filter (fun e => decide (stackOf (e.1 / 2 ^ 35) = stackOf ch) && decide (Config.excBucket (e.1 % 2 ^ 35) = Config.excBucket g))).length)

/-- A granule's home becomes a sled granule: its bitmap bit and exception entry follow; at the extent's own home both are gone
(R75, R112, R115). -/
def Bridge.setHome (ch g : Nat) (home : Nat × Nat) (b : Bridge) : Bridge :=
  match b.descOn ch (g / 512) with
  | none => b
  | some (key, d) =>
    let own := decide (home = (d.home.1, d.home.2 * 512 + g % 512))
    let b := b.modDesc key (fun d => { d with bitmap := setBit d.bitmap (g % 512) (!own) })
    b.modHerd (fun h => { h with exc :=
      (if own then Tbl.del (excKey ch g) h.exc else Tbl.put (excKey ch g) { inst := d.inst, home := home } h.exc) })

/-- A location stays reserved until FCLK 128 of the stride (R119). -/
def Bridge.reserveLoc (l : Loc) (retired : Bool) (b : Bridge) : Bridge :=
  b.modHerd (fun h => { h with freeing := h.freeing ++ [(l, retired)] })

/-- A reserved location is freed, or retired (R116, R119). -/
def Bridge.freeLoc (l : Loc) (retired : Bool) (b : Bridge) : Bridge :=
  match l with
  | .near f => b.each (List.range 64) (fun k b => b.land f k none)
  | .sled c g =>
    if retired then
      b.modExt c (g / 512) (fun x =>
        let k := g % 512
        { x with retired := setBit x.retired k true, gran := setBit x.gran k false, away := if x.whole && !x.gran.getLsbD k then setBit x.away k true else x.away })
    else b.freeGran c g

/-- The resolving channel of a granule (R71). -/
def Bridge.resChOf (b : Bridge) (g : Nat) : Nat := ((b.segOfDla (g / 262144)).map (fun e => e.2.chan)).getD 16

/-- The counters of a movement that has switched (R139). -/
def Herder.countMove (k : CopyKind) (h : Herder) : Herder :=
  match k with
  | .promotion => { h with promotes := h.promotes + 1 }
  | .relocation => { h with relocates := h.relocates + 1 }
  | .evacuation => { h with evacGran := h.evacGran + 1 }
  | .retirement => { h with retires := cnt32 h.retires 1 }
  | _ => h

/-- The frame of a granule after its home has moved (R112): lines written through meanwhile are dirty towards the new home, where lines that
have left the frame are marked POISON (R85). -/
def Bridge.frameMoved (x : Copy) (home : Loc) (b : Bridge) : Bridge :=
  let gone := (Tbl.find x.gran b.herd.dir).elim 0 (fun e => e.atHome)
  let b := b.modDir x.gran (fun e =>
    let dirty := e.dirty ||| (x.written &&& ~~~ e.atHome)
    { e with dirty := dirty, state := if dirty = 0 then .clean else .dirty, counts := decide (dirty ≠ 0) })
  b.each ((List.range 64).filter (fun k => gone.getLsbD k)) (fun k b => b.rewrite (x.gran * 64 + k) home Codeword.bad)

/-- A copy's switch takes effect at a tick (R112, R119). -/
def Bridge.switchCopy (c : Nat) (b : Bridge) : Bridge :=
  match Tbl.find c b.herd.copies with
  | none => b
  | some x =>
    let ch := b.resChOf x.gran
    let b := b.dropCopy c
    match x.kind, x.dst with
    | .promotion, _ =>
      let b := b.modDir x.gran (fun e => { e with
        state := if x.dirtied = 0 then .clean else .dirty, dirty := x.dirtied, counts := decide (x.dirtied ≠ 0) })
      b.modHerd (Herder.countMove .promotion)
    | .homeMove, .sled dc dg =>
      let old := b.homeLoc ch x.gran
      let b := b.setHome ch x.gran (dc, dg)
      let b := match old with
        | some (oc, og) => b.reserveLoc (.sled oc og) (decide (x.cause = CopyKind.retirement))
        | none => b
      (b.frameMoved x (.sled dc dg)).modHerd (Herder.countMove x.cause)
    | k, .sled dc dg =>
      if k.moves then
        let b := b.setHome ch x.gran (dc, dg)
        let b := b.reserveLoc x.src (decide (k = CopyKind.retirement))
        b.modHerd (Herder.countMove k)
      else b
    | _, .near _ => b

/-- The resources a copy took at its destination are given back (R121); the destination extent of an evacuation stays its. -/
def Bridge.releaseDst (x : Copy) (b : Bridge) : Bridge :=
  let ch := b.resChOf x.gran
  match x.dst with
  | .near _ => (b.modHerd (fun h => { h with dir := Tbl.del x.gran h.dir })).reserveLoc x.dst false
  | .sled c g =>
    let b := b.modHerd (fun h => { h with exc := h.exc.filter (fun e => !(decide (e.1 = excKey ch x.gran) && e.2.pending)) })
    let evac := (b.descOn ch (x.gran / 512)).any (fun d => decide (d.2.evac = some (c, g / 512)))
    match x.kind with
    | .writeBack => b
    | .mirror => b
    | _ => if evac then b else b.freeGran c g

/-- Lines of a 64-bit mask. -/
def maskLines (m : BitVec 64) : List Nat := (List.range 64).filter (fun k => m.getLsbD k)

/-- The units of a copy that wait are dropped (R121). -/
def Bridge.dropParts (c : Nat) (b : Bridge) : Bridge :=
  let part : WorkUnit → Bool := fun u => u.isSrc c || (match u.kind with
    | .copyDst d _ _ => decide (d = c)
    | _ => false)
  b.each channels (fun n b => if (b.chan n).sch.waiting.any part then b.modSch n (Sched.dropWaiting part) else b)

/-- A copy ends without its planned switch at the first tick after its cause (R121). Causes: 0 destination lost, 1 source fenced
during a promotion, 2 a source line uncorrectable during a promotion, 3 instance torn down. -/
def Bridge.endCopy (c cause : Nat) (b : Bridge) : Bridge :=
  match Tbl.find c b.herd.copies with
  | none => b
  | some x =>
    let b := b.modHerd (fun h => { h with aborts := cnt32 h.aborts 1 })
    let bad := Codeword.bad
    let b := b.dropParts c
    match cause with
    | 0 =>
      if x.kind.moves then
        let b := b.dropCopy c
        let b := b.releaseDst x
        b.each (maskLines x.written) (fun k b => b.rewrite (x.gran * 64 + k) x.src bad)
      else
        let b := b.modDir x.gran (fun e => { e with
          dirty := e.dirty ||| x.dirtied, wbFlight := 0
          state := if e.dirty ||| x.dirtied = 0 then e.state else .dirty })
        (b.dropCopy c).releaseDst x
    | 1 =>
      let b := b.dropCopy c
      let b := b.each (maskLines x.written) (fun k b => b.writeLost (x.gran * 64 + k) x.inst)
      b.releaseDst x
    | 2 =>
      let b := b.dropCopy c
      if x.written = 0 then b.releaseDst x
      else
        b.modDir x.gran (fun e => { e with
          state := .dirty, dirty := x.written, atHome := ~~~ x.written, leaving := true, counts := true })
    | _ => (b.dropCopy c).modInst x.inst (fun i => { i with stopped := if x.kind.moves || decide (x.kind = .homeMove) then i.stopped ++ [x.dst] else i.stopped })

/-- Writes of a copy unit have taken effect at a sled (R106, R108, R112). -/
def Bridge.copyLanded (c first k : Nat) (b : Bridge) : Bridge :=
  let b := b.modCopy c (fun x => { x with landed := x.landed ||| maskRange first k })
  match Tbl.find c b.herd.copies with
  | none => b
  | some x =>
    match x.kind with
    | .writeBack =>
      if x.want &&& ~~~ x.landed = 0 then
        (b.dropCopy c).modDir x.gran (fun e => if e.dirty = 0 then { e with state := .clean, counts := false } else e)
      else b
    | .homeMove =>
      if x.landed = BitVec.allOnes 64 ∧ !x.ready then (b.modCopy c (fun x => { x with ready := true })).prepare (.copySwitch c) 3
      else b
    | .mirror => if x.want &&& ~~~ x.landed = 0 then b.dropCopy c else b
    | _ => b

/-- A line cannot be had during a promotion, which ends at the next tick; at home the line is rewritten with POISON (R121). -/
def Bridge.promotionFails (c k : Nat) (b : Bridge) : Bridge :=
  match Tbl.find c b.herd.copies with
  | none => b
  | some x =>
    let b := b.modCopy c (fun x => { x with poison := setBit x.poison k true })
    let b := b.rewrite (x.gran * 64 + k) x.src Codeword.bad
    if x.poison = 0 then b.prepare (.copyEnd c 2) 0 else b

/-- A carried destination part takes its place by its source part's admission (R44). -/
def Sched.carryOn (u : WorkUnit) (s : Sched) : Sched :=
  { s with
    carried := s.carried.takeWhile (fun v => decide (v.born ≤ u.born)) ++ u :: s.carried.dropWhile (fun v => decide (v.born ≤ u.born))
    gated := false }

/-- A copy unit's data reaches the destination, `r` being its source part (R117, R118): near-tier lines are written at once; a sled's
destination part is admitted at once in the slots set aside for it, and after a tick, or while its link carries no traffic or a window has
it, it is carried. -/
def Bridge.copyOut (r : Running) (c first k : Nat) (b : Bridge) : Bridge :=
  match Tbl.find c b.herd.copies with
  | none => b
  | some x =>
    let ls := (List.range k).map (· + first)
    let word : Nat → Codeword := fun l => Tbl.get Codeword.bad l x.buf
    match x.dst with
    | .near f =>
      let b := b.countTlm (fun t => { t with nearLines := t.nearLines + k })
      let bads := ls.filter (fun l => (word l).poison)
      let b := b.each bads (fun l b => b.promotionFails c l)
      let b := b.each (ls.filter (fun l => !(word l).poison)) (fun l b => b.land f l (some (word l).data))
      if bads.isEmpty then b.copyMoved c first k else b
    | .sled d _ =>
      let u : WorkUnit := { id := b.glb.nextUnit, cls := 5, inst := x.inst, kind := .copyDst c first k, port := 1, born := r.born }
      let b := b.modGlb (fun g => { g with nextUnit := g.nextUnit + 1 })
      if r.stride = b.stride && b.linkOpen d && !(b.windowBlock d).1 then (b.modSch d (fun s => { s with gated := false })).admitDst d k u
      else b.modSch d (Sched.carryOn u)

end Sys2Proof.Machine
end

