-- ==== Sys2Proof/Machine/Complete.lean ====
section
/-! DEFINITION. What becomes of admitted units: lines that return, drains that take effect, reports of completion (R34, R54, R79,
R82-R91, R108, R118), and the scrubber's and self-test's units (R57, R58). -/

namespace Sys2Proof.Machine

open Sys2Proof

/-- Line number `idx` of a unit is there; a read unit finishes with its last line. -/
def Bridge.gotLine (n uid idx : Nat) (b : Bridge) : Bridge :=
  let other : Nat → Bool := fun i => decide (i ≠ idx)
  let b := b.modRun n uid (fun r => { r with await := r.await.filter other, hold := r.hold.filter other })
  match b.runningUnit n uid with
  | some r =>
    let last := if r.await.isEmpty then b.finishUnit n uid else b
    match r.unit.kind with
    | .hostRead _ _ _ => last
    | .retriever _ _ _ => last
    | .scrubRead _ _ => last
    | .second _ _ _ _ _ => last
    | _ => b
  | none => b

/-- The stack's fault block of a frame. -/
def stackBlock (f : Nat) : Nat := 0x25 + f / 2 ^ 24 % 2

/-- A correctable error of a near-tier line: counted, and an event of the stack's fault block (R82, R83, R388). -/
def Bridge.nearCorr (n f : Nat) (b : Bridge) : Bridge :=
  (b.modAcc n (fun a => { a with corr := cnt32 a.corr 1 })).note (stackBlock f) 8 (f % 2 ^ 24)

/-- An uncorrectable error of a near-tier line (R84): the frame is reported and released once its dirty lines are home; the line
itself is at home from now on, and where the granule was dirty its loss is marked there with POISON. Answers whether it was. -/
def Bridge.nearUncorr (n inst ln f : Nat) (b : Bridge) : Bool × Bridge :=
  let g := ln / 64
  let dirty := (b.resident n g).any (fun e => decide (e.state = .dirty))
  let b := b.note (stackBlock f) 9 (f % 2 ^ 24)
  if dirty then
    let b := b.modAcc n (fun a => { a with uncorr := cnt32 a.uncorr 1, last := (ln * 64, inst), lastValid := true })
    let b := match b.homePlace n ln with
      | some l => b.rewrite ln l Codeword.bad
      | none => b
    (true, b.leaveFrame g (ln % 64))
  else (false, b.leaveFrame g (ln % 64))

/-- A line of a host read returns from the near tier (R84, R90). -/
def Bridge.hostNear (n uid idx rid f ln gen : Nat) (c : Option Line) (check : LineCheck) (inst : Nat) (b : Bridge) : Bridge :=
  match (b.read rid).map (fun r => (r, r.idxOf ln)) with
  | none => b.gotLine n uid idx
  | some (r, i) =>
    let b := b.gotLine n uid idx
    match check with
    | .uncorrectable =>
      let (dirty, b) := b.nearUncorr n inst ln f
      if dirty then b.linePoison rid i
      else b.enqueue n { id := 0, cls := 2, inst := inst, kind := .hostRead rid i 1, colour := r.colour }
    | _ =>
      let b := if check = .corrected then b.nearCorr n f else b
      if !b.keyOk inst then b.lineMerge rid i 0 true
      else
        let (d, b) := b.plain gen ln c
        b.lineMerge rid i d false

/-- A line of a piece returns from the near tier (R84, R174, R175). -/
def Bridge.pieceNear (n uid idx lane f ln gen : Nat) (c : Option Line) (check : LineCheck) (inst : Nat) (b : Bridge) : Bridge :=
  let b := b.gotLine n uid idx
  match check with
  | .uncorrectable =>
    let (dirty, b) := b.nearUncorr n inst ln f
    if dirty then b.pieceLine n lane ln 0 true
    else b.enqueue n { id := 0, cls := 4, inst := inst, kind := .retriever lane ln 1, port := 2 }
  | _ =>
    let b := if check = .corrected then b.nearCorr n f else b
    if !b.keyOk inst then b.pieceLine n lane ln 0 true
    else
      let (d, b) := b.plain gen ln c
      b.pieceLine n lane ln d false

/-- Change the sealed entry of a line. -/
def Bridge.modSealed (n ln : Nat) (f : WcbEntry → WcbEntry) (b : Bridge) : Bridge :=
  b.modAcc n (fun a => { a with wcb := a.wcb.map (fun e => if e.ln = ln ∧ e.sealed then f e else e) })

/-- The read half of a partial drain is merged: the entry holds the whole line, and the sled write goes out (R84-R86, R89). -/
def Bridge.mergeHalf (n uid ln : Nat) (old : Line) (poison : Bool) (b : Bridge) : Bridge :=
  let b := b.modSealed n ln (fun e =>
    if poison then { e with data := 0, mask := fullMask, poison := true }
    else { e with data := mergeLine e.mask e.data old, mask := fullMask })
  (b.modRun n uid (fun r => { r with await := [] })).flow n uid

/-- The buffered bytes of a drain whose read half is uncorrectable are lost, unless the line's mirror takes them (R84, R558). -/
def Bridge.bytesLost (n ln inst : Nat) (b : Bridge) : Bridge := if b.partnerHolds n ln then b else b.writeLost ln inst

/-- The read half of a drain to a frame is uncorrectable: the line is written with POISON, at its home, and the buffered bytes
are lost (R84, R85, R558). -/
def Bridge.halfLost (n uid ln f : Nat) (inst : Nat) (b : Bridge) : Bridge :=
  let home := b.homePlace n ln
  let b := b.note (stackBlock f) 9 (f % 2 ^ 24)
  let b := (b.leaveFrame (ln / 64) (ln % 64)).bytesLost n ln inst
  match home with
  | some (.sled c g) =>
    let b := b.modRun n uid (fun r => { r with places := [(ln, .sled c g)], hold := [0], through := false, remote := decide (c ≠ n) })
    let b := match b.runningUnit n uid with
      | some r => if c = n then b else b.handOn n r.unit [(c, { out := 1 })]
      | none => b
    b.mergeHalf n uid ln 0 true
  | _ => b.mergeHalf n uid ln 0 true

/-- The read half of a partial drain returns from the near tier (R84, R89). -/
def Bridge.drainNear (n uid ln f gen : Nat) (c : Option Line) (check : LineCheck) (inst : Nat) (b : Bridge) : Bridge :=
  match check with
  | .uncorrectable => b.halfLost n uid ln f inst
  | _ =>
    let b := if check = .corrected then b.nearCorr n f else b
    let (d, b) := b.plain gen ln c
    b.mergeHalf n uid ln d false

/-- A scrub read's line returns from the near tier: an error is handled as R84 states. -/
def Bridge.scrubNear (n uid idx f ln : Nat) (check : LineCheck) (inst : Nat) (b : Bridge) : Bridge :=
  let b := b.gotLine n uid idx
  match check with
  | .uncorrectable => (b.nearUncorr n inst ln f).2
  | .corrected => b.nearCorr n f
  | .good => b

/-- The mirror partner's copy of a line is asked for after a first failure, as a unit of the reader's class at the partner (R84, R97);
answers whether there is one. -/
def Bridge.askPartner (n uid idx cls inst ln : Nat) (loc : Loc) (b : Bridge) : Bool × Bridge :=
  match b.partnerOf n ln with
  | none => (false, b)
  | some c =>
    match b.place c inst ln with
    | .at l =>
      if b.locFenced c l then (false, b)
      else
        (true, (b.modRun n uid (fun r => { r with tried := r.tried ++ [(idx, loc)] })).enqueue c
          { id := 0, cls := cls, inst := if cls = 4 then inst else 0, kind := .second n uid idx ln l, port := if cls = 4 then 2 else 3 })
    | _ => (false, b)

/-- A line read by a lane or the scrubber returns: errors are counted, the line rewritten, or the mirror partner asked (R83, R84). A partner
that is good repairs the first copy; one that fails, or is marked POISON, leaves both marked (log entry 96). Answers what the reader
gets, once it gets something: the codeword, or none for poison. -/
def Bridge.sledLineIn (n uid idx cls inst ln : Nat) (r : Running) (loc : Loc) (w : Codeword) (check : LineCheck) (b : Bridge) :
    Option (Option Codeword) × Bridge :=
  let bad := Codeword.bad
  match (r.tried.find? (fun t => decide (t.1 = idx))).map Prod.snd with
  | some l0 =>
    let part := b.partnerOf n ln
    let there := part.bind (fun c => match b.place c inst ln with
      | .at l => some (c, l)
      | _ => none)
    if check = .uncorrectable then
      let b := (b.countUncorr n ln inst).rewrite ln l0 bad
      (some none, match there with
        | some (c, l) => (b.countUncorr c ln inst).rewrite ln l bad
        | none => b)
    else
      let b := match there, check with
        | some (c, l), .corrected => (b.countCorr c ln inst).rewrite ln l w
        | _, _ => b
      if w.poison then (some none, (b.countUncorr n ln inst).rewrite ln l0 bad)
      else (some (some w), (b.modAcc n (fun a => { a with mirrorFix := cnt32 a.mirrorFix 1 })).rewrite ln l0 w)
  | none =>
    match check with
    | .uncorrectable =>
      let (asked, b) := b.askPartner n uid idx cls inst ln loc
      if asked then (none, b) else (some none, (b.countUncorr n ln inst).rewrite ln loc bad)
    | .corrected => (some (some w), (b.countCorr n ln inst).rewrite ln loc w)
    | .good => (some (some w), b)

/-- A line of a piece returns from a sled (R174, R175). -/
def Bridge.pieceSled (n uid idx lane ln : Nat) (r : Running) (loc : Loc) (w : Codeword) (check : LineCheck) (b : Bridge) : Bridge :=
  let inst := r.unit.inst
  let (v, b) := b.sledLineIn n uid idx 4 inst ln r loc w check
  match v with
  | none => b
  | some none => (b.gotLine n uid idx).pieceLine n lane ln 0 true
  | some (some w) =>
    let b := b.gotLine n uid idx
    if w.poison || !b.keyOk inst then b.pieceLine n lane ln 0 true
    else
      let (d, b) := b.plain r.gen ln (some w.data)
      b.pieceLine n lane ln d false

/-- The read half of a partial drain returns from a sled (R84-R86): an uncorrectable line loses the buffered bytes, and a line
already marked POISON stays so. -/
def Bridge.drainSledIn (n uid ln inst gen : Nat) (w : Codeword) (check : LineCheck) (b : Bridge) : Bridge :=
  match check with
  | .uncorrectable => ((b.countUncorr n ln inst).bytesLost n ln inst).mergeHalf n uid ln 0 true
  | _ =>
    let b := if check = .corrected then b.countCorr n ln inst else b
    if w.poison then b.mergeHalf n uid ln 0 true
    else
      let (d, b) := b.plain gen ln (some w.data)
      b.mergeHalf n uid ln d false

/-- A line of a copy's source returns from a sled, or a clean frame's line from its home (R83, R117, R121). -/
def Bridge.copySledIn (n uid idx c ln : Nat) (loc : Loc) (w : Codeword) (check : LineCheck) (b : Bridge) : Bridge :=
  let b := b.gotLine n uid idx
  match Tbl.find c b.herd.copies with
  | none => b
  | some x =>
    let k := ln % 64
    match check with
    | .uncorrectable =>
      let b := b.countUncorr n ln x.inst
      let b := b.modCopy c (fun x => { x with buf := Tbl.put k Codeword.bad x.buf })
      if x.kind = .promotion then b.promotionFails c k else b
    | _ =>
      let b := if check = .corrected then (b.countCorr n ln x.inst).rewrite ln loc w else b
      let b := b.modCopy c (fun x => { x with buf := Tbl.put k w x.buf })
      if w.poison ∧ x.kind = .promotion then b.promotionFails c k else b

/-- The bytes of a grace-store line over what its sled line reads as; POISON replaces it where the read half is lost or already
marked (R84-R86, R305). -/
def Bridge.graceSledIn (n uid ln : Nat) (w : Codeword) (check : LineCheck) (b : Bridge) : Bridge :=
  match (b.chan n).ll.gstore.find? (fun g => decide (g.ln = ln)) with
  | none => b
  | some g =>
    let lost := decide (check = .uncorrectable)
    let b := if lost then (b.countUncorr g.resCh ln g.inst).bytesLost g.resCh ln g.inst else b
    let b := if check = .corrected then b.countCorr g.resCh ln g.inst else b
    let key := b.keyBits g.gen
    let word : Codeword :=
      if lost || w.poison then Codeword.bad
      else Codeword.of (encryptLine key ln (mergeLine g.mask (decryptLine key ln g.cipher) (decryptLine key ln w.data))) false
    (b.modRun n uid (fun r => { r with await := [], words := [(0, word)] })).flow n uid

/-- The instance that owns a line, as its channel's descriptor has it. -/
def Bridge.ownerOn (n ln : Nat) (b : Bridge) : Nat := ((b.descOn n (ln / 64 / 512)).map (fun d => d.2.inst)).getD 0

/-- A line that a unit reads has returned with its codeword, checked (R82, R90). -/
def Bridge.lineIn (n uid idx : Nat) (w : Codeword) (check : LineCheck) (b : Bridge) : Bridge :=
  match b.runningUnit n uid with
  | none => b
  | some r =>
    match r.places[idx]? with
    | none => b
    | some (ln, loc) =>
      if !r.await.contains idx then b
      else
        match r.unit.kind with
        | .hostRead rid _ _ =>
          let i := ((b.read rid).map (fun x => x.idxOf ln)).getD 0
          (b.gotLine n uid idx).readLine rid i n r.gen loc w check
        | .retriever lane _ _ => b.pieceSled n uid idx lane ln r loc w check
        | .drain _ => b.drainSledIn n uid ln r.unit.inst r.gen w check
        | .copySrc c _ _ =>
          let from? := match loc with
            | .near _ => (b.homePlace n ln).getD loc
            | .sled _ _ => loc
          b.copySledIn n uid idx c ln from? w check
        | .scrubRead _ _ =>
          let (v, b) := b.sledLineIn n uid idx 6 (b.ownerOn n ln) ln r loc w check
          match v with
          | none => b
          | some _ => b.gotLine n uid idx
        | .grace _ _ => b.graceSledIn n uid ln w check
        | _ => b

/-- A line read at a sled has returned (R82, R90): what a second read finds goes to the unit that asked for it (R84, R121). -/
def Bridge.unitLineIn (n uid idx : Nat) (w : Codeword) (check : LineCheck) (b : Bridge) : Bridge :=
  match b.runningUnit n uid with
  | none => b
  | some r =>
    match r.unit.kind with
    | .second c u i _ _ => if r.await.contains idx then (b.gotLine n uid idx).lineIn c u i w check else b
    | _ => b.lineIn n uid idx w check

/-- A second read cannot be made any more (R84, R121, R397): the reader's line is uncorrectable with no copy to repair it, and a copy's line
is marked POISON. -/
def Bridge.secondLost (c u i : Nat) (b : Bridge) : Bridge :=
  let bad := Codeword.bad
  match b.runningUnit c u with
  | none => b
  | some r =>
    match r.unit.kind, r.places[i]? with
    | .copySrc k _ _, some (ln, _) => (b.gotLine c u i).modCopy k (fun x => { x with buf := Tbl.put (ln % 64) bad x.buf })
    | _, _ => b.lineIn c u i bad .uncorrectable

/-- A line of a frame as a codeword: a free one where the frame holds none of its own (log entry 4). -/
def Bridge.nearWord (c : Option Line) (b : Bridge) : Codeword × Bridge :=
  match c with
  | some c => (Codeword.of c false, b)
  | none =>
    let (c, b) := b.freeLine
    (Codeword.of c false, b)

/-- A mirror partner's line is read in the near tier (R84). -/
def Bridge.secondNear (n uid idx f ln c u i : Nat) (x : Option Line) (check : LineCheck) (b : Bridge) : Bridge :=
  let inst := b.ownerOn n ln
  let b := b.gotLine n uid idx
  match check with
  | .uncorrectable => (b.nearUncorr n inst ln f).2.lineIn c u i Codeword.bad .uncorrectable
  | _ =>
    let (d, b) := b.nearWord x
    (if check = .corrected then b.nearCorr n f else b).lineIn c u i d .good

/-- READ_DATA_RETURN: a line of an admitted unit returns from the near tier (R80, R84, R90). It takes effect after the units
admitted earlier on that line (R54). -/
def doReadDataReturn (m : Near) (n uid idx : Nat) (check : LineCheck) (b : Bridge) : Bridge :=
  match b.runningUnit n uid with
  | none => b
  | some r =>
    match r.places[idx]? with
    | some (ln, .near f) =>
      if !r.await.contains idx || b.earlierOn r.seq (ln, .near f) then b
      else
        let c := nearAt m f (ln % 64)
        let inst := r.unit.inst
        match r.unit.kind with
        | .hostRead rid _ _ => b.hostNear n uid idx rid f ln r.gen c check inst
        | .retriever lane _ _ => b.pieceNear n uid idx lane f ln r.gen c check inst
        | .drain _ => b.drainNear n uid ln f r.gen c check inst
        | .scrubRead _ _ => b.scrubNear n uid idx f ln check (b.ownerOn n ln)
        | .second d u i _ _ => b.secondNear n uid idx f ln d u i c check
        | _ => b
    | _ => b

/-- A drain has taken effect at its location or locations: the frame is written, and the entry freed (R89, R91); a write-through of the
dirty ceiling is counted (R136). -/
def Bridge.drainDone (n uid ln : Nat) (r : Running) (b : Bridge) : Bridge :=
  let b := match (b.chan n).acc.sealedEntry ln, r.places.find? (fun l => l.2.link.isNone) with
    | some e, some (_, .near f) => b.land f (ln % 64) (some (b.cipherOf e))
    | _, _ => b
  let mirrored := (b.descOn n (ln / 512 / 64)).any (fun d => d.2.mirror)
  let b := if r.through && !mirrored then b.modHerd (fun h => { h with wtDrain := h.wtDrain + 1 }) else b
  (b.finishUnit n uid).freeEntry n ln

/-- A sled write of a unit still waits to be sent. -/
def Bridge.unsent (r : Running) (b : Bridge) : Bool :=
  !r.hold.isEmpty || r.places.any (fun p => match p.2 with
    | .near _ => false
    | .sled c g => (b.chan c).ll.txq.any (fun m => match m.2 with
      | .wr l _ => decide (l = sledLine g p.1)
      | _ => false))

/-- A corrected line's write-back to a frame takes effect (R117). -/
def Bridge.backDone (r : Running) (b : Bridge) : Bridge :=
  match r.places.head?, Tbl.find 0 r.words with
  | some (ln, .near f), some w => b.land f (ln % 64) (some w.data)
  | _, _ => b

/-- A link part's last slot has passed (R79, R91): a drain's completion is to be reported; a read's part ends once its reads are sent. -/
def Bridge.linkDone (n uid c u : Nat) (b : Bridge) : Bridge :=
  match b.runningUnit c u with
  | none => b.finishUnit n uid
  | some p =>
    match p.unit.kind with
    | .drain _ =>
      if p.await.isEmpty && !b.unsent p then (b.finishUnit n uid).modRun c u (fun p => { p with report := true }) else b
    | _ =>
      let here := p.hold.any (fun i => decide ((p.places[i]?).bind (fun x => x.2.link) = some n))
      if here then b else b.finishUnit n uid

/-- UNIT_COMPLETE: the last slot of an admitted unit has passed, and its access takes effect at its location, after those of the
units admitted before it (R34, R54, R79, R91). A read finishes with its last line, and a drain with a remote link part with that
part's report. -/
def doUnitComplete (n uid : Nat) (b : Bridge) : Bridge :=
  match b.runningUnit n uid with
  | none => b
  | some r =>
    if !r.await.isEmpty || b.unsent r || r.places.any (fun p => b.earlierOn r.seq p) then b
    else
      match r.unit.kind with
      | .drain ln => if r.remote then b else b.drainDone n uid ln r
      | .copySrc _ _ _ => b
      | .copyDst c first k => (b.finishUnit n uid).copyLanded c first k
      | .scrubWb _ _ _ => (b.finishUnit n uid).backDone r
      | .grace ln _ =>
        (b.finishUnit n uid).modLl n (fun l =>
          let rest := l.gstore.filter (fun g => decide (g.ln ≠ ln))
          { l with gstore := rest, gdrain := l.gdrain && !rest.isEmpty })
      | .link c u _ => b.linkDone n uid c u
      | .second c u i _ _ => (b.finishUnit n uid).secondLost c u i
      | _ => b.finishUnit n uid

/-- REMOTE_COMPLETION_REPORT: the location channel's report reaches the resolving channel, which frees the drain's entry (R79,
R91). -/
def doRemoteCompletionReport (n uid : Nat) (b : Bridge) : Bridge :=
  match b.runningUnit n uid with
  | some r =>
    match r.unit.kind with
    | .drain ln =>
      if r.report && r.await.isEmpty && !r.places.any (fun p => b.earlierOn r.seq p) then b.drainDone n uid ln r else b
    | _ => b
  | none => b

/-- A line of a clean frame that cannot be read there is read from its home, as a class 5 unit (R84, R121); once. -/
def Bridge.copyFromHome (n uid idx ln f : Nat) (b : Bridge) : Bridge :=
  match b.homePlace n ln, b.runningUnit n uid with
  | some (.sled c g), some r =>
    if b.chFenced c || r.tried.any (fun t => decide (t.1 = idx)) then b
    else
      (b.modRun n uid (fun r => { r with tried := r.tried ++ [(idx, .near f)] })).enqueue c
        { id := 0, cls := 5, inst := r.unit.inst, kind := .second n uid idx ln (.sled c g), port := 1 }
  | _, _ => b

/-- A copy's line is read in its frame (R108, R121): one that is uncorrectable leaves the frame; a dirty one is lost, a clean one is read
from its home. -/
def Bridge.copyNear (m : Near) (n uid idx c l f : Nat) (corr unc : LineMask) (b : Bridge) : Bridge :=
  match Tbl.find c b.herd.copies with
  | none => b
  | some x =>
    let ln := x.gran * 64 + l
    let asked := (b.runningUnit n uid).any (fun r => r.tried.any (fun t => decide (t.1 = idx)))
    if asked then b
    else if b.leftFrame x.gran l then b.copyFromHome n uid idx ln f
    else if unc.getLsbD l then
      let b := (b.note (stackBlock f) 9 (f % 2 ^ 24)).leaveFrame x.gran l
      if x.dirtied.getLsbD l || ((b.homePlace n ln).bind Loc.link).all b.chFenced then
        (b.gotLine n uid idx).modCopy c (fun x => { x with buf := Tbl.put l Codeword.bad x.buf })
      else b.copyFromHome n uid idx ln f
    else
      let b := if corr.getLsbD l then b.nearCorr n f else b
      let (w, b) := b.nearWord (nearAt m f l)
      (b.gotLine n uid idx).modCopy c (fun x => { x with buf := Tbl.put l w x.buf })

/-- COPY_DATA_ARRIVE: a copy unit's data reaches its destination (R108, R117, R118, R121). From the near tier the lines are read now; masks
name the lines that come corrected and uncorrectable. -/
def doCopyDataArrive (m : Near) (n uid : Nat) (corr unc : LineMask) (b : Bridge) : Bridge :=
  match b.runningUnit n uid with
  | none => b
  | some r =>
    match r.unit.kind with
    | .copySrc c first k =>
      match Tbl.find c b.herd.copies with
      | none => b.finishUnit n uid
      | some x =>
        if x.dst.link.any b.chFenced || r.places.any (fun p => b.earlierOn r.seq p) then b
        else
          let b := match x.src with
            | .sled _ _ => b
            | .near f => b.each r.await (fun idx b => b.copyNear m n uid idx c (first + idx) f corr unc)
          match b.runningUnit n uid with
          | some r => if r.await.isEmpty then (b.finishUnit n uid).copyOut r c first k else b
          | none => b
    | _ => b

/-- SCRUB_READ_START: the scrubber hands a class 6 read of up to min(8, rsv6) lines of one granule to the scheduler (R36, R57);
none while it is fenced (R388). -/
def doScrubReadStart (n first lines : Nat) (b : Bridge) : Bridge :=
  let s := (b.chan n).sch
  let most := s.unitMost b.glb.shares.2.2
  if b.chFenced n || s.scrubOff || lines = 0 || most < lines || first / 64 ≠ (first + lines - 1) / 64
      || (b.descOn n (first / 64 / 512)).isNone then b
  else b.enqueue n { id := 0, cls := 6, inst := 0, kind := .scrubRead first lines, port := 3 }

/-- ONLINE_SELF_TEST_STEP: a step of the background test is handed over as a class 6 unit of at most min(8, rsv6) slots, or as an
exclusive window of at most 24 FCLK (R36, R57, R58); a step that fails is an event of its unit's fault block, and the last step of a pass over every unit is counted (R503, R506). -/
def doOnlineSelfTestStep (n : Nat) (window : Bool) (cost : Slots) (failed : Option (Nat × Nat)) (last : Bool) (b : Bridge) : Bridge :=
  let b := if last then { b with pwr := { b.pwr with stCycles := cnt32 b.pwr.stCycles 1 } } else b
  let s := (b.chan n).sch
  let most := if window then 24 else s.unitMost b.glb.shares.2.2
  let b := match failed with
    | some (k, src) => b.note k src 0
    | none => b
  if b.chFenced n || most < cost.out || most < cost.inb || most < cost.eng then b
  else b.enqueue n { id := 0, cls := 6, inst := 0, kind := if window then .window cost else .selfTest cost, port := 3 }

end Sys2Proof.Machine
end

