-- ==== Sys2Proof/Machine/HostReq.lean ====
section
/-! DEFINITION. Window and CXL.mem requests: acceptance, instance and segment, the Leash, entering writes, starting reads, the
requests held at the port (R66-R70, R86-R92, R96-R100, R109, R151, R214, R218-R223, R233, R237, R322, R326-R328, R397). -/

namespace Sys2Proof.Machine

open Sys2Proof

/-- AER bits: the positions of the status registers (R237; those of the PCI Express Base Specification, log entry 25). -/
def aerPoisoned : Nat := 12
def aerCplTimeout : Nat := 14
def aerUnexpected : Nat := 16
def aerMalformed : Nat := 18
def aerUnsupported : Nat := 20
def aerInternal : Nat := 22

/-- Error bits of PF0's Status are set (R197; the bits are those of the Base Specification, log entry 25). -/
def Bridge.setStatus (k : Nat) (b : Bridge) : Bridge := b.modPort (fun p => { p with status := putBit p.status k true })

/-- An error bit of PF0's Device Status is set (R198; log entry 25): 0 correctable, 1 non-fatal, 2 fatal, 3 Unsupported Request. -/
def Bridge.setDevStatus (k : Nat) (b : Bridge) : Bridge := b.modPort (fun p => { p with devStatus := putBit p.devStatus k true })

/-- An error message, 0 correctable, 1 non-fatal, 2 fatal, under PF0's Device Control enables and SERR# Enable (R238; the bits
are those of the Base Specification, log entry 25). -/
def Bridge.errMsg (fn sev : Nat) (b : Bridge) : Bridge :=
  let cfg := (b.func 0).cfg
  let devCtl := (Tbl.get 0 26 cfg).toNat
  let serr := decide (sev ≠ 0) && bitOf (Tbl.get 0 1 cfg).toNat 8
  if bitOf devCtl sev || serr then (b.when serr (·.setStatus 14)).emit (.errMsg fn sev) else b

/-- An uncorrectable AER error: the status bit is set, the first error's pointer and header are kept, and its message is sent
unless it is masked (R237, R238). An advisory error of non-fatal severity sends ERR_COR instead. -/
def Bridge.aerUnc (bit fn : Nat) (advisory : Bool) (b : Bridge) : Bridge :=
  let a := b.port.aer
  let masked := bitOf a.uncMask bit
  let fatal := bitOf a.uncSev bit
  let a' := { a with
    unc := putBit a.unc bit true
    first := if a.hdrValid || masked then a.first else bit
    hdr := if a.hdrValid || masked then a.hdr else fn
    hdrValid := a.hdrValid || !masked
    cor := if advisory && !fatal then putBit a.cor 13 true else a.cor }
  let b := (b.modPort (fun p => { p with aer := a' })).setDevStatus (if fatal then 2 else if advisory then 0 else 1)
  let b := (b.when (decide (bit = aerUnsupported)) (·.setDevStatus 3)).when (decide (bit = aerPoisoned ∧ fn = 0)) (·.setStatus 15)
  if masked then b
  else if advisory && !fatal then (if bitOf a.corMask 13 then b else b.errMsg fn 0)
  else b.errMsg fn (if fatal then 2 else 1)

/-- A correctable AER error (R237). -/
def Bridge.aerCor (bit : Nat) (b : Bridge) : Bridge :=
  let b := (b.modPort (fun p => { p with aer := { p.aer with cor := putBit p.aer.cor bit true } })).setDevStatus 0
  if bitOf b.port.aer.corMask bit then b else b.errMsg 0 0

/-- A function exists (R205): PF0, or an enabled VF. -/
def Bridge.exists (fn : Nat) (b : Bridge) : Bool := decide (fn = 0) || (b.port.vfEnable && decide (fn ≤ b.port.numVfs))

/-- A function takes memory requests: it exists, its Memory Space Enable is set, it is not in D3hot and no FLR of it runs (R216,
R218). -/
def Bridge.takesMemory (fn : Nat) (b : Bridge) : Bool :=
  b.exists fn && (if fn = 0 then (b.func 0).mse else b.port.vfMse) && decide ((b.func fn).power ≠ 3) && decide ((b.func 0).power ≠ 3) && !(b.func fn).flr

/-- The window BAR of a function claims an offset (R203, R204, R218): PF0's is of the size taken at start-up, a VF's of the window limit. -/
def Bridge.inWindow (fn addr : Nat) (b : Bridge) : Bool := decide (addr < 2 ^ (if fn = 0 then b.port.bar2Log else b.ten.vfLimit))

/-- An Unsupported Request (R218, R237). -/
def Bridge.unsupported (fn : Nat) (posted : Bool) (tag : Nat) (b : Bridge) : Bridge :=
  let b := (b.modPort (fun p => { p with ur := cnt32 p.ur 1 })).aerUnc aerUnsupported fn (!posted)
  if posted then b else b.emit (.cpl fn tag 1 [] false)

/-- A Malformed TLP is discarded and counted (R222, R237). -/
def Bridge.malformed (fn : Nat) (b : Bridge) : Bridge :=
  ((b.modPort (fun p => { p with malformed := cnt32 p.malformed 1 })).aerUnc aerMalformed fn false).note 0x24 9 0

/-- The window of an instance is open: full or degraded service (R21). -/
def Bridge.memoryServed (b : Bridge) : Bool := decide (2 ≤ b.glb.level) && !b.ten.fenced

/-- The policer marks a request of `len` bytes (R326-R328): the colour, and the policer after. -/
def Policer.mark (on rfc4115 : Bool) (pre len : Nat) (p : Policer) : Colour × Policer :=
  let n := len + p.overhead
  let pre := if p.aware then pre else 0
  if !on then (.green, { p with green := p.green + n })
  else if rfc4115 then
    if pre = 0 ∧ n ≤ p.tc then (.green, { p with tc := p.tc - n, green := p.green + n })
    else if pre ≠ 2 ∧ n ≤ p.tp then (.yellow, { p with tp := p.tp - n, yellow := p.yellow + n })
    else (.red, { p with red := p.red + n })
  else if pre = 2 ∨ p.tp < n then (.red, { p with red := p.red + n })
  else if pre = 1 ∨ p.tc < n then (.yellow, { p with tp := p.tp - n, yellow := p.yellow + n })
  else (.green, { p with tp := p.tp - n, tc := p.tc - n, green := p.green + n })

/-- Bytes a policer has metered, of every colour (R348). -/
def Policer.total (p : Policer) : Nat := p.green + p.yellow + p.red

/-- Meter a request of an instance in one direction (R326, R151, R348). -/
def Bridge.meter (inst : Nat) (write : Bool) (pre len : Nat) (b : Bridge) : Colour × Bridge :=
  let i := b.inst inst
  let (c, p) := (if write then i.grant.wr else i.grant.rd).mark i.grant.leashOn i.grant.rfc4115 pre len
  let red := decide (c = .red)
  (c, b.modInst inst (fun i =>
    if write then
      let more := p.total - i.grant.wr.total
      { i with grant := { i.grant with wr := p }, wrRedNow := i.wrRedNow || red, wrBytes := i.wrBytes + more }
    else
      let more := p.total - i.grant.rd.total
      { i with grant := { i.grant with rd := p }, rdRedNow := i.rdRedNow || red, rdBytes := i.rdBytes + more }))

/-- A line access of the host is sampled for heat, one in 2^SAMPLE_SHIFT: which ones is open (R109, log entry 4). -/
def Bridge.sample (ln : Nat) (b : Bridge) : Bridge :=
  let (k, b) := b.freeNat
  if k % 2 ^ b.herd.tune.sampleShift = 0 then b.modHerd (fun h => { h with samples := h.samples ++ [ln / 64] }) else b

/-- The instance and segment entry that an address names: window offset of a function in PCI Express mode, DPA in CXL mode (R67,
R69); and the DLA line number of the address's line. -/
def Bridge.segment (cxl : Bool) (fn addr : Nat) (b : Bridge) : Option (Nat × Option SegEntry) :=
  if cxl then
    let s := addr / 2 ^ 30
    match b.ten.inst.find? (fun e => decide (e.2.state = .live ∧ e.2.grant.firstDpa ≤ s ∧ s < e.2.grant.firstDpa + e.2.grant.segs)) with
    | some (i, x) => some (i, b.segAt i (s - x.grant.firstDpa))
    | none => none
  else some (fn, if addr / 2 ^ 30 < 131072 then b.segAt fn (addr / 2 ^ 30) else none)

/-- DLA line number of an address in a segment (R66 step 3). -/
def SegEntry.line (e : SegEntry) (addr : Nat) : Nat := e.dlaSeg * 2 ^ 24 + addr % 2 ^ 30 / 64

/-- An access that has no resolving channel is unbacked (R70). -/
def Bridge.unbackedNone (inst : Option Nat) (detail : Nat) (b : Bridge) : Bridge :=
  let b := b.modTen (fun t => { t with
    unbacked := cnt32 t.unbacked 1, noOwner := if inst.isNone then cnt32 t.noOwner 1 else t.noOwner })
  let b := match inst with
    | some i => b.modInst i (fun x => { x with tagErr := satAdd 255 x.tagErr 1 })
    | none => b
  b.event 0x2F 8 false detail inst

/-- A host read is accepted and its units queued, 1 to 4 lines of one 256-byte block each (R36, R66, R90, R97, R397). -/
def Bridge.startReadReq (cxl : Bool) (fn tag addr len since inst : Nat) (e : SegEntry) (b : Bridge) : Bridge :=
  let (colour, b) := b.meter inst false e.pre (if cxl then 64 else len)
  let ch := e.chan
  let first := e.line addr
  let count := (linesOf (addr % 64) len).length
  let lns := (List.range count).map (· + first)
  let rid := b.port.nextRead
  let snap := fun ln => (b.chan ch).acc.snapshot ln
  let r : HostRead :=
    { fn := fn, inst := inst, cxl := cxl, tag := tag, addr := addr, len := len, colour := colour
      lines := lns.map (fun ln => { ln := ln, ch := some ch, snap := snap ln, since := since }) }
  let b := b.modPort (fun p => { p with reads := p.reads ++ [(rid, r)], nextRead := rid + 1 })
  let b := b.when (r.lines.any (fun l => l.snap.isSome)) (·.modAcc ch (fun a => { a with rdmerge := a.rdmerge + 1 }))
  let b := b.each lns (fun ln b => (b.lookups ch inst ln).sample ln)
  if b.chFenced ch then
    b.each (List.range count) (fun i b =>
      let b := if b.aside rid i ch then b else b.event 0x24 11 false ((first + i) * 64) (some inst)
      b.loseLine rid i ch)
  else
    b.each (blocksOf 4 4096 first count) (fun s b => b.enqueue ch
      { id := 0, cls := 2, inst := inst, kind := .hostRead rid (s.1 - first) s.2, colour := colour })

/-- A read that completes with poison without reaching a channel (R21, R70, R86). -/
def Bridge.poisonRead (cxl : Bool) (fn tag addr len inst : Nat) (b : Bridge) : Bridge :=
  let count := (linesOf (addr % 64) len).length
  b.finishRead b.port.nextRead
    { fn := fn, inst := inst, cxl := cxl, tag := tag, addr := addr, len := len
      lines := (List.range count).map (fun _ => { ln := 0, ch := none, done := some (0, true) }) }

/-- A read reaches the tenancy unit (R66-R70). -/
def Bridge.readReq (cxl : Bool) (fn tag addr len since : Nat) (b : Bridge) : Bridge :=
  if !b.memoryServed then b.poisonRead cxl fn tag addr len fn
  else
    match b.segment cxl fn addr with
    | none => (b.unbackedNone none addr).poisonRead cxl fn tag addr len 0
    | some (i, some e) =>
      if e.valid ∧ e.inst = i then b.startReadReq cxl fn tag addr len since i e
      else (b.unbackedNone (some i) addr).poisonRead cxl fn tag addr len i
    | some (i, none) => (b.unbackedNone (some i) addr).poisonRead cxl fn tag addr len i

/-- The channels whose buffers a write of a line enters: both copies' where the segment is mirrored (R88, R96). -/
def SegEntry.writeChans (e : SegEntry) : List Nat := if e.mirrored then [e.res.1, e.alt.1] else [e.res.1]

/-- What the screening of a write's lines has come to: the lines to enter, and the channels on which it has been counted as unbacked. -/
structure Screened where
  /-- lines to enter: channel, line, mask, bytes -/
  go : List (Nat × Nat × LineMask × Line) := []
  /-- R70: channels on which the access has been counted as unbacked -/
  unbacked : List Nat := []

/-- What becomes of a write of one line on one of its channels before it is entered: entered, or discarded with its counts, an unbacked
write once on each channel (R70, R73, R325, R397). -/
def Bridge.screen (ch inst : Nat) (mirrored : Bool) (l : Nat × LineMask × Line) (x : Screened × Bridge) : Screened × Bridge :=
  let ln := l.1
  let b := x.2.lookups ch inst ln
  let unb : Bool → Screened × Bridge := fun m =>
    if x.1.unbacked.contains ch then (x.1, b)
    else ({ x.1 with unbacked := x.1.unbacked ++ [ch] }, b.unbackedOn ch inst ln m (!x.1.unbacked.isEmpty))
  match b.place ch inst ln with
  | .unbacked m => unb m
  | .frozen => (x.1, b.event ch 31 false (ln * 64) (some inst))
  | .at p =>
    if !b.keyOk inst then unb false
    else if b.locFenced ch p then (x.1, if mirrored then b else b.event 0x24 11 false (ln * 64) (some inst))
    else ({ x.1 with go := x.1.go ++ [(ch, l)] }, b)

/-- Screen every line of a write on every channel (R88, R96). -/
def Bridge.screenAll (inst : Nat) (e : SegEntry) (ls : List (Nat × LineMask × Line)) (b : Bridge) :
    List (Nat × Nat × LineMask × Line) × Bridge :=
  let x := ls.foldl (fun x l => e.writeChans.foldl (fun x ch => Bridge.screen ch inst e.mirrored l x) x) (({} : Screened), b)
  (x.1.go, x.2)

/-- Enter as many of a write's lines as have room, in order; a mirrored line enters both buffers together (R88, R92, R96). `seen` are the
channels on which the write has been counted (R103). Answers them, and what is left. -/
def Bridge.enterSome (inst gen : Nat) (colour : Colour) (poison : Bool) :
    Nat → List Nat → List (Nat × Nat × LineMask × Line) → Bridge → List Nat × List (Nat × Nat × LineMask × Line) × Bridge
  | 0, seen, ls, b => (seen, ls, b)
  | _, seen, [], b => (seen, [], b)
  | fuel + 1, seen, (ch, ln, m, d) :: t, b =>
    let same := t.takeWhile (fun x => decide (x.2.1 = ln))
    let group := (ch, ln, m, d) :: same
    if group.all (fun x => (b.chan x.1).acc.room x.2.1 inst) then
      let b := b.each group (fun x b => b.enterLine x.1 x.2.1 inst gen colour x.2.2.1 x.2.2.2 poison (!seen.contains x.1))
      let b := b.countTlm (fun t => { t with hostWr := t.hostWr + 1 })
      b.enterSome inst gen colour poison fuel (seen ++ group.map Prod.fst) (t.drop same.length)
    else (seen, (ch, ln, m, d) :: t, b)

/-- A stride in which a write waits for an entry is counted once on its channel (R92, R103). -/
def Bridge.countWait (ch : Nat) (b : Bridge) : Bridge :=
  b.modAcc ch (fun a => if a.waited then a else { a with waited := true, full := cnt32 a.full 1 })

/-- The channels whose buffers have no entry for the first line that a write has still to enter: each counts the wait (R92, log entry 102). -/
def Bridge.fullFor (b : Bridge) (inst : Nat) (ls : List (Nat × Nat × LineMask × Line)) : List Nat :=
  match ls with
  | [] => []
  | x :: t => ((x :: t.takeWhile (fun y => decide (y.2.1 = x.2.1))).map Prod.fst).filter (fun n => !(b.chan n).acc.room x.2.1 inst)

/-- Lines of a waiting write whose channel has been fenced meanwhile are discarded: a mirrored line's other copy takes its bytes (R97, R397). -/
def Bridge.dropFenced (inst : Nat) (ls : List (Nat × Nat × LineMask × Line)) (b : Bridge) : Bridge :=
  b.each (ls.filter (fun x => b.chFenced x.1 && !(b.segOfLine x.2.1).any (fun e => e.2.mirrored)))
    (fun x b => b.event 0x24 11 false (x.2.1 * 64) (some inst))

/-- Enter a write's lines; answers whether all of it is entered, else the rest waits at the port (R92). -/
def Bridge.enterWrite (inst gen : Nat) (colour : Colour) (ls : List (Nat × Nat × LineMask × Line)) (poison : Bool)
    (ack : Option Nat) (seen : List Nat) (b : Bridge) : Option PortReq × Bridge :=
  let b := b.dropFenced inst ls
  let (seen, rest, b) := b.enterSome inst gen colour poison 4096 seen (ls.filter (fun x => !b.chFenced x.1))
  match rest with
  | [] =>
    match ack with
    | some t =>
      let dl := ((ls.head?).map (fun x => (b.chan x.1).sch.devload)).getD 0
      (none, b.emit (.cmp t dl))
    | none => (none, b)
  | _ => (some (.enter inst gen colour rest poison ack seen), b.each (b.fullFor inst rest) (fun n b => b.countWait n))

/-- The write that waits at the port's head waits in the stride that opens too (R92). -/
def Bridge.waitTick (b : Bridge) : Bridge :=
  match b.port.held with
  | (_, .enter inst _ _ ls _ _ _) :: _ => b.each (b.fullFor inst ls) (fun n b => b.countWait n)
  | _ => b

/-- A write reaches the tenancy unit (R66-R70, R86, R88). An unbacked or discarded CXL.mem write is acknowledged all the same. -/
def Bridge.writeReq (cxl : Bool) (fn addr : Nat) (ls : List (Nat × LineMask × Line)) (len : Nat) (poison : Bool)
    (ack : Option Nat) (b : Bridge) : Option PortReq × Bridge :=
  let ackNow : Bridge → Bridge := fun b => match ack with
    | some t => b.emit (.cmp t 0)
    | none => b
  if !b.memoryServed then (none, ackNow b)
  else
    match b.segment cxl fn addr with
    | none => (none, ackNow (b.unbackedNone none addr))
    | some (i, none) => (none, ackNow (b.unbackedNone (some i) addr))
    | some (i, some e) =>
      if e.valid ∧ e.inst = i then
        let (colour, b) := b.meter i true e.pre (if cxl then 64 else len)
        let base := e.line addr
        let ls := ls.map (fun l => (base + (l.1 - addr / 64), l.2))
        let b := b.each ls (fun l b => b.sample l.1)
        let (go, b) := b.screenAll i e ls
        b.enterWrite i (b.inst i).gen colour go poison ack []
      else (none, ackNow (b.unbackedNone (some i) addr))

/-- The lines of a posted write with their masks and bytes; lines that no byte enable names are left out (R222). -/
def writeLines (addr : Nat) (data : List Byte) (be : List Bool) : List (Nat × LineMask × Line) :=
  ((linesOf addr data.length).map (fun ln => (ln, linePart addr data be ln))).filter (fun l => decide (l.2.1 ≠ 0))

/-- A request of the port runs; answers what of it must wait. -/
def Bridge.runReq (q : PortReq) (b : Bridge) : Option PortReq × Bridge :=
  match q with
  | .write fn addr data be ep =>
    let ls := writeLines addr data be
    if ls.isEmpty then (none, b) else b.writeReq false fn addr ls data.length ep none
  | .read fn tag addr len t => (none, b.readReq false fn tag addr len t)
  | .flush fn tag _ => (none, b.emit (.cpl fn tag 0 (List.replicate 4 0) false))
  | .cxlWrite tag addr data be poison =>
    if be = 0 then (none, b.emit (.cmp tag (match b.segment true 0 addr with
      | some (_, some e) => (b.chan e.chan).sch.devload
      | _ => 0))) else b.writeReq true 0 addr [(addr / 64, be, data)] 64 poison (some tag)
  | .cxlRead tag addr t => (none, b.readReq true 0 tag (addr / 64 * 64) 64 t)
  | .enter inst gen colour ls poison ack seen => b.enterWrite inst gen colour ls poison ack seen

/-- What a request takes of the VC0 receive buffer (R219): posted, and data credits of 16 bytes; none for what does not come as a TLP. -/
def PortReq.credit : PortReq → Option (Bool × Nat)
  | .write _ _ data _ _ => some (true, ceilDiv data.length 16)
  | .read _ _ _ _ _ => some (false, 0)
  | .flush _ _ _ => some (false, 0)
  | _ => none

/-- Header and data credits that the requests waiting in the receive buffer keep (R219). -/
def HostPort.creditUse (p : HostPort) (posted : Bool) : Nat × Nat :=
  let mine := p.rxBuf.filter (fun e => e.2.1 == posted && p.held.any (fun h => decide (h.1 = e.1)))
  (mine.length, (mine.map (fun e => e.2.2)).foldl (· + ·) 0)

/-- The host holds the credits for one more request (R219). -/
def HostPort.hasCredit (p : HostPort) (posted : Bool) (data : Nat) : Bool :=
  let use := p.creditUse posted
  if posted then decide (use.1 < 128) && decide (use.2 + data ≤ 2048) else decide (use.1 < 256) && decide (use.2 + data ≤ 64)

/-- A request that arrives without a credit for it is a Receiver Overflow, and lost (R219, R237). -/
def Bridge.withCredit (posted : Bool) (data : Nat) (f : Bridge → Bridge) (b : Bridge) : Bridge :=
  if b.port.hasCredit posted data then f b else b.aerUnc 17 0 false

/-- A request is held at the port, with its credits (R88, R219). -/
def Bridge.hold (k : Nat) (q w : PortReq) (b : Bridge) : Bridge :=
  b.modPort (fun p =>
    { p with
      held := p.held ++ [(k, w)]
      rxBuf := match q.credit with
        | some c => p.rxBuf.filter (fun e => p.held.any (fun h => decide (h.1 = e.1))) ++ [(k, c)]
        | none => p.rxBuf })

/-- A request arrives at the port: behind a posted write that waits, it is held (R88, R92). -/
def Bridge.portReq (q : PortReq) (b : Bridge) : Bridge :=
  let k := b.port.nextReq
  let b := b.modPort (fun p => { p with nextReq := k + 1 })
  if b.port.held.isEmpty && !b.pwr.holdOver then
    match b.runReq q with
    | (some w, b) => b.hold k q w
    | (none, b) => b
  else b.hold k q q

/-- Run the held requests, oldest first, as far as they go (R88, R92). -/
def Bridge.releaseHeld : Nat → Bridge → Bridge
  | 0, b => b
  | fuel + 1, b =>
    match b.port.held with
    | [] => b
    | (k, q) :: t =>
      match b.runReq q with
      | (none, b) => (b.modPort (fun p => { p with held := t })).releaseHeld fuel
      | (some w, b) => b.modPort (fun p => { p with held := (k, w) :: t })

/-- WCB_ENTRY_WAIT_END: an entry is free, and the write at the head of the port goes on, with the requests behind it (R88, R92). -/
def doWcbEntryWaitEnd (b : Bridge) : Bridge := b.releaseHeld b.port.held.length

/-- Max_Payload_Size in force for writes to the bridge (R222, R225). -/
def crosses4k (addr len : Nat) : Bool := decide (4096 < addr % 4096 + len)

/-- WINDOW_MEMORY_READ (R66, R218, R222). -/
def doWindowMemoryRead (fn tag addr len : Nat) (b : Bridge) : Bridge :=
  if !b.port.up then b
  else if b.port.cxl || !b.takesMemory fn || !b.inWindow fn addr then b.unsupported fn false tag
  else if 4096 < len || crosses4k addr len then b.malformed fn
  else b.withCredit false 0 (·.portReq (if len = 0 then .flush fn tag addr else .read fn tag addr len b.glb.time))

/-- WINDOW_MEMORY_WRITE (R86, R88, R218, R222). -/
def doWindowMemoryWrite (fn addr : Nat) (data : List Byte) (be : List Bool) (ep : Bool) (b : Bridge) : Bridge :=
  if !b.port.up then b
  else if b.port.cxl || !b.takesMemory fn || !b.inWindow fn addr then b.unsupported fn true 0
  else if b.mpsBytes < data.length || crosses4k addr data.length then b.malformed fn
  else b.withCredit true (ceilDiv data.length 16) (fun b =>
    let b := b.modPort (fun p => { p with rxWr := p.rxWr + data.length, poisonRx := if ep then cnt32 p.poisonRx 1 else p.poisonRx })
    let b := if ep then b.aerUnc aerPoisoned fn true else b
    b.portReq (.write fn addr data be ep))

/-- Interleave ways of a decoder (R212). -/
def Hdm.ways (d : Hdm) : Nat := 2 ^ d.iw

/-- Interleave granularity of a decoder in bytes (R212). -/
def Hdm.gran (d : Hdm) : Nat := 256 * 2 ^ d.ig

/-- DPA bytes of a decoder (R213). -/
def Hdm.dpaSize (d : Hdm) : Nat := d.size / d.ways

/-- Start of decoder `i`'s DPA range: each range starts at the end of the one before plus its DPA Skip (R213). -/
def HostPort.dpaBase (p : HostPort) : Nat → Nat
  | 0 => (Tbl.get ({} : Hdm) 0 p.hdm).skip
  | i + 1 => p.dpaBase i + (Tbl.get ({} : Hdm) i p.hdm).dpaSize + (Tbl.get ({} : Hdm) (i + 1) p.hdm).skip

/-- The DPA that an HPA decodes to (R214). -/
def HostPort.dpa (p : HostPort) (hpa : Nat) : Option Nat :=
  if !p.hdmEnable then none
  else
    match (List.range 8).find? (fun i =>
      let d := Tbl.get ({} : Hdm) i p.hdm
      d.committed && decide (d.base ≤ hpa) && decide (hpa < d.base + d.size)) with
    | none => none
    | some i =>
      let d := Tbl.get ({} : Hdm) i p.hdm
      let off := hpa - d.base
      some (p.dpaBase i + off / (d.gran * d.ways) * d.gran + off % d.gran)

/-- CXL.mem requests reach the bridge: CXL mode, link up (R190). -/
def Bridge.takesCxl (b : Bridge) : Bool := b.port.up && b.port.cxl

/-- CXL.mem is served: 32 GT/s or more, and Mem_Enable (R191, R209); else every request is unbacked. -/
def HostPort.memActive (p : HostPort) : Bool := p.cxl && decide (4 ≤ p.rate) && p.memEnable

/-- The DPA of a CXL.mem request; none where it is unbacked (R191, R209, R214). -/
def Bridge.dpaServed (b : Bridge) (hpa : Nat) : Option Nat :=
  if b.port.memActive && decide (b.port.memAt ≠ some b.glb.time) then b.port.dpa hpa else none

/-- CXL_MEMRD and CXL_MEMRDDATA (R100, R214, R233). -/
def Bridge.cxlRead (tag hpa : Nat) (b : Bridge) : Bridge :=
  if !b.takesCxl then b
  else
    match b.dpaServed hpa with
    | some a => b.portReq (.cxlRead tag a b.glb.time)
    | none => (b.unbackedNone none hpa).poisonRead true 0 tag 0 64 0

/-- CXL_MEMWR and CXL_MEMWRPTL (R86, R100, R214, R233, R234). -/
def Bridge.cxlWrite (tag hpa : Nat) (data : Line) (be : LineMask) (poison : Bool) (b : Bridge) : Bridge :=
  if !b.takesCxl then b
  else
    let b := b.modPort (fun p => { p with rxWr := p.rxWr + 64, poisonRx := if poison then cnt32 p.poisonRx 1 else p.poisonRx })
    match b.dpaServed hpa with
    | some a => b.portReq (.cxlWrite tag a data be poison)
    | none => (b.unbackedNone none hpa).emit (.cmp tag 0)

/-- CXL_M2S_OTHER: logged in the RAS capability as a protocol error and discarded (R233, R239). -/
def doCxlM2sOther (b : Bridge) : Bridge :=
  if !b.takesCxl then b
  else (b.modPort (fun p => { p with ras := putBit p.ras 9 true })).aerUnc aerInternal 0 false

/-- CXL_MEMSPECRD: accepted and ignored (R233). -/
def doCxlMemspecrd (b : Bridge) : Bridge := b

end Sys2Proof.Machine
end

