-- ==== Sys2Proof/Machine/Herder.lean ====
section
/-! DEFINITION. The Herder's movements and write-back: heat, promotion, demotion, relocation, evacuation moves, retirement (R108-R116,
R120-R127). -/

namespace Sys2Proof.Machine

open Sys2Proof

/-- A heat after one decay: it loses 1/2^DECAY_SHIFT, at least 1 (R110). -/
def Herder.decayed (h : Herder) (v : Nat) : Nat := v - Nat.max 1 (v / 2 ^ h.tune.decayShift)

/-- The heat of a granule, a decay that is due taken (R109, R110). -/
def Bridge.heat (b : Bridge) (g : Nat) : Nat :=
  let v := Tbl.get 0 g b.herd.heat
  if b.herd.decayDue then b.herd.decayed v else v

/-- HEAT_DECAY: where the stride's tick makes it due, every non-zero heat decays, once; entries at 0 are freed (R110, R111). -/
def doHeatDecay (b : Bridge) : Bridge :=
  if b.herd.decayDue then
    b.modHerd (fun h => { h with decayDue := false, heat := (Tbl.mapv (fun _ v => h.decayed v) h.heat).filter (fun e => decide (e.2 ≠ 0)) })
  else b

/-- The tick makes a decay due at multiples of 2^DECAY_PERIOD (R110). -/
def Bridge.decayTick (b : Bridge) : Bridge :=
  b.modHerd (fun h => { h with decayDue := decide (b.stride % 2 ^ h.tune.decayPeriod = 0) })

/-- Sets of a stack's heat store: 2,097,152 entries in 8 ways (R111). -/
def heatSets : Nat := 262144

/-- The entries of the heat store that share a granule's set: those of granules not resident (R111). -/
def Herder.heatSet (stackOfG : Nat → Nat) (g : Nat) (h : Herder) : Tbl Nat :=
  h.heat.filter (fun e => decide (e.1 ≠ g) && decide (Config.heatSet e.1 % heatSets = Config.heatSet g % heatSets)
    && decide (stackOfG e.1 = stackOfG g) && !h.dir.any (fun d => decide (d.1 = e.1)))

/-- A granule with heat `v` takes an entry of the heat store: a free one of its set, or that of the lowest heat where that is 1 (R111).
Answers whether it got one. -/
def Herder.enterHeat (stackOfG : Nat → Nat) (g v : Nat) (h : Herder) : Bool × Herder :=
  let set := h.heatSet stackOfG g
  if set.length < 8 then (true, { h with heat := Tbl.put g v h.heat })
  else
    match set.find? (fun e => decide (e.2 = 1)) with
    | some (j, _) => (true, { h with heat := Tbl.put g v (Tbl.del j h.heat) })
    | none => (false, { h with heat := Tbl.del g h.heat })

/-- One sample raises a granule's heat; one that gets no entry of the heat store is discarded (R109, R111). -/
def Herder.heatUp (stackOfG : Nat → Nat) (g : Nat) (h : Herder) : Herder :=
  match Tbl.find g h.heat with
  | some v => { h with heat := Tbl.put g (satAdd 255 v 1) h.heat }
  | none =>
    if h.dir.any (fun e => decide (e.1 = g)) then { h with heat := Tbl.put g 1 h.heat }
    else
      let (got, h) := h.enterHeat stackOfG g 1
      if got then h else { h with heatEvict := cnt32 h.heatEvict 1 }

/-- The samples of the last stride are applied at the tick (R109); the latest sample of each extent is remembered (R125). -/
def Bridge.applySamples (b : Bridge) : Bridge :=
  let st := fun g => stackOf (b.resChOf g)
  b.modHerd (fun h => { (h.samples.foldl (fun h g =>
    { (h.heatUp st g) with sampleNo := h.sampleNo + 1, sampledAt := Tbl.put (g / 512) (h.sampleNo + 1) h.sampledAt }) h) with samples := [] })

/-- A granule is in some movement, a demotion that its next tick is to bring among them (R112, R113). -/
def Bridge.moving (b : Bridge) (g : Nat) : Bool :=
  b.herd.copies.any (fun e => decide (e.2.gran = g)) || (Tbl.find g b.herd.dir).any (fun e => e.demote)

/-- A channel may be given a new copy: link up, unfenced (R122). -/
def Bridge.copyChan (b : Bridge) (n : Nat) : Bool := b.linkOpen n && decide (n < 16)

/-- The counts of copies leave room for one more between two channels: 64 as source, 64 as destination, 1,024 in all (R120). -/
def Bridge.copyCounts (b : Bridge) (src dst : Nat) : Bool :=
  decide ((b.herd.copies.filter (fun e => decide (e.2.srcCh = src))).length < 64)
    && decide ((b.herd.copies.filter (fun e => decide (e.2.dstCh = dst))).length < 64)
    && decide (b.herd.copies.length < 1024)

/-- A movement may start between two channels: the counts leave room (R120), and a journal copy is available (R23). -/
def Bridge.copyRoom (b : Bridge) (src dst : Nat) : Bool := b.copyCounts src dst && b.journalUp && b.awake && !b.pwr.thermHold

/-- A copy whose switch is journaled may start besides: the journal holds no changes back (R442). -/
def Bridge.moveRoom (b : Bridge) (src dst : Nat) : Bool := b.copyRoom src dst && !b.jrn.hold

/-- The Herder works: running, not fenced (R23, R121). -/
def Bridge.herderOn (b : Bridge) : Bool := b.herd.running && !b.herd.fenced

/-- A copy starts with its masks at zero and issues its first unit (R117, R120). -/
def Bridge.beginCopy (x : Copy) (b : Bridge) : Bridge :=
  let c := b.herd.nextCopy
  (b.modHerd (fun h => { h with copies := h.copies ++ [(c, x)], nextCopy := c + 1 })).issueCopy c 0

/-- PROMOTION_START: a granule of heat PROMOTE or more, or of a PIN_NEAR extent, starts its copy into a free frame (R112, R113,
R130). -/
def doPromotionStart (g frame : Nat) (b : Bridge) : Bridge :=
  let ch := b.resChOf g
  match b.descOn ch (g / 512) with
  | none => b
  | some (key, d) =>
    match b.homeOf key d g with
    | none => b
    | some (hc, hg) =>
      let wanted := decide (b.herd.tune.promote ≤ b.heat g) || d.pinNear
      let allowed := !d.keepFar && (!d.noMigrate || d.pinNear)
      let can := wanted && allowed && b.herderOn && decide (d.state ≠ 3) && !b.moving g && !b.herd.dir.any (fun e => decide (e.1 = g))
        && b.copyChan hc && b.copyChan ch && !b.chFenced ch && !(b.chan hc).herd.evac
      if !can then b
      else if (b.inst d.inst).grant.quota ≤ b.residentOf d.inst then b.modHerd (fun h => { h with quotaBlock := cnt32 h.quotaBlock 1 })
      else if b.frameFree frame && decide (frame / 2 ^ 24 = stackOf ch) && b.copyRoom hc ch then
        (b.modHerd (fun h => { h with dir := Tbl.put g { frame := frame, inst := d.inst, resCh := ch } h.dir })).beginCopy
          { kind := .promotion, gran := g, inst := d.inst, srcCh := hc, dstCh := ch, src := .sled hc hg, dst := .near frame }
      else b

/-- A resident granule may be demoted (R114, R130). -/
def Bridge.mayDemote (g : Nat) (e : DirEntry) (d : Desc) (b : Bridge) : Bool :=
  let stack := e.frame / 2 ^ 24
  let free := b.freeFrames stack
  let colder := (b.herd.dir.filter (fun x => decide (x.2.frame / 2 ^ 24 = stack) && decide (x.2.state ≠ .filling)
    && decide (b.heat x.1 < b.heat g) && !((b.descOn x.2.resCh (x.1 / 512)).any (fun y => y.2.pinNear)))).length
  !d.pinNear && !d.noMigrate
    && (decide (b.heat g ≤ b.herd.tune.demote) || d.keepFar || (decide (free < 16384) && decide (colder < 16384 - free)))

/-- DEMOTION_START: a clean resident granule is chosen for release at the next tick (R112, R114). -/
def doDemotionStart (g : Nat) (b : Bridge) : Bridge :=
  match Tbl.find g b.herd.dir with
  | some e =>
    match b.descOn e.resCh (g / 512) with
    | some (_, d) =>
      if e.state = .clean && b.herderOn && !b.moving g && b.mayDemote g e d then b.modDir g (fun e => { e with demote := true }) else b
    | none => b
  | none => b

/-- A granule's residency ends: its frame is reserved until FCLK 128, and its heat moves to the heat store, where it is kept as a new entry
is, or lost (R111, R112, R119, log entry 97). -/
def Bridge.endResidency (g : Nat) (e : DirEntry) (b : Bridge) : Bridge :=
  let st := fun g => stackOf (b.resChOf g)
  let b := b.modHerd (fun h =>
    let h := { h with dir := Tbl.del g h.dir }
    match Tbl.find g h.heat with
    | some v => (h.enterHeat st g v).2
    | none => h)
  b.reserveLoc (.near e.frame) false

/-- The demotions and emptied frames due at a tick (R85, R114). A granule that a copy has is left to it. -/
def Bridge.applyDemotions (b : Bridge) : Bridge :=
  b.each b.herd.dir (fun x b =>
    match Tbl.find x.1 b.herd.dir with
    | some e =>
      if b.herd.copies.any (fun c => decide (c.2.gran = x.1)) then b
      else if e.state = .clean ∧ e.dirty = 0 ∧ e.demote then
        (b.endResidency x.1 e).modHerd (fun h => { h with demotes := h.demotes + 1 })
      else if e.leaving ∧ e.dirty = 0 ∧ e.wbFlight = 0 ∧ e.state ≠ .filling then b.endResidency x.1 e
      else b
    | none => b)

/-- A movement of a granule needs an exception entry, and its bucket has none free (R75, R123). -/
def Bridge.bucketLacks (ch g : Nat) (d : Desc) (toOwn : Bool) (b : Bridge) : Bool :=
  !toOwn && !d.bitmap.getLsbD (g % 512) && b.bucketFull ch g

/-- A granule's frame allows a movement of its home: it has none, or one that is neither filling nor being emptied, whose resolving channel may
be given a copy (R112, R122). -/
def Bridge.frameAllows (ch g : Nat) (b : Bridge) : Bool :=
  (Tbl.find g b.herd.dir).all (fun e => decide (e.state ≠ .filling) && !e.leaving && b.copyChan ch)

/-- The start of a movement of a granule's home to a sled granule: a copy where it is not resident, a home move where it is (R112,
R123). `toOwn`: it goes back to its extent's own home and needs no exception entry (R115). -/
def Bridge.startMove (k : CopyKind) (ch g : Nat) (d : Desc) (hc hg dc dg : Nat) (toOwn : Bool) (b : Bridge) : Bridge :=
  let has := d.bitmap.getLsbD (g % 512)
  if b.bucketLacks ch g d toOwn then b.modHerd (fun h => { h with excFull := cnt32 h.excFull 1 })
  else
    let b := if toOwn || has then b
      else b.modHerd (fun h => { h with exc := Tbl.put (excKey ch g) { inst := d.inst, home := (dc, dg), pending := true } h.exc })
    let b := if toOwn then b.ownGran dc dg else if k = .evacuation then b else b.claimGran dc dg
    match b.resident ch g with
    | some e => b.beginCopy { kind := .homeMove, cause := k, gran := g, inst := d.inst, srcCh := ch, dstCh := dc, src := .near e.frame, dst := .sled dc dg }
    | none => b.beginCopy { kind := k, cause := k, gran := g, inst := d.inst, srcCh := hc, dstCh := dc, src := .sled hc hg, dst := .sled dc dg }

/-- Inbound use of channels averages out so that channel `a` exceeds the mean of the unfenced ones by more than BAL_SPREAD percent,
and `z` is below the mean (R115). -/
def Bridge.outOfBalance (b : Bridge) (a z : Nat) : Bool :=
  let live := channels.filter (fun n => !b.chFenced n)
  let sum := (live.map (fun n => (b.chan n).herd.inbAvg)).foldl (· + ·) 0
  decide (sum * (100 + b.herd.tune.balSpread) < (b.chan a).herd.inbAvg * live.length * 100)
    && decide ((b.chan z).herd.inbAvg * live.length < sum)

/-- The checks of a relocation (R115, R122, R130), the exception bucket apart. -/
def Bridge.mayRelocate (g dc dg : Nat) (d : Desc) (hc : Nat) (b : Bridge) : Bool :=
  let ch := b.resChOf g
  b.herderOn && b.frameAllows ch g && decide (b.herd.tune.balEnable = 1) && b.outOfBalance hc dc && !d.mirror && !d.noMigrate && decide (d.state ≠ 3)
    && !b.moving g && b.copyChan hc && b.copyChan dc && !b.chFenced ch && decide (hc ≠ dc) && !(b.chan dc).herd.evac && !(b.chan hc).herd.evac
    && b.granFree dc dg && decide (b.capExts dc * 512 ≤ b.freeOutside dc * 100) && decide (0 < b.freeOutside dc) && b.moveRoom hc dc

/-- RELOCATION_START: a balancing relocation of a granule to a granule of another channel (R115, R120, R123). -/
def doRelocationStart (g dc slot : Nat) (b : Bridge) : Bridge :=
  let ch := b.resChOf g
  match b.descOn ch (g / 512) with
  | none => b
  | some (key, d) =>
    match b.homeOf key d g with
    | none => b
    | some (hc, hg) =>
      if b.mayRelocate g dc slot d hc then
        b.startMove .relocation ch g d hc hg dc slot (decide ((dc, slot) = (d.home.1, d.home.2 * 512 + g % 512)))
      else b

/-- A granule of some other extent that leaves first: a poisoned frame being emptied has its dirty lines written back ahead of
every other write-back of the channel (R85). -/
def Bridge.leaversFirst (hc : Nat) (b : Bridge) : Bool :=
  b.herd.dir.any (fun e => e.2.leaving && decide (e.2.dirty ≠ 0) && !b.moving e.1 && decide (b.homeCh e.2.resCh e.1 = hc))

/-- WRITEBACK_START: the dirty lines of a resident granule start on their way home (R108). A fenced Herder does not stop it
(R23). -/
def doWritebackStart (g : Nat) (b : Bridge) : Bridge :=
  match Tbl.find g b.herd.dir with
  | none => b
  | some e =>
    match b.homeLoc e.resCh g with
    | none => b
    | some (hc, hg) =>
      let src := if b.chFenced e.resCh then hc else e.resCh
      if e.state = .dirty && decide (e.dirty ≠ 0) && !b.moving g && b.copyChan hc && b.copyCounts src hc && (b.awake || decide (b.jrn.step ≠ 0)) && (e.leaving || !b.leaversFirst hc) then
        b.beginCopy { kind := .writeBack, gran := g, inst := e.inst, srcCh := src, dstCh := hc, src := .near e.frame
                      dst := .sled hc hg, want := e.dirty }
      else b

/-- The extents homed on a sled that an evacuation has to move: valid, not mirrored (R125). -/
def Bridge.evacExts (b : Bridge) (n : Nat) : List (Nat × Desc) :=
  b.herd.desc.filter (fun e => e.2.valid && !e.2.mirror && decide (e.2.home.1 = n))

/-- Granules still homed on a sled that an evacuation has to move (R125, HRD_CHn_EVAC_LEFT). -/
def Bridge.evacLeft (b : Bridge) (n : Nat) : Nat :=
  let own := ((b.evacExts n).map (fun e =>
    512 - ((List.range 512).filter (fun k => e.2.bitmap.getLsbD k
      && (Tbl.find (excKey (e.1 / 2 ^ 22) (e.2.ext * 512 + k)) b.herd.exc).any (fun x => decide (x.home.1 ≠ n)))).length)).foldl (· + ·) 0
  let moved := (b.herd.exc.filter (fun e => decide (e.2.home.1 = n) && !e.2.pending
    && (b.descOn (e.1 / 2 ^ 35) (e.1 % 2 ^ 35 / 512)).any (fun d => !d.2.mirror && decide (d.2.home.1 ≠ n)))).length
  own + moved

/-- Free granules of the other unfenced channels, reserves included (R125). -/
def Bridge.evacRoom (b : Bridge) (n : Nat) : Nat :=
  ((channels.filter (fun c => decide (c ≠ n) && !b.chFenced c)).map b.freeGrans).foldl (· + ·) 0

/-- A channel may take extents of an evacuation of sled `n` (R122, R124). -/
def Bridge.evacChan (n c : Nat) (b : Bridge) : Bool := decide (c ≠ n) && b.copyChan c && !(b.chan c).herd.evac

/-- Whole free extents of a channel's sled that an evacuation may take now: outside the reserve while some destination channel has one
there (R125). -/
def Bridge.evacFree (n c : Nat) (b : Bridge) : Nat :=
  if !b.evacChan n c then 0
  else
    let whole := b.capExts c - (b.extsOf c).length
    if channels.any (fun x => b.evacChan n x && decide (512 ≤ b.freeOutside x) && decide ((b.extsOf x).length < b.capExts x))
    then Nat.min whole (b.freeOutside c / 512) else whole

/-- One more extent on channel `dc` keeps the evacuation of sled `n` in proportion to the channels' free capacity: its share, rounded up
(R126, log entry 107). -/
def Bridge.evacShare (n dc : Nat) (b : Bridge) : Bool :=
  let took := fun (c : Nat) => Tbl.get 0 c (b.chan n).herd.took
  let size := fun (c : Nat) => if b.evacFree n c = 0 then 0 else b.evacFree n c + took c
  let live := channels.filter (fun c => decide (size c ≠ 0))
  let all := (live.map size).foldl (· + ·) 0
  let done := (live.map took).foldl (· + ·) 0
  decide (took dc * all < (done + 1) * size dc)

/-- A destination extent of an evacuation may be taken on a channel (R125, R126). -/
def Bridge.evacDst (n dc x : Nat) (b : Bridge) : Bool := b.extFree dc x && decide (b.evacFree n dc ≠ 0) && b.evacShare n dc

/-- An automatic evacuation takes the most recently sampled extents first: none that may start now was sampled after this one (R125). -/
def Bridge.evacTurn (n : Nat) (d : Desc) (b : Bridge) : Bool :=
  let last := fun (x : Nat) => Tbl.get 0 x b.herd.sampledAt
  !(b.chan n).herd.auto || (b.evacExts n).all (fun e => e.2.evac.isSome || decide (e.2.state = 3) || decide (last e.2.ext ≤ last d.ext))

/-- A destination extent is taken: what of it the channel has no room for outside its reserve counts as reserve in use (R20, R125). -/
def Bridge.takeDst (n key dc x : Nat) (b : Bridge) : Bridge :=
  let inReserve := 512 - b.freeOutside dc
  let b := b.modHerd (fun h => { h with desc := h.desc.map (fun e => if e.1 = key then (e.1, { e.2 with evac := some (dc, x) }) else e) })
  let b := b.modHc n (fun h => { h with took := Tbl.put dc (Tbl.get 0 dc h.took + 1) h.took })
  b.modExt dc x (fun e => { e with whole := true, resv := BitVec.ofNat 512 (2 ^ inReserve - 1) })

/-- EVACUATION_MOVE_START: a granule of an evacuating sled starts for its extent's destination extent, which the first of them
allocates; a granule moved there from another sled's extent goes home, and one that stands elsewhere joins its extent's (R112, R123, R126).
A dirty granule homed on a fenced channel is moved too (R137). -/
def doEvacuationMoveStart (g dc x : Nat) (b : Bridge) : Bridge :=
  let ch := b.resChOf g
  match b.descOn ch (g / 512) with
  | none => b
  | some (key, d) =>
    match b.homeOf key d g with
    | none => b
    | some (n, hg) =>
      let rescue := b.chFenced n && !b.chFenced ch && (b.resident ch g).any (fun e => e.counts)
      let ok := b.herderOn && ((b.chan n).herd.evac || d.evac.isSome || rescue) && !d.mirror && !b.moving g && (b.copyChan n || rescue)
        && decide (d.state ≠ 3) && b.frameAllows ch g
      if !ok then b
      else
        match d.evac with
        | some (ec, ex) =>
          if b.copyChan ec && b.moveRoom n ec && decide ((n, hg / 512) ≠ (ec, ex)) then b.startMove .evacuation ch g d n hg ec (ex * 512 + g % 512) false else b
        | none =>
          if d.home.1 ≠ n then
            if b.copyChan d.home.1 && !(b.chan d.home.1).herd.evac && b.moveRoom n d.home.1 && b.granFree d.home.1 (d.home.2 * 512 + g % 512)
            then b.startMove .evacuation ch g d n hg d.home.1 (d.home.2 * 512 + g % 512) true else b
          else
            let busy := ((b.evacExts n).filter (fun e => e.2.evac.isSome)).length
            if busy < 8 && !(b.chan n).herd.stopping && b.evacDst n dc x && b.moveRoom n dc && (rescue || b.evacTurn n d) then
              (b.takeDst n key dc x).startMove .evacuation ch g d n hg dc (x * 512 + g % 512) false
            else b

/-- Retirement of a granule into its own sled's reserve, which source `s` of block `k` calls for (R112, R116): a free granule of the sled is
taken, which one is open (log entry 4), and the sparing is logged (R17). One whose bucket is full waits for an entry (R123). -/
def Bridge.retire (g k s : Nat) (b : Bridge) : Bridge :=
  let ch := b.resChOf g
  match b.descOn ch (g / 512) with
  | none => b
  | some (key, d) =>
    match b.homeOf key d g with
    | none => b
    | some (hc, hg) =>
      let ok := b.herderOn && !bitOf b.glb.veto 5 && !b.moving g && b.copyChan hc && b.moveRoom hc hc && !(b.chan hc).herd.evac
        && decide (0 < b.reserveLeft hc) && decide (d.state ≠ 3) && b.frameAllows ch g
      if !ok then b
      else if b.bucketLacks ch g d false then
        b.modHerd (fun h => { h with excFull := cnt32 h.excFull 1, retireWait := h.retireWait.filter (fun w => decide (w.1 ≠ g)) ++ [(g, k, s)] })
      else
        let cap := b.capExts hc * 512
        let (r, b) := b.freeNat
        match (List.range (Nat.min cap (512 * ((b.extsOf hc).length + 1)))).find? (fun j => b.granFree hc ((r + j) % cap)) with
        | some j =>
          let b := ((b.reserveGran hc ((r + j) % cap)).modFs k s (fun x => { x with sparing := true })).spareLog k s (g * 4096)
          b.startMove .retirement ch g d hc hg hc ((r + j) % cap) false
        | none => b

/-- EXC_BUCKET_RETRY: an entry in the granule's bucket is free again, and the movement that waited for it starts (R123). -/
def doExcBucketRetry (g dc slot : Nat) (b : Bridge) : Bridge :=
  if b.bucketFull (b.resChOf g) g then b
  else
    match b.herd.retireWait.find? (fun w => decide (w.1 = g)) with
    | some (_, k, s) => (b.modHerd (fun h => { h with retireWait := h.retireWait.filter (fun w => decide (w.1 ≠ g)) })).retire g k s
    | none =>
      if (b.chan (b.homeCh (b.resChOf g) g)).herd.evac then doEvacuationMoveStart g dc (slot / 512) b else doRelocationStart g dc slot b

/-- The one extent in which all 512 granules of a moved extent have their homes, where no movement of them is in progress: the extent is to be
folded there (R75, R126). -/
def Bridge.foldHome (key : Nat) (d : Desc) (b : Bridge) : Option (Nat × Nat) :=
  match b.homeOf key d (d.ext * 512) with
  | none => none
  | some (c, g) =>
    let here := (List.range 512).all (fun k => decide (b.homeOf key d (d.ext * 512 + k) = some (c, g / 512 * 512 + k)))
    let busy := b.herd.copies.any (fun x => decide (x.2.gran / 512 = d.ext) && decide (x.2.kind ≠ .writeBack))
    if d.bitmap ≠ 0 ∧ here ∧ !busy then some (c, g / 512) else none

/-- Prepare the folds that are due (R75, R126). -/
def Bridge.prepareFolds (b : Bridge) : Bridge :=
  b.each b.herd.desc (fun e b =>
    if e.2.bitmap ≠ 0 && (b.foldHome e.1 e.2).isSome && !b.citan.prepared.any (fun p => decide (p.change = .fold e.1)) then b.prepare (.fold e.1) 3
    else b)

/-- A fold takes effect: HOME changes, REMAP clears, the exception entries are freed, and so is the old extent; the extent's evacuation is
complete (R124, R126). -/
def Bridge.foldExtent (key : Nat) (b : Bridge) : Bridge :=
  match Tbl.find key b.herd.desc with
  | none => b
  | some d =>
    match b.foldHome key d with
    | none => b
    | some (ec, ex) =>
      let b := b.modDesc key (fun d => { d with home := (ec, ex), bitmap := 0, evac := none, state := if d.state = 2 then 0 else d.state })
      let b := b.modHerd (fun h => { h with exc := h.exc.filter (fun e => !(decide (e.1 / 2 ^ 35 = key / 2 ^ 22) && decide (e.1 % 2 ^ 35 / 512 = d.ext))) })
      let b := match d.evac with
        | some (c, x) => if (c, x) = (ec, ex) then b else b.freeExt c x
        | none => b
      let b := if d.home = (ec, ex) then b else (b.freeExt d.home.1 d.home.2).modExt ec ex SledExt.own
      { b with citan := { b.citan with ops := b.citan.ops.map (fun o =>
          if o.running ∧ (o.op = 0x0307 ∨ o.op = 0x0702) ∧ o.obj % 65536 = d.home.1 then { o with count := o.count + 1, progress := o.progress + 1 } else o) } }

/-- Extents of a sled whose evacuation ends before they were begun have STATE 0 again (R124, R370). -/
def Bridge.normalExts (n : Nat) (b : Bridge) : Bridge :=
  b.modHerd (fun h => { h with desc := Tbl.mapv (fun _ d =>
    if d.valid && decide (d.home.1 = n) && decide (d.state = 2) && d.evac.isNone then { d with state := 0, gen := (d.gen + 1) % 2 ^ 32 } else d) h.desc })

end Sys2Proof.Machine
end

