-- ==== Sys2Proof/Machine/Mailbox.lean ====
section
/-! DEFINITION. Mailboxes, notifications, asynchronous operations, responses to Citan commands, and hardware semaphores
(R329-R337, R350-R362). -/

namespace Sys2Proof.Machine

open Sys2Proof

/-- Slot `k` of a mailbox. -/
def Mailbox.slot (m : Mailbox) (k : Nat) : Slot := Tbl.get {} k m.slots

/-- Change slot `k`. -/
def Mailbox.modSlot (k : Nat) (f : Slot → Slot) (m : Mailbox) : Mailbox := { m with slots := Tbl.put k (f (m.slot k)) m.slots }

/-- MBX_DONE (R344). -/
def Mailbox.done (m : Mailbox) : Nat :=
  packBits (fun k => decide ((m.slot k).state = .done)) 8 + (if m.notifyFull then 256 else 0)

/-- Vector 0 is raised when a bit of MBX_DONE becomes 1 while its enable is set (R332). -/
def Bridge.mbxIrq (fn : Nat) (enabled : Bool) (b : Bridge) : Bridge := if enabled then b.raise fn 0 else b

/-- MAILBOX_DOORBELL: slots that are FREE are posted, in ascending order; a bit for another slot sets DB_ERR (R330). -/
def doMailboxDoorbell (fn mask : Nat) (b : Bridge) : Bridge :=
  b.each (setBits mask 8) (fun k b =>
    if ((b.mbx fn).slot k).state = .free then
      let o := b.ten.nextOrder
      (b.modTen (fun t => { t with nextOrder := o + 1 })).modMbx fn (fun m => m.modSlot k (fun s => { s with state := .posted, order := o }))
    else b.modMbx fn (fun m => { m with dbErr := true }))

/-- MAILBOX_COMMAND_WRITE: a word of a FREE slot's command buffer; in another state it is discarded and sets WR_ERR (R330). -/
def doMailboxCommandWrite (fn slot word value : Nat) (b : Bridge) : Bridge :=
  if 64 ≤ word then b
  else if ((b.mbx fn).slot slot).state = .free then
    b.modMbx fn (fun m => m.modSlot slot (fun s => { s with cmd := Tbl.put word (BitVec.ofNat 32 value) s.cmd }))
  else b.modMbx fn (fun m => { m with wrErr := true })

/-- MAILBOX_DONE_ACK: DONE slots become FREE (R330, R344). -/
def doMailboxDoneAck (fn mask : Nat) (b : Bridge) : Bridge :=
  b.modMbx fn (fun m => (setBits mask 8).foldl (fun m k =>
    if (m.slot k).state = .done then m.modSlot k (fun s => { s with state := .free }) else m) m)

/-- NOTIFY_ACK: the notification is acknowledged, and the next one that waits is written (R331, R414). -/
def doNotifyAck (fn : Nat) (b : Bridge) : Bridge :=
  let m := b.mbx fn
  if !m.notifyFull then b
  else
    match m.waiting with
    | [] => b.modMbx fn (fun m => { m with notifyFull := false })
    | w :: t =>
      ((b.modMbx fn (fun m => { m with notify := (List.range 64).zip w, waiting := t })).level 898 true).mbxIrq fn m.notifyIrq

/-- MAILBOX_CTRL_WRITE: the enables; one set while its bit is already 1 raises the vector once (R332, R344). -/
def doMailboxCtrlWrite (fn value : Nat) (b : Bridge) : Bridge :=
  let m := b.mbx fn
  let r := bitOf value 0
  let n := bitOf value 1
  let fire := (r && !m.respIrq && decide (m.done % 256 ≠ 0)) || (n && !m.notifyIrq && m.notifyFull)
  (b.modMbx fn (fun m => { m with respIrq := r, notifyIrq := n })).mbxIrq fn fire

/-- A notification for a function (R331, R361). -/
def Bridge.notify (fn kind tag : Nat) (data : List Byte) (b : Bridge) : Bridge :=
  let bytes := leBytes 2 kind ++ leBytes 2 data.length ++ leBytes 4 tag ++ leBytes 8 b.glb.time ++ leBytes 8 b.stride ++ data
  let words := (List.range 64).map (fun k => BitVec.ofNat 32 (fieldAt (4 * k) 4 bytes))
  let m := b.mbx fn
  if !m.notifyFull then
    (b.modMbx fn (fun m => { m with notify := bufOf bytes, notifyFull := true })).mbxIrq fn m.notifyIrq
  else if m.waiting.length < 8 then b.modMbx fn (fun m => { m with waiting := m.waiting ++ [words] })
  else b.modMbx fn (fun m => { m with notifyLost := true })

/-- A function's mailbox is reset (R333). -/
def Bridge.resetMbx (fn : Nat) (b : Bridge) : Bridge := b.modTen (fun t => { t with mbx := Tbl.del fn t.mbx })

/-- Operations remembered: those running, and the last 64 that ended (R360). -/
def keepOps (ops : List Operation) : List Operation :=
  let ended := (ops.filter (fun o => !o.running)).length
  (ops.foldl (fun (x : Nat × List Operation) o =>
    if !o.running && decide (x.1 ≠ 0) then (x.1 - 1, x.2) else (x.1, x.2 ++ [o])) (ended - 64, [])).2

/-- An operation ends: it is recorded, and OPERATION_DONE goes to the function that issued it (R360-R362). -/
def Bridge.endOp (o : Operation) (status : Nat) (data : List Byte) (b : Bridge) : Bridge :=
  let b := { b with citan := { b.citan with ops := keepOps (b.citan.ops.map (fun x =>
    if x = o then { x with running := false, status := status, progress := 0, endStride := b.stride } else x)) } }
  if o.mute then b
  else b.notify o.fn 1 o.tag (leBytes 2 o.op ++ leBytes 1 status ++ leBytes 1 0 ++ bytesAt 0 12 data)

/-- The running operation of an opcode on an object (R360). -/
def Bridge.opOn (b : Bridge) (op obj : Nat) : Option Operation :=
  b.citan.ops.find? (fun o => o.running && decide (o.op = op) && decide (o.obj = obj))

/-- A function is reset: its running operations keep going without a notification (R362). -/
def Bridge.muteOps (fn : Nat) (b : Bridge) : Bridge :=
  { b with citan := { b.citan with ops := b.citan.ops.map (fun o => if o.fn = fn ∧ o.running then { o with mute := true } else o) } }

/-- A command's slot still holds it (R333, R362). -/
def Bridge.slotHolds (r : CmdRef) (b : Bridge) : Bool :=
  let s := (b.mbx r.fn).slot r.slot
  decide (s.order = r.order) && (decide (s.state = .posted) || decide (s.state = .running))

/-- The response to a command is written in full and its slot is DONE (R330, R351); nothing where the mailbox was reset. Which
core ran it is open (log entry 4). -/
def Bridge.respond (r : CmdRef) (status detail stride : Nat) (results : List Byte) (b : Bridge) : Bridge :=
  if !b.slotHolds r then b
  else
    let (k, b) := b.freeNat
    let core := (b.liveCores[k % b.liveCores.length]?).getD 0
    let bytes := leBytes 2 r.op ++ leBytes 1 status ++ leBytes 1 detail ++ leBytes 4 r.tag ++ leBytes 2 results.length
      ++ leBytes 1 core ++ leBytes 5 0 ++ leBytes 8 stride ++ results
    let irq := (b.mbx r.fn).respIrq
    (b.modMbx r.fn (fun m => m.modSlot r.slot (fun s => { s with state := .done, rsp := bufOf bytes }))).mbxIrq r.fn irq

/-- Resident firmware has taken a command, which is answered later (R330). -/
def Bridge.taken (r : CmdRef) (b : Bridge) : Bridge :=
  b.modMbx r.fn (fun m => m.modSlot r.slot (fun s => if s.state = .posted then { s with state := .running } else s))

/-- Semaphore `s`. -/
def Bridge.semOf (b : Bridge) (s : Nat) : Sem := Tbl.get {} s b.ten.sem

/-- Change semaphore `s`. -/
def Bridge.modSem (s : Nat) (f : Sem → Sem) (b : Bridge) : Bridge :=
  b.modTen (fun t => { t with sem := Tbl.put s (f (Tbl.get {} s t.sem)) t.sem })

/-- The fields a semaphore view shows to a function (R345). -/
def Sem.view (s : Sem) (fn : Nat) (broken : Bool) : Nat :=
  if !s.access.getLsbD fn then 4
  else b2n (decide (s.holder = some fn)) + 2 * b2n broken
    + (match s.holder with
      | some h => 8 + 256 * h
      | none => 0)

/-- SEM_ACQUIRE_READ: a read of SEMs_ACQ (R336, R337). -/
def doSemAcquireRead (fn s : Nat) (b : Bridge) : Bridge :=
  let x := b.semOf s
  if !x.access.getLsbD fn then
    (b.modTen (fun t => { t with semDenied := cnt32 t.semDenied 1 })).emit (.regData 4)
  else
    match x.holder with
    | none =>
      let y := { x with holder := some fn, broken := false, relAt := none }
      (b.modSem s (fun _ => y)).emit (.regData (y.view fn x.broken))
    | some _ => b.emit (.regData (x.view fn false))

/-- SEM_RELEASE_WRITE: a write of 1 to SEMs_REL (R336). -/
def doSemReleaseWrite (fn s : Nat) (b : Bridge) : Bridge :=
  if (b.semOf s).holder = some fn then b.modSem s (fun x => { x with holder := none, relAt := some (fn, b.glb.time) })
  else b.modTen (fun t => { t with semBadrel := cnt32 t.semBadrel 1 })

/-- The function that holds a semaphore, or released it by a write in this FCLK (R337). -/
def Sem.heldAt (time : Nat) (s : Sem) : Option Nat :=
  match s.holder, s.relAt with
  | some f, _ => some f
  | none, some (f, t) => if t = time then some f else none
  | none, none => none

/-- A releasing event releases a semaphore with BROKEN where it is held, or was released in the same FCLK (R337). -/
def Bridge.breakSem (s : Nat) (b : Bridge) : Bridge :=
  if ((b.semOf s).heldAt b.glb.time).isSome then
    (b.modSem s (fun x => { x with holder := none, relAt := none, broken := true })).modTen (fun t => { t with semBroken := cnt32 t.semBroken 1 })
  else b

/-- Release every semaphore that a function holds, with BROKEN (R337). -/
def Bridge.breakSems (fn : Nat) (b : Bridge) : Bridge :=
  b.each b.ten.sem (fun e b => if e.2.heldAt b.glb.time = some fn then b.breakSem e.1 else b)

end Sys2Proof.Machine
end

