-- ==== Sys2Proof/Machine/Link.lean ====
section
/-! DEFINITION. The link layer: acknowledgement and replay, credits, initialisation and resume, link down, hold and grace store
(R286-R307). -/

namespace Sys2Proof.Machine

open Sys2Proof

/-- A protocol error is counted, in the register and in the channel's fault block (R298, R388). -/
def Bridge.protoCount (n detail : Nat) (b : Bridge) : Bridge :=
  (b.modLl n (fun l => { l with protoErr := cnt32 l.protoErr 1 })).note n 27 detail

/-- Traffic is held on a link: link state that a flush would clear (R298, R302). -/
def Link.holdsTraffic (l : Link) : Bool :=
  !l.unacked.isEmpty || !l.txq.isEmpty || !l.tags.isEmpty || !l.gstore.isEmpty

/-- Units with a link part on a channel wait or run there. -/
def Bridge.linkWork (n : Nat) (b : Bridge) : Bool :=
  let s := (b.chan n).sch
  let needs : WorkUnit → Bool := fun u =>
    let p := b.planOf n u
    decide (p.cost.out + p.cost.inb ≠ 0)
  s.waiting.any needs || s.running.any (fun r => decide (r.cost.out + r.cost.inb ≠ 0))

/-- The link of a channel goes down (R298, R302): grace where it was up, paused or holds traffic in INIT; no grace after a SAVE
(R307). -/
def Bridge.linkFalls (n : Nat) (b : Bridge) : Bridge :=
  let l := (b.chan n).ll
  let b := b.modSch n (fun s => { s with c := 0, paused := false })
  let fall : LlState → Bridge → Bridge := fun st b =>
    (b.modLl n (fun l => { l with
      state := st, linkDowns := cnt32 l.linkDowns 1, hold := if st = .grace then l.hold else false, holding := decide (st = .grace)
      retrying := false, replaying := false, nonce := none, pmSent := false, rateReq := none, doneSent := false, doneRcvd := false
      param := none, idents := 0, saved := false })).level (48 * n + 3) true
  match l.state with
  | .up => if l.saved then (fall .down b).note n 0 0 else fall .grace b
  | .paused => if l.saved then (fall .down b).note n 0 0 else fall .grace b
  | .init => if l.holdsTraffic || b.linkWork n then fall .grace b else fall .down b
  | _ => b

/-- Taps of a preset: c(-2), c(-1), c(+1) (R259). -/
def presetTaps (k : Nat) : Int × Int × Int :=
  match k with
  | 2 => (0, -4, 0)
  | 3 => (0, -8, -4)
  | 4 => (2, -10, -6)
  | 5 => (0, 0, -8)
  | _ => (0, 0, 0)

/-- A lane's transmitter takes a preset (R259, R273). -/
def Lane.setPreset (k : Nat) (l : Lane) : Lane :=
  let t := presetTaps k
  { l with preset := k, cm2 := t.1, cm1 := t.2.1, cp1 := t.2.2, tapStatus := (0, 0, 0) }

/-- A lane starts a training state: what is counted in it starts afresh (R260). -/
def Lane.restart (l : Lane) : Lane := { l with run := 0, ready := 0, aligned := false }

/-- Lane `k` of a channel. -/
def Phy.ln (p : Phy) (k : Nat) : Lane := Tbl.get {} k p.lane

/-- Change every lane of a channel. -/
def Phy.allLanes (f : Lane → Lane) (p : Phy) : Phy := { p with lane := (List.range 5).map (fun k => (k, f (p.ln k))) }

/-- The lanes start over from DETECT, at rate 0, with offer sets on all five (R260). -/
def Bridge.lanesToDetect (n : Nat) (b : Bridge) : Bridge :=
  let b := b.modPhy n (fun p => { (p.allLanes (fun l =>
      { (l.restart.setPreset p.boardPreset) with locked := false, prbsLock := false, charged := 0, symbols := 0, window := [] })) with
    state := .detect, rate := 0, width := 0, outMap := 0, inMap := 0, idleDone := false, notices := 0, idleSent := false
    idleRcvd := false, starts := 0, rateWait := false, full := true, sledRates := 0, sledRxOk := 0, round := (p.round + 1) % 256 })
  (b.emit (.lanes n (.offerSets 15 0))).level (48 * n + 2) true

/-- The link layer takes the link down (R298): the lanes leave ACTIVE, or a pause, for DETECT. -/
def Bridge.takeDown (n : Nat) (b : Bridge) : Bridge :=
  match (b.chan n).ll.state with
  | .up => (b.lanesToDetect n).linkFalls n
  | .paused => (b.lanesToDetect n).linkFalls n
  | .init => (b.lanesToDetect n).linkFalls n
  | _ => b

/-- A protocol error: counted, and the link is taken down (R298). -/
def Bridge.protoError (n detail : Nat) (b : Bridge) : Bridge := (b.protoCount n detail).takeDown n

/-- The oldest unacknowledged sequence number (R288). -/
def Link.oldest (l : Link) : Nat := (l.unacked.head?.map Prod.fst).getD l.txNext

/-- An ACK is valid: from oldest - 1 to next - 1 (R288). -/
def Link.ackValid (l : Link) (a : Nat) : Bool := decide ((a + 1 + 4096 - l.oldest) % 4096 ≤ (l.txNext + 4096 - l.oldest) % 4096)

/-- An acknowledgement frees the flits it covers (R288). -/
def Link.acked (a : Nat) (l : Link) : Link :=
  let k := (a + 1 + 4096 - l.oldest) % 4096
  { l with unacked := l.unacked.drop k, replayAt := if k = 0 then l.replayAt else (0, 0) }

/-- An acknowledgement arrives. -/
def Bridge.ackIn (n a : Nat) (b : Bridge) : Bridge := (b.modLl n (Link.acked a)).pump n

/-- Send again the unacknowledged flits, unchanged (R289). -/
def Bridge.resend (n : Nat) (b : Bridge) : Bridge := b.emits (((b.chan n).ll.unacked).map (fun f => .htl n f.2.1 f.1 f.2.2))

/-- A replay from the oldest unacknowledged flit (R289): counted; its slots are lost to the stride (R51); four in a row without
progress take the link down. -/
def Bridge.replay (n : Nat) (b : Bridge) : Bridge :=
  let l := (b.chan n).ll
  if l.unacked.isEmpty then b
  else
    let s := l.oldest
    let k := if l.replayAt.2 ≠ 0 ∧ l.replayAt.1 = s then l.replayAt.2 + 1 else 1
    let b := (b.modLl n (fun l => { l with
      replays := cnt32 l.replays 1, replayAt := (s, k), replayTime := b.glb.time, replaying := true })).note n 25 s
    if 4 ≤ k then b.takeDown n
    else (b.resend n).loseSlots n { out := Nat.min (3 * l.unacked.length) (b.chan n).sch.c }

/-- RETRY_REQ_RECEIVE: a replay starts from EXP_SEQ, once what lies before it is acknowledged; one for the same number within
1.5 us of a replay's start is ignored, and so is one in the FCLK in which a replay has begun (R289, R308). -/
def doRetryReqReceive (n exp : Nat) (b : Bridge) : Bridge :=
  let l := (b.chan n).ll
  if l.state ≠ .up ∨ !(decide ((exp + 4096 - l.oldest) % 4096 ≤ (l.txNext + 4096 - l.oldest) % 4096)) then b
  else if l.replayAt.2 ≠ 0 ∧ (l.replayTime = b.glb.time ∨ (l.replayAt.1 = exp ∧ b.glb.time < l.replayTime + 2250)) then b
  else
    let b := b.modLl n (Link.acked ((exp + 4095) % 4096))
    if exp = (b.chan n).ll.txNext then b.pump n else (b.replay n).pump n

/-- REPLAY_TIMER_EXPIRY: 1.5 us without progress; a replay starts from the oldest flit, unless one has begun in the FCLK (R289, R308). -/
def doReplayTimerExpiry (n : Nat) (b : Bridge) : Bridge :=
  let l := (b.chan n).ll
  if l.state ≠ .up ∨ l.unacked.isEmpty then b
  else
    let b' := b.modLl n (fun l => { l with replayTo := cnt32 l.replayTo 1 })
    if l.replayAt.2 ≠ 0 ∧ l.replayTime = b.glb.time then b' else b'.replay n

/-- The receiver asks for a retry (R287). -/
def Bridge.askRetry (n : Nat) (b : Bridge) : Bridge :=
  (b.modLl n (fun l => { l with retrying := true, retryReqs := cnt32 l.retryReqs 1 })).sendRec n (.retryReq (b.chan n).ll.exp)

/-- RETRY_REQ_REPEAT: every 1.5 us while the receiver is in retry (R287). -/
def doRetryReqRepeat (n : Nat) (b : Bridge) : Bridge :=
  let l := (b.chan n).ll
  if l.state = .up ∧ l.retrying then b.askRetry n else b

/-- A received LIMIT is adopted unless it lies behind the current one (R292). -/
def adopt (cur new : Nat) : Nat := if (new + 65536 - cur) % 65536 < 32768 then new % 65536 else cur

/-- LIMITs of a data VC arrive, in a CRED message or a CRED_DATA record (R292). -/
def Bridge.credIn (n v hdr data : Nat) (b : Bridge) : Bridge :=
  (b.modLl n (fun l =>
    let c := l.cred v
    { l with vc := Tbl.put v { c with hdrLimit := adopt c.hdrLimit hdr, dataLimit := adopt c.dataLimit data } l.vc })).pump n

/-- CRED_RECEIVE (R292); a CRED for VC3 is a misdirected message (R298). -/
def doCredReceive (n v hdr data : Nat) (b : Bridge) : Bridge :=
  if (b.chan n).ll.state ≠ .up then b
  else if v = 3 then b.protoError n 0
  else b.credIn n v hdr data

/-- The bridge's LIMITs of a data VC go out, as a CRED_DATA record (R292). -/
def Bridge.tellCred (n v : Nat) (b : Bridge) : Bridge :=
  let c := (b.chan n).ll.cred v
  (b.modLl n (fun l => { l with vc := Tbl.put v { c with hdrTold := c.rxHdr, dataTold := c.rxData } l.vc })).sendRec n (.credData v c.rxHdr c.rxData)

/-- CRED_SEND_TIMER: the bridge's own LIMITs go out (R292). -/
def doCredSendTimer (n : Nat) (b : Bridge) : Bridge :=
  let l := (b.chan n).ll
  if l.state ≠ .up then b else b.each (if 5 ≤ l.count then [1, 4] else [1]) (fun v b => b.tellCred n v)

/-- A management resynchronisation starts (R294). -/
def Bridge.msync (n : Nat) (b : Bridge) : Bridge :=
  let l := (b.chan n).ll
  if l.count < 4 then b
  else (b.modLl n (fun l => { l with nonce := some l.nextNonce, nextNonce := (l.nextNonce + 1) % 256 })).sendHtl n 3 (.msyncReq l.nextNonce)

/-- MSYNC_START: at each tick whose stride is a multiple of 64, once (R294). -/
def doMsyncStart (n : Nat) (b : Bridge) : Bridge :=
  let l := (b.chan n).ll
  if !l.msyncDue then b
  else
    let b := b.modLl n (fun l => { l with msyncDue := false })
    if l.state = .up ∧ l.nonce.isNone then (b.modLl n (fun l => { l with msyncFails := 0 })).msync n else b

/-- MSYNC_TIMEOUT: no answer within 10 us: asked again, and a third failure takes the link down (R294). -/
def doMsyncTimeout (n : Nat) (b : Bridge) : Bridge :=
  let l := (b.chan n).ll
  if l.state = .up ∧ l.nonce.isSome then
    if 2 ≤ l.msyncFails then b.takeDown n
    else (b.modLl n (fun l => { l with msyncFails := l.msyncFails + 1 })).msync n
  else b

/-- MSYNC_REQ_RECEIVE: answered with the free management entries of the bridge (R293, R294). -/
def doMsyncReqReceive (n nonce : Nat) (b : Bridge) : Bridge :=
  let l := (b.chan n).ll
  if l.state ≠ .up then b
  else if l.count < 4 then b.protoError n 0
  else b.sendHtl n 3 (.msyncRsp nonce (16 - l.mgmtUsed))

/-- MSYNC_RSP_RECEIVE: AVAIL is set to FREE; an answer with another NONCE is ignored (R294, R308). -/
def doMsyncRspReceive (n nonce free : Nat) (b : Bridge) : Bridge :=
  let l := (b.chan n).ll
  if l.state ≠ .up ∨ l.nonce ≠ some nonce then b
  else
    (b.modLl n (fun l => { l with
      nonce := none, msyncFails := 0, avail := free % 256, msyncFix := if l.avail = free % 256 then l.msyncFix else cnt32 l.msyncFix 1 })).pump n

/-- MCRED_RECEIVE: management credits return (R294). -/
def doMcredReceive (n returned : Nat) (b : Bridge) : Bridge :=
  let l := (b.chan n).ll
  if l.state ≠ .up then b
  else if l.count < 4 then b.protoError n 0
  else (b.modLl n (fun l => { l with avail := Nat.min 255 (l.avail + returned) })).pump n

/-- A message of the sled takes a header credit, and a data credit for a line; its buffer is freed once it is processed (R292,
R293), and the LIMITs go out when one has advanced by 16. Answers whether the credits were there. -/
def Bridge.takeRx (n v : Nat) (line : Bool) (b : Bridge) : Bool × Bridge :=
  let c := (b.chan n).ll.cred v
  let d := b2n line
  if (c.rxHdr + 65536 - c.rxHdrSeen) % 65536 = 0 ∨ (c.rxData + 65536 - c.rxDataSeen) % 65536 < d then (false, b)
  else
    let c' := { c with
      rxHdrSeen := (c.rxHdrSeen + 1) % 65536, rxHdr := (c.rxHdr + 1) % 65536
      rxDataSeen := (c.rxDataSeen + d) % 65536, rxData := (c.rxData + d) % 65536 }
    let b := b.modLl n (fun l => { l with vc := Tbl.put v c' l.vc })
    (true, if 16 ≤ (c'.rxHdr + 65536 - c'.hdrTold) % 65536 ∨ 16 ≤ (c'.rxData + 65536 - c'.dataTold) % 65536 then b.tellCred n v else b)

/-- A management message of the sled: on VC3 its entry is freed and returned at once, else VC1's credits are used (R290, R294). -/
def Bridge.takeMgmt (n : Nat) (b : Bridge) : Bool × Bridge :=
  if 4 ≤ (b.chan n).ll.count then (true, b.sendHtl n 3 (.mcred 1)) else b.takeRx n 1 false

/-- SREG_RSP_RECEIVE: the answer waits for resident firmware (R283, R414). -/
def doSregRspReceive (n : Nat) (b : Bridge) : Bridge :=
  if (b.chan n).ll.state ≠ .up then b
  else
    let (ok, b) := b.takeMgmt n
    if ok then b.level (48 * n + 5) true else b.protoError n 0

/-- Retire a flit's message kind to the fault source of a sled event (R285, R388). -/
def eventSource (code : Nat) : Nat :=
  match code with
  | 2 => 30
  | 3 => 30
  | 4 => 30
  | 7 => 27
  | _ => 0

/-- EVENT_RECEIVE: a sled's event enters the channel's fault block; event 0x05 says whether a save is guaranteed (R285, R307). -/
def doEventReceive (n code data : Nat) (b : Bridge) : Bridge :=
  if (b.chan n).ll.state ≠ .up then b
  else
    let (ok, b) := b.takeMgmt n
    if !ok then b.protoError n 0
    else
      let b := (b.modLl n (fun l => { l with events := l.events + 1 })).level (48 * n + 4) true
      let b := if code = 5 then b.modLl n (fun l => { l with id := { l.id with energyLow := decide (data = 1) } }) else b
      b.note n (eventSource code) (code * 2 ^ 32 + data % 2 ^ 32)

/-- RDATA_RECEIVE: a line of a read returns with its codeword, whose code is checked; with a STATUS other than OK it counts as
uncorrectable (R82, R90, R284, R291). A line whose TAG is not outstanding, or
that has no credit, is a protocol error; a line of a read that nothing waits for any more is discarded (R309). -/
def doRdataReceive (n tag idx : Nat) (w : Codeword) (status : Nat) (b : Bridge) : Bridge :=
  let l := (b.chan n).ll
  if l.state ≠ .up then b
  else
    match Tbl.find tag l.tags with
    | none => b.protoError n 0
    | some t =>
      if t.len ≤ idx || bitOf t.got idx then b.protoError n 0
      else
        let (ok, b) := b.takeRx n (rspVc l.count t.vc) true
        if !ok then b.protoError n 0
        else
          let t' := { t with got := t.got + 2 ^ idx }
          let b := b.modLl n (fun l => { l with
            tags := if t'.got + 1 = 2 ^ t.len then Tbl.del tag l.tags else Tbl.put tag t' l.tags })
          match t.use with
          | .unit c uid off =>
            let r := if status = 0 then w.read else (.uncorrectable, w)
            b.unitLineIn c uid (off + idx) r.2 r.1
          | .lost => b

/-- Lines of a unit (by their numbers) that its reader is not going to get: host reads and pieces get poison (R175, R303, R306). -/
def Bridge.loseUnitLines (n uid : Nat) (idxs : List Nat) (b : Bridge) : Bridge :=
  match b.runningUnit n uid with
  | none => b
  | some r =>
    b.each (idxs.filter (fun i => r.await.contains i)) (fun i b =>
      let ln := ((r.places[i]?).map Prod.fst).getD 0
      match r.unit.kind with
      | .hostRead rid _ _ =>
        let k := ((b.read rid).map (fun x => x.idxOf ln)).getD 0
        (b.gotLine n uid i).loseLine rid k n
      | .retriever lane _ _ => (b.gotLine n uid i).pieceLine n lane ln 0 true
      | .second c u k _ _ => (b.gotLine n uid i).secondLost c u k
      | _ => b.gotLine n uid i)

/-- The numbers of a unit's lines that lie on a channel's sled. -/
def Running.onLink (r : Running) (c : Nat) : List Nat :=
  (List.range r.places.length).filter (fun i => decide ((r.places[i]?).bind (fun p => p.2.link) = some c))

/-- Units of every channel that run with lines on channel `c`'s sled: channel and unit. -/
def Bridge.unitsOn (c : Nat) (b : Bridge) : List (Nat × Running) :=
  (channels.map (fun n => ((b.chan n).sch.running.filter (fun r => !(r.onLink c).isEmpty)).map (fun r => (n, r)))).flatten

/-- Reads of a unit that are outstanding on a channel serve nothing any more; those not sent are taken back (R303, R309). -/
def Bridge.dropTags (c : Nat) (p : RdTag → Bool) (b : Bridge) : Bridge :=
  b.modLl c (fun l =>
    let gone := (l.tags.filter (fun e => p e.2)).map Prod.fst
    let waits := gone.filter (fun t => l.txq.any (fun m => match m.2 with
      | .rd t' _ _ => decide (t' = t)
      | _ => false))
    { l with
      txq := l.txq.filter (fun m => match m.2 with
        | .rd t _ _ => !waits.contains t
        | _ => true)
      tags := (l.tags.filter (fun e => !waits.contains e.1)).map (fun e => if gone.contains e.1 then (e.1, { e.2 with use := .lost }) else e) })

/-- A read's tag serves a unit. -/
def RdTag.serves (n uid : Nat) (t : RdTag) : Bool :=
  match t.use with
  | .unit c u _ => decide (c = n ∧ u = uid)
  | .lost => false

/-- The parts of a unit on a channel, queued or running, are dropped. -/
def Bridge.dropLinks (c n uid : Nat) (b : Bridge) : Bridge := b.modSch c (Sched.drop (WorkUnit.partOf n [uid]))

/-- A sealed drain moves into a channel's grace store; nothing of it is sent there any more (R304). What it writes in a frame besides goes
on. -/
def Bridge.drainToGrace (c n uid ln : Nat) (b : Bridge) : Bridge :=
  match (b.chan n).acc.sealedEntry ln, b.runningUnit n uid with
  | some e, some r =>
    let near := r.places.filter (fun p => p.2.link.isNone)
    let b := b.takeBack c n uid r
    if near.isEmpty then
      let (isOver, b) := b.toGrace c n e
      if isOver then b.modLl c (fun l => { l with state := .flush }) else b
    else ((b.graceLine c n e).dropLinks c n uid).modRun n uid (fun r => { r with places := near, hold := [], remote := false })
  | _, _ => b

/-- Lines of host reads that wait on channel `c`'s link (R303): resolving channel, read, and the line's number in it. Those asked for, and
those of units not admitted. -/
def Bridge.heldLines (c : Nat) (b : Bridge) : List (Nat × Nat × Nat) :=
  let at0 := fun (rid ln : Nat) => ((b.read rid).map (fun r => r.idxOf ln)).getD 0
  let asked := (b.unitsOn c).map (fun x => match x.2.unit.kind with
    | .hostRead rid _ _ => ((x.2.onLink c).filter (fun i => x.2.await.contains i)).map (fun i =>
        (x.1, rid, at0 rid (((x.2.places[i]?).map Prod.fst).getD 0)))
    | _ => [])
  let queued := channels.map (fun m => ((b.chan m).sch.waiting.map (fun u => match u.kind with
    | .hostRead rid _ _ => ((b.unitLines m u).filter (fun ln => match b.readPlace m u.inst ln with
        | .at l => !b.locFenced m l && decide (l.link = some c)
        | _ => false)).map (fun ln => (m, rid, at0 rid ln))
    | _ => [])).flatten)
  asked.flatten ++ queued.flatten

/-- A held line that no mirror partner is to give (R303). -/
def Bridge.lostHere (b : Bridge) (x : Nat × Nat × Nat) : Bool :=
  ((b.read x.2.1).bind (fun r => r.lines[x.2.2]?)).any (fun l => l.done.isNone && !((b.partnerOf x.1 l.ln).isSome && !l.partner))

/-- READ_HOLD on a channel whose link is down (R303, R304): held host reads end, the link-down source is recorded, mirrored
segments change over at the next tick, and sealed drains move into the grace store. -/
def Bridge.readHold (n : Nat) (b : Bridge) : Bridge :=
  let b := b.modLl n (fun l => { l with hold := true })
  let us := b.unitsOn n
  let host := us.filter (fun x => match x.2.unit.kind with
    | .hostRead _ _ _ => true
    | _ => false)
  let waits := b.heldLines n
  let poisoned := ((waits.filter b.lostHere).map (fun x => x.2.1)).eraseDups.length
  let b := b.modLl n (fun l => { l with holdPoison := cnt32 l.holdPoison poisoned })
  let b := b.each host (fun x b =>
    let left := (x.2.onLink n).filter (fun i => x.2.await.contains i)
    ((b.dropTags n (fun t => t.serves x.1 x.2.unit.id)).dropLinks n x.1 x.2.unit.id).loseUnitLines x.1 x.2.unit.id left)
  let b := b.each waits (fun x b => b.loseLine x.2.1 x.2.2 x.1)
  let b := b.prepare (.onAlt n) 0
  let b := b.note n 26 0
  let drains := us.filter (fun x => match x.2.unit.kind with
    | .drain _ => true
    | _ => false)
  b.each drains (fun x b =>
    match x.2.unit.kind with
    | .drain ln => b.drainToGrace n x.1 x.2.unit.id ln
    | _ => b)

/-- READ_HOLD: 32 us after the link went down (R303). -/
def doReadHold (n : Nat) (b : Bridge) : Bridge :=
  let l := (b.chan n).ll
  if l.state = .grace ∧ !l.hold then b.readHold n else b

/-- LINK_DOWN: the lanes have moved to DETECT, and the link is down (R298, R302). -/
def doLinkDown (n : Nat) (b : Bridge) : Bridge := b.takeDown n

/-- GRACE_EXPIRY: the grace period ends: the link goes to FLUSH, after READ_HOLD if it has not passed (R298, R303); it comes before
an initialisation entered from GRACE in the same FCLK, which then starts afresh (R308). -/
def doGraceExpiry (n : Nat) (b : Bridge) : Bridge :=
  let l := (b.chan n).ll
  if l.state = .grace || (decide (l.state = .init) && l.holding && decide (l.initAt = b.glb.time)) then
    let b := if l.hold then b else b.readHold n
    b.modLl n (fun l => { l with state := .flush, flushFromInit := false })
  else b

/-- OVERRUN_GRACE_EXPIRY: an overrun has lasted longer than the grace period (R51). -/
def doOverrunGraceExpiry (n : Nat) (b : Bridge) : Bridge :=
  if (b.chan n).sch.running.any (fun r => b.overruns n r ((b.chan n).ll.graceUs * 1500)) then b.takeDown n else b

/-- The bridge's counts of virtual channels for the next fresh initialisation (R290). -/
def Link.newCount (l : Link) : Nat := Nat.min (l.vcSet + 1) ((l.param.map (fun p => p.vcs)).getD 8)

/-- The data VCs on which the sled receives, by count (R290). -/
def sledVcs (count : Nat) : List Nat :=
  [0] ++ (if 3 ≤ count then [2] else []) ++ (if 6 ≤ count then [5] else []) ++ (if 7 ≤ count then [6] else []) ++ (if count = 8 then [7] else [])

/-- The lanes have reached ACTIVE from ALIGN: the link initialises (R296). -/
def Bridge.startInit (n : Nat) (b : Bridge) : Bridge :=
  let l := (b.chan n).ll
  let resume := l.holding
  let b := b.modLl n (fun l => { l with
    state := .init, resumeOffered := resume, param := none, idents := 0, doneSent := false, doneRcvd := false, newId := {}
    initAt := b.glb.time })
  let b := b.sendRec n (.initParam resume (l.vcSet + 1) l.txNext l.exp l.graceUs (if 4 ≤ l.vcSet + 1 then 16 else 0))
  let c1 := l.cred 1
  let c4 := l.cred 4
  let b := b.sendRec n (.credData 1 (if resume then c1.rxHdr else 512) (if resume then c1.rxData else 512))
  if 5 ≤ l.vcSet + 1 then b.sendRec n (.credData 4 (if resume then c4.rxHdr else 256) (if resume then c4.rxData else 256)) else b

/-- The bridge refuses the sled (R296): LINK_RESET, an event of PROTO_ERR, and the lanes in DOWN. -/
def Bridge.refuseSled (n why : Nat) (b : Bridge) : Bridge :=
  let b := (b.sendRec n (.linkReset 1)).note n 27 why
  let b := b.linkFalls n
  (b.modPhy n (fun p => { p with state := .down, width := 0 })).modLl n (fun l => { l with id := l.newId, refused := true })

/-- The initialisation resumes (R297). -/
def Link.resumes? (l : Link) (p : InitParam) : Bool :=
  l.resumeOffered && p.resume && decide (l.newId.vendor = l.id.vendor) && decide (l.newId.product = l.id.product)
    && decide (l.newId.serial = l.id.serial)
    && decide ((p.rxExp + 4096 - l.oldest) % 4096 ≤ (l.txNext + 4096 - l.oldest) % 4096)
    && decide ((p.txSeq + 4096 - l.exp) % 4096 ≤ 128)

/-- A fresh session's counters (R297). -/
def Link.fresh (p : InitParam) (l : Link) : Link :=
  let count := l.newCount
  let vc := (Tbl.mapv (fun _ (c : VcCred) => { c with hdrSent := 0, dataSent := 0, rxHdrSeen := 0, rxDataSeen := 0 }) l.vc)
  let vc := Tbl.put 1 { Tbl.get {} 1 vc with rxHdr := 512, rxData := 512, hdrTold := 512, dataTold := 512 } vc
  let vc := if 5 ≤ count then Tbl.put 4 { Tbl.get {} 4 vc with rxHdr := 256, rxData := 256, hdrTold := 256, dataTold := 256 } vc else vc
  { l with vcs := count - 1, txNext := 0, exp := 0, unacked := [], replayAt := (0, 0), vc := vc, avail := p.mgmt, mgmtUsed := 0
           nonce := none, msyncFails := 0, id := l.newId, saved := false, resumed := false, retrying := false, refreshing := false }

/-- The grace store starts to drain after a resume: its lines join the head list, in order (R305). -/
def Bridge.graceDrain (n : Nat) (b : Bridge) : Bridge :=
  let l := (b.chan n).ll
  let s := (b.chan n).sch
  let started : Nat → Bool := fun ln => (s.waiting ++ s.running.map (fun r => r.unit)).any (fun u => match u.kind with
    | .grace k _ => decide (k = ln)
    | _ => false)
  let store := l.gstore.filter (fun g => !started g.ln)
  if store.isEmpty then b
  else
    let base := b.glb.nextUnit
    let us := (List.range store.length).zip store |>.map (fun x =>
      ({ id := base + x.1, cls := 3, inst := x.2.inst, kind := .grace x.2.ln (decide (x.2.mask = fullMask) || x.2.poison), debited := true } : WorkUnit))
    (({ b with glb := { b.glb with nextUnit := base + us.length } }).modLl n (fun l => { l with gdrain := true })).modSch n
      (fun s => { s with head := us ++ s.head, gated := false })

/-- The link comes up (R297, R298): a resume replays from the partner's EXP and drains the grace store; a fresh session starts its
counters; one with traffic held is flushed first. -/
def Bridge.tryUp (n : Nat) (b : Bridge) : Bridge :=
  let l := (b.chan n).ll
  match l.param with
  | none => b
  | some p =>
    if !(l.doneSent && l.doneRcvd && decide (l.state = .init)) then b
    else if l.resumes? p then
      let b := b.modLl n (fun l => { (l.acked ((p.rxExp + 4095) % 4096)) with
        state := .up, resumed := true, resumes := cnt32 l.resumes 1, hold := false, holding := false })
      let b := b.level (48 * n + 3) true
      let b := (b.resend n).msync n
      (b.graceDrain n).pump n
    else if l.holdsTraffic || l.holding then
      let b := if l.hold then b else b.readHold n
      (b.modLl n (fun l => { l with state := .flush, flushFromInit := true })).level (48 * n + 3) true
    else
      let b := b.modLl n (fun l => { (l.fresh p) with state := .up, hold := false, holding := false })
      ((b.level (48 * n + 3) true).msync n).pump n

/-- INIT_DONE goes out once every record of the partner has arrived (R296). -/
def Bridge.checkInit (n : Nat) (b : Bridge) : Bridge :=
  let l := (b.chan n).ll
  if l.state = .init && !l.doneSent && l.param.isSome && bitOf l.idents 0 && bitOf l.idents 1
      && (sledVcs l.newCount).all (fun v => bitOf l.idents (2 + v)) then
    ((b.modLl n (fun l => { l with doneSent := true })).sendRec n .initDone).tryUp n
  else b

/-- INIT_PARAM_RECEIVE (R296): a revision or a count of virtual channels that the bridge does not take refuses the sled. -/
def doInitParamReceive (n : Nat) (p : InitParam) (b : Bridge) : Bridge :=
  if (b.chan n).ll.state ≠ .init then b
  else if p.rev / 256 ≠ 1 then b.refuseSled n 1
  else if p.vcs < 4 then b.refuseSled n 3
  else (b.modLl n (fun l => { l with param := some p, newId := { l.newId with rev := p.rev } })).checkInit n

/-- INIT_IDENT_RECEIVE (R296): a capacity outside 1 to 8,192 GiB refuses the sled. -/
def doInitIdentReceive (n : Nat) (second : Bool) (i : SledId) (b : Bridge) : Bridge :=
  if (b.chan n).ll.state ≠ .init then b
  else if second then
    (b.modLl n (fun l => { l with newId := { l.newId with serial := i.serial }, idents := putBit l.idents 1 true })).checkInit n
  else if i.capGib = 0 ∨ 8192 < i.capGib then
    (b.modLl n (fun l => { l with newId := { i with serial := l.newId.serial, rev := l.newId.rev } })).refuseSled n 2
  else
    (b.modLl n (fun l => { l with
      newId := { i with serial := l.newId.serial, rev := l.newId.rev, energyLow := false }, idents := putBit l.idents 0 true })).checkInit n

/-- CRED_DATA_RECEIVE: LIMITs in a link-control record; during initialisation the buffer sizes announced (R286, R292, R296). -/
def doCredDataReceive (n v hdr data : Nat) (b : Bridge) : Bridge :=
  let l := (b.chan n).ll
  match l.state with
  | .up => if v = 3 then b else b.credIn n v hdr data
  | .init =>
    (b.modLl n (fun l =>
      let c := l.cred v
      { l with
        idents := putBit l.idents (2 + v) true
        vc := if l.resumeOffered then Tbl.put v { c with hdrLimit := adopt c.hdrLimit hdr, dataLimit := adopt c.dataLimit data } l.vc
              else Tbl.put v { c with hdrLimit := hdr % 65536, dataLimit := data % 65536 } l.vc })).checkInit n
  | _ => b

/-- INIT_TIMEOUT: 100 us in INIT (R298). -/
def doInitTimeout (n : Nat) (b : Bridge) : Bridge := if (b.chan n).ll.state = .init then b.takeDown n else b

/-- LINK_RESET_RECEIVE: the link is taken down (R286, R298). -/
def doLinkResetReceive (n : Nat) (b : Bridge) : Bridge := b.takeDown n

/-- IDLE_REQUEST: PM_REQ goes out on a channel with nothing under way, while the bridge enters Doze or link idle is enabled
(R300). -/
def doIdleRequest (n : Nat) (b : Bridge) : Bridge :=
  let l := (b.chan n).ll
  if l.state = .up && l.unacked.isEmpty && l.tags.isEmpty && l.txq.isEmpty && !b.linkWork n && !l.pmSent && (decide (b.pwr.state = 2) || l.idleEn) then
    (b.modLl n (fun l => { l with pmSent := true, pmRefresh := l.id.selfRefresh })).sendRec n (.pmReq l.id.selfRefresh)
  else b

/-- Slots that a retrain or a pause takes from the stride: how many is open, up to the capacity (R51, log entry 4). -/
def Bridge.pauseLoses (n : Nat) (b : Bridge) : Bridge :=
  let c := (b.chan n).sch.c
  if c = 0 then b
  else
    let (k, b) := b.freeNat
    let (j, b) := b.freeNat
    b.loseSlots n { out := k % (c + 1), inb := j % (c + 1) }

/-- The link pauses (R51, R52, R298). -/
def Bridge.pauseLink (n : Nat) (b : Bridge) : Bridge :=
  let b := b.pauseLoses n
  if (b.chan n).ll.state = .up then
    ((b.modLl n (fun l => { l with state := .paused, nonce := none })).modSch n (fun s => { s with paused := true })).level (48 * n + 3) true
  else b

/-- The link carries on after a pause: each end asks for what it lacks, and a resynchronisation that was under way is asked again
(R301, R308). -/
def Bridge.unpauseLink (n : Nat) (b : Bridge) : Bridge :=
  if (b.chan n).ll.state = .paused then
    let b := (b.modLl n (fun l => { l with state := .up, pmSent := false, refreshing := false })).modSch n (fun s => { s with paused := false })
    let b := (b.level (48 * n + 3) true).sendRec n (.retryReq (b.chan n).ll.exp)
    (((b.modLl n (fun l => { l with retryReqs := cnt32 l.retryReqs 1 })).msync n).graceDrain n).pump n
  else b

/-- RATE_CHANGE_TIMEOUT: the lanes are not back 400 us after RATE_RSP (R299). -/
def doRateChangeTimeout (n : Nat) (b : Bridge) : Bridge :=
  if (b.chan n).ll.state = .paused ∧ (b.chan n).ll.rateReq.isSome then b.takeDown n else b

end Sys2Proof.Machine
end

