-- ==== Sys2Proof/Machine/Wire.lean ====
section
/-! DEFINITION. What the link's wires carry: line codings, ordered sets, training frames, flits and their protection, units and records
as bytes (R252-R259, R270, R275-R286, R296). -/

namespace Sys2Proof.Machine

open Sys2Proof

/-- Eight steps of a remainder, most significant bit first, in a register of `w` bits. -/
def crcSteps (w poly : Nat) : Nat → Nat → Nat
  | 0, r => r
  | k + 1, r => crcSteps w poly k (if 2 ^ (w - 1) ≤ r then (2 * r) % 2 ^ w ^^^ poly else 2 * r)

/-- A remainder over bytes, each most significant bit first. -/
def crcBytes (w poly init : Nat) (bytes : List Nat) : Nat :=
  bytes.foldl (fun r x => crcSteps w poly 8 (r ^^^ x * 2 ^ (w - 8))) init

/-- The CRC-8 of ordered sets, control fields and markers (R256). Where it covers a word, the word's bytes enter from the lowest (log
entry 118). -/
def crc8 (bytes : List Nat) : Nat := crcBytes 8 0x07 0xFF bytes

/-- The CRC-64 of a flit (R280). -/
def crc64 (bytes : List Nat) : Nat := crcBytes 64 0x42F0E1EBA9EA3693 0xFFFFFFFFFFFFFFFF bytes ^^^ 0xFFFFFFFFFFFFFFFF

/-! ## NRZ: code groups (R253, R254) -/

/-- The six-bit halves at negative disparity, bit a highest, for the low five bits of a byte (log entry 118). -/
def sixTable : List Nat :=
  [0b100111, 0b011101, 0b101101, 0b110001, 0b110101, 0b101001, 0b011001, 0b111000,
   0b111001, 0b100101, 0b010101, 0b110100, 0b001101, 0b101100, 0b011100, 0b010111,
   0b011011, 0b100011, 0b010011, 0b110010, 0b001011, 0b101010, 0b011010, 0b111010,
   0b110011, 0b100110, 0b010110, 0b110110, 0b001110, 0b101110, 0b011110, 0b101011]

/-- The four-bit halves at negative disparity, bit f highest, for the high three bits (log entry 118). -/
def fourTable : List Nat := [0b1011, 0b1001, 0b0101, 0b1100, 0b1101, 0b1010, 0b0110, 0b1110]

/-- Disparity after a piece of `w` bits: turned round where its ones and zeros differ in number. -/
def turn (w v : Nat) (rd : Bool) : Bool := if 2 * popCount v w = w then rd else !rd

/-- The six-bit half for a value; `rd`: the running disparity is positive. -/
def sixOf (rd : Bool) (x : Nat) : Nat :=
  let v := sixTable.getD x 0
  if rd && (decide (x = 7) || decide (popCount v 6 ≠ 3)) then 63 - v else v

/-- The alternative form of the last four-bit half is used after these six-bit halves. -/
def altFour (rd : Bool) (x : Nat) : Bool := if rd then [11, 13, 14].contains x else [17, 18, 20].contains x

/-- The four-bit half for a value after the six-bit half for `x`. -/
def fourOf (rd : Bool) (x y : Nat) : Nat :=
  let v := if y = 7 ∧ altFour rd x then 0b0111 else fourTable.getD y 0
  if rd && (decide (y = 3) || decide (popCount v 4 ≠ 2)) then 15 - v else v

/-- A byte's code group, bit a highest, and the running disparity after it (R253). -/
def groupOf (rd : Bool) (byte : Nat) : Nat × Bool :=
  let six := sixOf rd (byte % 32)
  let mid := turn 6 six rd
  let four := fourOf mid (byte % 32) (byte / 32 % 8)
  (six * 16 + four, turn 4 four mid)

/-- The control symbols (R254). -/
inductive Ctl where
  | com | ofr | cnf | aln | swt | eis
  deriving DecidableEq, Repr

/-- A control symbol's code group: K28.5, K28.1, K28.2, K28.0, K28.6 and K23.7 (R254, log entry 118). -/
def Ctl.group (rd : Bool) (c : Ctl) : Nat × Bool :=
  let v := match c with
    | .com => 0b0011111010
    | .ofr => 0b0011111001
    | .cnf => 0b0011110101
    | .aln => 0b0011110100
    | .swt => 0b0011110110
    | .eis => 0b1110101000
  let v := if rd then 1023 - v else v
  (v, turn 10 v rd)

/-- The byte of a code group that is valid at the running disparity; none: a code error (R253). -/
def groupByte (rd : Bool) (g : Nat) : Option Nat :=
  match (List.range 32).find? (fun x => decide (sixOf rd x = g / 16)) with
  | none => none
  | some x => ((List.range 8).find? (fun y => decide (fourOf (turn 6 (g / 16) rd) x y = g % 16))).map (fun y => x + 32 * y)

/-- Running disparity after any received group: a code error with more ones leaves it positive, with more zeros negative (log entry
118). -/
def afterGroup (rd : Bool) (g : Nat) : Bool :=
  match groupByte rd g with
  | some v => (groupOf rd v).2
  | none => if popCount g 10 = 5 then rd else decide (5 < popCount g 10)

/-- Code groups of bytes, one after another. -/
def groupsOf (rd : Bool) : List Nat → List Nat
  | [] => []
  | x :: t => (groupOf rd x).1 :: groupsOf (groupOf rd x).2 t

/-- A run of received groups: bytes, a code error read as 0, the errors' number, and the running disparity after it (R253). -/
def readGroups (rd : Bool) : List Nat → List Nat × Nat × Bool
  | [] => ([], 0, rd)
  | g :: t =>
    let r := readGroups (afterGroup rd g) t
    match groupByte rd g with
    | some v => (v :: r.1, r.2.1, r.2.2)
    | none => (0 :: r.1, r.2.1 + 1, r.2.2)

/-! ## PAM4: levels (R255) -/

/-- Gray map of two bits (R255). -/
def gray (v : Nat) : Nat := [0, 1, 3, 2].getD (v % 4) 0

/-- One byte's four levels after the previous one, two bits a level, the first lowest; and the last level (R255). -/
def levelsOf (prev byte : Nat) : Nat × Nat :=
  (List.range 4).foldl (fun (a : Nat × Nat) k =>
    let p := (gray (byte / 4 ^ k) + 4 - a.2) % 4
    (a.1 + p * 4 ^ k, p)) (0, prev)

/-- A byte recovered from its four levels and the level before them; and the last level (R255). -/
def byteOfLevels (prev lv : Nat) : Nat × Nat :=
  (List.range 4).foldl (fun (a : Nat × Nat) k =>
    let p := lv / 4 ^ k % 4
    (a.1 + gray ((p + a.2) % 4) * 4 ^ k, p)) (0, prev)

/-! ## Ordered sets (R256, R257) -/

/-- The 13 data bytes of an offer or confirm set (R257). -/
structure SetFields where
  /-- R257 symbol 2: physical lane of the sender -/
  lane : Nat
  /-- R257 symbol 3: channel, and bit 7 for the sled -/
  chan : Nat
  /-- R257 symbol 4: rates offered -/
  rates : Nat
  /-- R257 symbol 5: rate chosen, or highest offered -/
  rate : Nat
  /-- R257 symbol 6: width -/
  width : Nat
  /-- R257 symbol 7: outbound map -/
  outMap : Nat
  /-- R257 symbol 8: inbound map -/
  inMap : Nat
  /-- R257 symbol 9: lanes received with lock, and bit 5 LOOP_LOCKED -/
  rxOk : Nat
  /-- R257 symbol 10: preset in use -/
  preset : Nat
  /-- R257 symbol 11: attempt number -/
  round : Nat
  /-- R257 symbol 12: TEST -/
  test : Nat
  deriving DecidableEq, Repr

/-- The data bytes of a set's fields, symbols 2 to 14 (R257). -/
def SetFields.bytes (s : SetFields) : List Nat :=
  [s.lane % 8, s.chan % 256, s.rates % 16, s.rate % 4, s.width % 8, s.outMap % 32, s.inMap % 32, s.rxOk % 64, s.preset % 8, s.round % 256,
   s.test % 8, 0, 0]

/-- The fields of a set's 13 data bytes (R257). -/
def SetFields.ofBytes (l : List Nat) : SetFields :=
  let at0 := fun k => l.getD k 0
  { lane := at0 0 % 8, chan := at0 1, rates := at0 2 % 16, rate := at0 3 % 4, width := at0 4 % 8, outMap := at0 5 % 32
    inMap := at0 6 % 32, rxOk := at0 7 % 64, preset := at0 8 % 8, round := at0 9, test := at0 10 % 8 }

/-- LOOP_LOCKED of a set (R257). -/
def SetFields.loopLocked (s : SetFields) : Bool := bitOf s.rxOk 5

/-- A set as 16 code groups: COM, its identifier, 13 data bytes and their CHK (R256). -/
def setGroups (rd : Bool) (id : Ctl) (bytes : List Nat) : List Nat :=
  let com := Ctl.group rd .com
  let idg := id.group com.2
  com.1 :: idg.1 :: groupsOf idg.2 (bytes ++ [crc8 bytes])

/-- What a received set of 16 code groups says: its 13 data bytes where it is the named set with no code error and a good CHK; its
code errors; and the running disparity after it. COM tells the disparity it was sent at (R253, R256). -/
def readSet (id : Ctl) (gs : List Nat) : Option (List Nat) × Nat × Bool :=
  match gs with
  | c :: i :: t =>
    let rd := decide (c = (Ctl.group true .com).1)
    let com := Ctl.group rd .com
    let idg := id.group com.2
    let r := readGroups idg.2 t
    let errs := b2n (decide (c ≠ com.1)) + b2n (decide (i ≠ idg.1)) + r.2.1
    let body := r.1.take 13
    (if errs = 0 ∧ r.1.length = 14 ∧ r.1.getD 13 256 = crc8 body then some body else none, errs, r.2.2)
  | _ => (none, 0, false)

/-- An offer or confirm set as received: its fields where it is good (R256, R257). -/
def readFields (id : Ctl) (gs : List Nat) : Option SetFields := (readSet id gs).1.map SetFields.ofBytes

/-! ## PAM4 training frames and markers (R258, R259) -/

/-- A 64-bit field with the CRC-8 of its low 56 bits on top (R258, R259). -/
def withChk (v : Nat) : Nat := v % 2 ^ 56 + crc8 (natBytes 7 v) * 2 ^ 56

/-- CHK of a 64-bit field is good. -/
def chkGood (v : Nat) : Bool := decide (v < 2 ^ 64 ∧ v / 2 ^ 56 = crc8 (natBytes 7 v))

/-- The control field of a training frame (R259). -/
structure FrameFields where
  /-- R259 bits 2:0 -/
  lane : Nat
  /-- R259 bit 3: RX_READY -/
  rxReady : Bool
  /-- R259 bits 5:4, 7:6, 9:8: requests for the three taps -/
  reqs : Nat × Nat × Nat
  /-- R259 bits 12:10 -/
  preset : Nat
  /-- R259 bits 14:13, 16:15, 18:17: status of the partner's last request per tap -/
  stat : Nat × Nat × Nat
  /-- R259 bit 19: FAST -/
  fast : Bool
  /-- R259 bits 24:20 -/
  outMap : Nat
  /-- R259 bits 29:25 -/
  inMap : Nat
  /-- R259 bits 33:30: FRAME_CNT -/
  count : Nat
  deriving DecidableEq, Repr

/-- A control field's 64 bits (R259). -/
def FrameFields.word (f : FrameFields) : Nat :=
  withChk (f.lane % 8 + b2n f.rxReady * 2 ^ 3 + f.reqs.1 % 4 * 2 ^ 4 + f.reqs.2.1 % 4 * 2 ^ 6 + f.reqs.2.2 % 4 * 2 ^ 8 + f.preset % 8 * 2 ^ 10
    + f.stat.1 % 4 * 2 ^ 13 + f.stat.2.1 % 4 * 2 ^ 15 + f.stat.2.2 % 4 * 2 ^ 17 + b2n f.fast * 2 ^ 19 + f.outMap % 32 * 2 ^ 20
    + f.inMap % 32 * 2 ^ 25 + f.count % 16 * 2 ^ 30)

/-- The fields of a control field's bits (R259). -/
def FrameFields.ofWord (v : Nat) : FrameFields :=
  { lane := bitsOf v 2 0, rxReady := bitOf v 3, reqs := (bitsOf v 5 4, bitsOf v 7 6, bitsOf v 9 8), preset := bitsOf v 12 10
    stat := (bitsOf v 14 13, bitsOf v 16 15, bitsOf v 18 17), fast := bitOf v 19, outMap := bitsOf v 24 20, inMap := bitsOf v 29 25
    count := bitsOf v 33 30 }

/-- The control field of a training frame from its parts (R259): bits 19:0, OUT_MAP, IN_MAP, FRAME_CNT, bits 55:34 and CHK. -/
def frameControl (low outMap inMap count high chk : Nat) : Nat :=
  low + 2 ^ 20 * outMap + 2 ^ 25 * inMap + 2 ^ 30 * count + 2 ^ 34 * high + 2 ^ 56 * chk

/-- A control field as received: its fields where CHK is good (R259). -/
def readFrame (v : Nat) : Option FrameFields := if chkGood v then some (FrameFields.ofWord v) else none

/-- The 64 bits that follow the complemented marker in PAM4 alignment: logical lane, channel and CRC-8 (R258). -/
def markerWord (logical ch : Nat) : Nat := withChk (logical % 8 + ch % 16 * 8)

/-- The data bytes of an alignment set (R256). -/
def alignBytes (logical ch : Nat) : List Nat := [logical % 8, ch % 16] ++ List.replicate 11 0x4A

/-- The data bytes of a rate-switch notice (R256). -/
def noticeBytes (rate lane : Nat) : List Nat := [rate % 4, lane % 8] ++ List.replicate 11 0

/-- The bits of a PRBS after a state of `w` bits: the next is the sum of the two named stages (R270). -/
def prbsBits (w tap : Nat) : Nat → Nat → List Bool
  | 0, _ => []
  | k + 1, s =>
    let x := Bool.xor (bitOf s (w - 1)) (bitOf s (tap - 1))
    bitOf s (w - 1) :: prbsBits w tap k ((2 * s) % 2 ^ w + b2n x)

/-- The frame marker: 127 bits of PRBS7 from the all-ones seed, and a 0 (R258). -/
def frameMarker : List Bool := prbsBits 7 6 127 127 ++ [false]

/-- The PAM4 alignment marker: the complement of the frame marker, then its 64 bits (R258). -/
def alignMarker (logical ch : Nat) : List Bool := frameMarker.map not ++ (List.range 64).map (bitOf (markerWord logical ch))

/-! ## FEC (R281) -/

/-- Powers of a byte in the code's field. -/
def codePow (a : Nat) : Nat → Nat
  | 0 => 1
  | k + 1 => codeMul a (codePow a k)

/-- The inverse of a byte in the code's field: its 254th power, by squares. -/
def codeInv (a : Nat) : Nat :=
  ((List.range 7).foldl (fun (s : Nat × Nat) _ =>
    let q := codeMul s.2 s.2
    (codeMul s.1 q, q)) (1, a)).1

/-- A byte into a remainder by a monic polynomial of degree 8, whose other coefficients are listed from the highest. -/
def fecStep (g : List Nat) (r : List Nat) (byte : Nat) : List Nat :=
  let f := byte ^^^ r.headD 0
  xorBytes (r.drop 1 ++ [0]) (g.map (codeMul f))

/-- The generator's coefficients below x^8, from the highest: the product of x + 2^j for j below 8 (R281). -/
def fecGen : List Nat :=
  ((List.range 8).foldl (fun p j => xorBytes (p ++ [0]) (0 :: p.map (codeMul (codePow 2 j)))) [1]).drop 1

/-- The eight parity symbols of 128 message symbols (R281). -/
def fecParity (m : List Nat) : List Nat := m.foldl (fecStep fecGen) (List.replicate 8 0)

/-- Symbols of codeword `c` in bytes that interleave two. -/
def everyOther (c : Nat) (l : List Nat) : List Nat := (List.range (l.length / 2)).map (fun i => l.getD (2 * i + c) 0)

/-- Two lists interleaved. -/
def interleave (a b : List Nat) : List Nat := ((List.zip a b).map (fun x => [x.1, x.2])).flatten

/-- The 272-byte block of a flit (R281). -/
def fecBlock (flit : List Nat) : List Nat :=
  flit ++ interleave (fecParity (everyOther 0 flit)) (fecParity (everyOther 1 flit))

/-- The value of a polynomial, coefficients from the lowest, at a byte. -/
def polyAt (p : List Nat) (x : Nat) : Nat := p.foldr (fun c s => codeMul s x ^^^ c) 0

/-- Two polynomials' sum, coefficients from the lowest. -/
def polyAdd : List Nat → List Nat → List Nat
  | [], q => q
  | p, [] => p
  | a :: p, c :: q => (a ^^^ c) :: polyAdd p q

/-- The error locator of syndromes, step by step: locator, its predecessor, its length, the shift and the predecessor's discrepancy. -/
def locate (syn : List Nat) : Nat → List Nat × List Nat × Nat × Nat × Nat → List Nat × Nat
  | 0, (c, _, len, _, _) => (c, len)
  | k + 1, (c, p, len, m, d0) =>
    let n := syn.length - (k + 1)
    let d := (List.range (len + 1)).foldl (fun s i => s ^^^ codeMul (c.getD i 0) (if i ≤ n then syn.getD (n - i) 0 else 0)) 0
    if d = 0 then locate syn k (c, p, len, m + 1, d0)
    else
      let c' := polyAdd c (List.replicate m 0 ++ p.map (codeMul (codeMul d (codeInv d0))))
      if 2 * len ≤ n then locate syn k (c', c, n + 1 - len, 1, d) else locate syn k (c', p, len, m + 1, d0)

/-- Positions from a codeword's end at which a locator says a symbol is wrong: place, and the locator's number there. -/
def wrongPlaces (loc : List Nat) : Nat → Nat → Nat → List (Nat × Nat)
  | 0, _, _ => []
  | k + 1, j, inv =>
    let rest := wrongPlaces loc k (j + 1) (codeMul 0x8E inv)
    if polyAt loc inv = 0 then (j, inv) :: rest else rest

/-- The even part of a locator's derivative: its odd coefficients, in their places. -/
def oddPart : List Nat → List Nat
  | [] => []
  | [_] => []
  | _ :: b :: t => b :: 0 :: oddPart t

/-- A codeword of 136 symbols as the decoder leaves it, and the places from its front that it corrected; none: uncorrectable. Up to four
symbols are corrected, never more (R281). -/
def fecDecode (cw : List Nat) : Option (List Nat × List Nat) :=
  let syn := (List.range 8).map (fun j => codeAt (codePow 2 j) cw)
  if syn.all (fun s => decide (s = 0)) then some (cw, [])
  else
    let (loc, len) := locate syn 8 ([1], [1], 0, 1, 1)
    let wrong := wrongPlaces loc 136 0 1
    if len = 0 ∨ 4 < len ∨ wrong.length ≠ len then none
    else
      let om := (List.range 8).map (fun i => (List.range (i + 1)).foldl (fun s j => s ^^^ codeMul (loc.getD j 0) (syn.getD (i - j) 0)) 0)
      let fixes := wrong.map (fun w =>
        (135 - w.1, codeMul (codeInv w.2) (codeMul (polyAt om w.2) (codeInv (polyAt (oddPart loc) w.2)))))
      let cw' := fixes.foldl (fun l f => l.set f.1 (l.getD f.1 0 ^^^ f.2)) cw
      if (List.range 8).all (fun j => decide (codeAt (codePow 2 j) cw' = 0)) then some (cw', fixes.map Prod.fst) else none

/-- A received 272-byte block: the flit and the block's corrected bytes; none: a codeword is uncorrectable (R281). -/
def fecRead (block : List Nat) : Option (List Nat × List Nat) :=
  match fecDecode (everyOther 0 block), fecDecode (everyOther 1 block) with
  | some a, some c => some ((interleave a.1 c.1).take 256, a.2.map (2 * ·) ++ c.2.map (2 * · + 1))
  | _, _ => none

/-! ## Blocks on the lanes (R252) -/

/-- Bytes of a block taken from its lanes in turn, each lane's reading carried on. -/
def fromLanes {σ : Type} (f : σ → Nat → Option Nat × σ) : List σ → List Nat → List (Option Nat) × List σ
  | st, [] => ([], st)
  | [], _ => ([], [])
  | s :: rest, x :: t =>
    let r := f s x
    let out := fromLanes f (rest ++ [r.2]) t
    (r.1 :: out.1, out.2)

/-! ## The flit (R275-R279) -/

/-- A flit's header fields (R276). -/
structure FlitHead where
  /-- R276 bits 1:0 -/
  kind : Nat
  /-- R276 bits 13:2 -/
  seq : Nat
  /-- R276 bits 25:14 -/
  ack : Nat
  /-- R276 bits 55:26, two bits a slot -/
  slots : List Nat
  /-- R276 bits 58:56 -/
  wvc : Nat
  deriving DecidableEq, Repr

/-- A header's 64 bits (R276). -/
def FlitHead.word (h : FlitHead) : Nat :=
  h.kind % 4 + h.seq % 4096 * 2 ^ 2 + h.ack % 4096 * 2 ^ 14 + h.slots.foldr (fun t v => t % 4 + 4 * v) 0 % 2 ^ 30 * 2 ^ 26 + h.wvc % 8 * 2 ^ 56

/-- The header of a flit's bytes (R276). -/
def FlitHead.of (flit : List Nat) : FlitHead :=
  let v := bytesNat (flit.take 8)
  { kind := bitsOf v 1 0, seq := bitsOf v 13 2, ack := bitsOf v 25 14, slots := (List.range 15).map (fun s => bitsOf v (2 * s + 27) (2 * s + 26))
    wvc := bitsOf v 58 56 }

/-- Slot `s` of a flit: 16 bytes (R275). -/
def slotOf (flit : List Nat) (s : Nat) : List Nat := (flit.drop (8 + 16 * s)).take 16

/-- A flit of a header and its payload, with the CRC-64 (R275, R280). -/
def flitBytes (h : FlitHead) (payload : List Nat) : List Nat :=
  let body := ((natBytes 8 h.word ++ payload) ++ List.replicate 248 0).take 248
  body ++ natBytes 8 (crc64 body)

/-- The flit's CRC-64 matches (R280, R282). -/
def crcGood (flit : List Nat) : Bool := decide (bytesNat (flit.drop 248) = crc64 (flit.take 248))

/-- The units of a flit's header slots, in order of slot and unit, as 64-bit numbers (R277). -/
def unitsOf (h : FlitHead) (flit : List Nat) : List Nat :=
  ((List.range 15).map (fun s => if h.slots.getD s 0 = 1 then [bytesNat ((slotOf flit s).take 8), bytesNat ((slotOf flit s).drop 8)] else [])).flatten

/-- A message that a sled may send: RDATA, CRED, MCRED, MSYNC_REQ, MSYNC_RSP, SREG_RSP, SAVE_RSP and EVENT, or the NOP (R278, R283). -/
def sledMay (u : Nat) : Bool := decide (u = 0) || (decide (u % 2 = 0) && [2, 3, 4, 5, 6, 9, 11, 12].contains (u % 256 / 16))

/-- The slots of a flit from the sled break a rule: a type 3, a data-slot count that is not four for each line header, or an opcode that
is reserved or misdirected (R279, R283, R298). -/
def slotsBad (h : FlitHead) (flit : List Nat) : Bool :=
  let us := unitsOf h flit
  h.slots.contains 3 || !us.all sledMay
    || decide ((h.slots.filter (fun t => decide (t = 2))).length ≠ 4 * (us.filter (fun u => decide (u % 2 = 0 ∧ u % 256 / 16 = 2))).length)

/-- The records of a LINK flit: its slots up to the first of zeros (R277, R286). -/
def recordsOf (flit : List Nat) : List (List Nat) := ((List.range 15).map (slotOf flit)).takeWhile (fun r => !r.all (fun x => decide (x = 0)))

/-- Records of a reserved type in a LINK flit (R286). -/
def reservedRecs (flit : List Nat) : Nat := ((recordsOf flit).filter (fun r => decide (r.headD 0 = 0 ∨ 10 < r.headD 0))).length

/-- What a received block says (R252, R253, R255, R281, R282). -/
structure BlockIn where
  /-- R282: 0 a good flit, 1 an uncorrectable codeword, 2 a code error or a CRC that does not match -/
  bad : Nat
  /-- R275: the flit's 256 bytes -/
  flit : List Nat
  /-- R263: block bytes with a code error, or corrected -/
  errs : List Nat
  /-- R253, R255: what each lane of the map carries on with: disparity, or last level -/
  carry : List Nat
  deriving DecidableEq, Repr

/-- Reading a block: in NRZ modes 256 code groups, in PAM4 modes the levels of 272 bytes; `carry` is each logical lane's running disparity,
1 for positive, or its last level (R252, R253, R255). -/
def readBlock (pam4 : Bool) (carry block : List Nat) : BlockIn :=
  if pam4 then
    let r := fromLanes (fun prev x => (some (byteOfLevels prev x).1, (byteOfLevels prev x).2)) carry block
    match fecRead (r.1.map (fun x => x.getD 0)) with
    | none => { bad := 1, flit := [], errs := [], carry := r.2 }
    | some (flit, errs) => { bad := if crcGood flit then 0 else 2, flit := flit, errs := errs, carry := r.2 }
  else
    let r := fromLanes (fun rd x => (groupByte (decide (rd = 1)) x, b2n (afterGroup (decide (rd = 1)) x))) carry block
    let flit := r.1.map (fun x => x.getD 0)
    let errs := (List.range r.1.length).filter (fun i => decide (r.1[i]? = some none))
    { bad := if errs.isEmpty && crcGood flit then 0 else 2, flit := flit, errs := errs, carry := r.2 }

/-! ## Units and records the bridge sends (R284, R286, R296) -/

/-- Opcode byte of a message (R278). -/
def opcodeByte (opc vc : Nat) : Nat := opc * 16 + vc % 8 * 2

/-- A message's unit, 64 bits (R284). -/
def HtlMsg.unit (vc : Nat) : HtlMsg → Nat
  | .wr line w => 1 + line % 2 ^ 37 * 2 + b2n w.poison * 2 ^ 38 + w.check.toNat * 2 ^ 39
  | .rd tag line len => opcodeByte 1 vc + (len - 1) % 8 * 2 ^ 8 + tag % 65536 * 2 ^ 11 + line % 2 ^ 37 * 2 ^ 27
  | .cred v hdr data => opcodeByte 3 v + hdr % 65536 * 2 ^ 8 + data % 65536 * 2 ^ 24
  | .mcred k => opcodeByte 4 vc + k % 256 * 2 ^ 8
  | .msyncReq k => opcodeByte 5 vc + k % 256 * 2 ^ 8
  | .msyncRsp k free => opcodeByte 6 vc + k % 256 * 2 ^ 8 + free % 256 * 2 ^ 16
  | .sregRd tag addr => opcodeByte 7 vc + tag % 256 * 2 ^ 8 + addr % 65536 * 2 ^ 16
  | .sregWr tag addr data => opcodeByte 8 vc + tag % 256 * 2 ^ 8 + addr % 65536 * 2 ^ 16 + data % 2 ^ 32 * 2 ^ 32
  | .save tag => opcodeByte 10 vc + tag % 256 * 2 ^ 8

/-- The SEQ flit that carries one message: its unit in slot 0, and a line in slots 1 to 4 (R276-R279). -/
def HtlMsg.flit (seq ack vc : Nat) (m : HtlMsg) : List Nat :=
  let unit := natBytes 8 (m.unit vc) ++ List.replicate 8 0
  match m with
  | .wr _ w => flitBytes { kind := 1, seq := seq, ack := ack, slots := [1, 2, 2, 2, 2], wvc := vc } (unit ++ natBytes 64 w.data.toNat)
  | _ => flitBytes { kind := 1, seq := seq, ack := ack, slots := [1], wvc := 0 } unit

/-- A record's 16 bytes (R286, R296). -/
def HtlRec.bytes (r : HtlRec) : List Nat :=
  let two := fun v => natBytes 2 (v % 65536)
  ((match r with
    | .retryReq exp => [1, 0] ++ two (exp % 4096)
    | .credData v hdr data => [2, v] ++ two hdr ++ two data
    | .initParam resume vcs tx rx grace mgmt =>
      [3, b2n resume * 2 + (vcs - 1) % 8 * 4] ++ two (tx % 4096) ++ two (rx % 4096) ++ two grace ++ two 0x0100 ++ [mgmt % 256]
    | .initDone => [5]
    | .pmReq sr => [6, b2n sr]
    | .rateReq c => [8, c % 4]
    | .linkReset why => [10, why % 256]) ++ List.replicate 16 0).take 16

/-- The LINK flit that carries one record (R277, R286). -/
def HtlRec.flit (next ack : Nat) (r : HtlRec) : List Nat :=
  flitBytes { kind := 2, seq := next, ack := ack, slots := [], wvc := 0 } r.bytes

end Sys2Proof.Machine
end

