-- ==== Sys2Proof/Machine/Lanes.lean ====
section
/-! DEFINITION. The lanes: training, maps, lane health, fast retrain, electrical idle, PRBS (chapter 08), and what arrives as flits. -/

namespace Sys2Proof.Machine

open Sys2Proof

/-- The lanes of a channel. -/
def Bridge.phy (b : Bridge) (n : Nat) : Phy := (b.chan n).phy

/-- Change lane `k` of a channel. -/
def Bridge.modLane (n k : Nat) (f : Lane → Lane) (b : Bridge) : Bridge :=
  b.modPhy n (fun p => { p with lane := Tbl.put k (f (p.ln k)) p.lane })

/-- Lanes 0-4. -/
def lanes5 : List Nat := List.range 5

/-- The mask of a list of lanes. -/
def laneMask (ls : List Nat) : Nat := packBits (fun k => ls.contains k) 5

/-- The lanes of a mask. -/
def maskLanes (m : Nat) : List Nat := setBits m 5

/-- An attempt, or a change of rate in service, fails: the code is set; a third failed attempt in a row enters DOWN, and any
other starts over from DETECT (R260). -/
def Bridge.trainFails (n code : Nat) (b : Bridge) : Bridge :=
  let p := b.phy n
  let k := if p.full then p.attempt + 1 else 0
  let b := b.modPhy n (fun p => { p with fail := code, attempt := k, trainFail := if p.full then cnt32 p.trainFail 1 else p.trainFail })
  let b := (b.lanesToDetect n).linkFalls n
  if 3 ≤ k ∨ code = 3 then
    b.modPhy n (fun p => { p with state := .down })
  else b

/-- The rates the bridge may choose on a channel (R250). -/
def Phy.rateCap (p : Phy) : Nat := Nat.min p.ceiling p.limit

/-- The highest rate that both ends offer, within the ceiling and the limit (R250). -/
def Phy.bestRate (p : Phy) : Option Nat := ((List.range (p.rateCap + 1)).filter (fun r => r < 4 && bitOf p.sledRates r)).getLast?

/-- The rate of a full training (R250): under a lane test the one commanded, where the sled offers it (R364). -/
def Phy.trainRate (p : Phy) : Option Nat :=
  match p.testRate with
  | some r => if bitOf p.sledRates r then some r else none
  | none => p.bestRate

/-- A lane may be placed in a map: not fenced by command, and not the spare while its sparing is vetoed (R261). -/
def Bridge.placeable (n : Nat) (out : Bool) (k : Nat) (b : Bridge) : Bool :=
  let p := b.phy n
  !bitOf (if out then p.txFenced else p.rxFenced) k && !(bitOf b.glb.veto 0 && decide (k = 4))

/-- The rate, width and maps of a full training are chosen, and confirm sets go out (R250, R261). -/
def Bridge.chooseMaps (n : Nat) (b : Bridge) : Bridge :=
  let p := b.phy n
  let foundIn := lanes5.filter (fun k => (p.ln k).locked)
  let foundOut := maskLanes p.sledRxOk
  let inn := foundIn.filter (fun k => b.placeable n false k)
  let out := foundOut.filter (fun k => b.placeable n true k)
  let w := if 4 ≤ inn.length ∧ 4 ≤ out.length then 4 else 2
  match p.trainRate with
  | none => b.trainFails n 3
  | some r =>
    if inn.length < 2 ∨ out.length < 2 then b
    else
      let im := laneMask (inn.take w)
      let om := laneMask (out.take w)
      let b := b.modPhy n (fun p => { (p.allLanes Lane.restart) with
        state := .confirm, nextRate := r, outMap := om, inMap := im
        rxFailed := laneMask ((maskLanes p.rxFailed).filter (fun k => !foundIn.contains k || bitOf p.rxFenced k))
        txFailed := laneMask ((maskLanes p.txFailed).filter (fun k => !foundOut.contains k || bitOf p.txFenced k)) })
      b.emit (.lanes n (.confirmSets r om im p.test false))

/-- The width code of maps: 1 for x2, 2 for x4 (R273). -/
def Phy.widthCode (p : Phy) : Nat := if popCount p.outMap 5 = 4 then 2 else 1

/-- The lanes enter RATE_SWITCH for the next rate: notices go out, and PAM4 transmitters start at preset 1 (R259, R260). -/
def Bridge.enterRateSwitch (n : Nat) (b : Bridge) : Bridge :=
  (b.modPhy n (fun p =>
    { (p.allLanes (fun l => l.restart.setPreset (if 2 ≤ p.nextRate then 1 else p.boardPreset))) with
      state := .rateSwitch, idleDone := false, notices := 0 })).emit (.lanes n .switchNotice)

/-- The lanes reach ACTIVE (R260): from a full training the link initialises (R296); after a pause it carries on (R301). A lane
lost beyond the spare leaves degraded service (R19). A full training measures the round trip, which is the cable's and the sled's (R33, log
entry 4). -/
def Bridge.lanesActive (n : Nat) (b : Bridge) : Bridge :=
  let p := b.phy n
  let b := b.modPhy n (fun p => { (p.allLanes Lane.restart) with
    state := .active, width := p.widthCode, starts := 0, full := false, attempt := 0, idleSent := false, idleRcvd := false
    trains := if p.full then cnt32 p.trains 1 else p.trains })
  let b := b.level (48 * n + 2) true
  let b := if (b.phy n).width = 1 then b.degrade else b.regain
  if p.full then
    let (d, b) := b.freeNat
    let b := b.modSch n (fun s => { s with rtt := d % 65536 })
    if (b.chan n).ll.state = .down ∨ (b.chan n).ll.state = .grace then b.startInit n else b
  else b.unpauseLink n

/-- ALIGN is entered: two further frames or sets, then the alignment pattern on every mapped lane (R260). -/
def Bridge.enterAlign (n : Nat) (b : Bridge) : Bridge :=
  (b.modPhy n (fun p => { (p.allLanes Lane.restart) with state := .align })).emit (.lanes n .alignment)

/-- Every lane of a mask satisfies a test. -/
def Phy.allIn (m : Nat) (f : Lane → Bool) (p : Phy) : Bool := (maskLanes m).all (fun k => f (p.ln k))

/-- PRBS goes out on each lane whose generator was on when TEST was entered (R271). -/
def Bridge.sendPrbs (n : Nat) (b : Bridge) : Bridge :=
  b.each (lanes5.filter (fun k => decide (((b.phy n).ln k).prbsTest % 4 ≠ 0))) (fun k b => b.emit (.lanes n (.prbs k ((b.phy n).ln k).prbsCtrl)))

/-- A lane enters TEST: GEN and CHK take effect (R271). -/
def Lane.enterTest (l : Lane) : Lane := { l.restart with prbsTest := l.prbsCtrl % 16 }

/-- The fields of the sets the bridge sends on a lane: an offer, or the confirm of what it has chosen (R257). -/
def Bridge.setFields (n k : Nat) (confirm : Bool) (b : Bridge) : SetFields :=
  let p := b.phy n
  { lane := k, chan := n, rates := 15, rxOk := laneMask (lanes5.filter (fun j => (p.ln j).locked)), preset := (p.ln k).preset, round := p.round
    rate := if !confirm then 3 else if p.state = .fastRetrain then p.rate else p.nextRate
    width := if confirm then popCount p.outMap 5 else 0, outMap := if confirm then p.outMap else 0, inMap := if confirm then p.inMap else 0
    test := if confirm then p.test else 0 }

/-- A confirm set of the sled echoes the bridge's: symbols 4 to 8 and 12 (R257). -/
def SetFields.echoes (x y : SetFields) : Bool :=
  decide (x.rates = y.rates) && decide (x.rate = y.rate) && decide (x.width = y.width) && decide (x.outMap = y.outMap)
    && decide (x.inMap = y.inMap) && decide (x.test = y.test)

/-- The control field of the frames the bridge sends on a lane; `ready`: its receiver there needs no further change; `reqs`, `preset`: what
it asks of the sled's transmitter (R259). -/
def Bridge.frameFields (n k : Nat) (ready fast : Bool) (reqs : Nat × Nat × Nat) (preset count : Nat) (b : Bridge) : FrameFields :=
  let p := b.phy n
  { lane := k, rxReady := ready, reqs := reqs, preset := preset, stat := (p.ln k).tapStatus, fast := fast, outMap := p.outMap, inMap := p.inMap
    count := count }

/-- RATE_SWITCH ends: 8 good frames, or 16 good sets, on every mapped lane (R260, R271). -/
def Bridge.rateSwitched (n : Nat) (b : Bridge) : Bridge :=
  let p := b.phy n
  let need := if 2 ≤ p.nextRate then 8 else 16
  if p.state = .rateSwitch && p.idleDone && p.allIn p.inMap (fun l => decide (need ≤ l.run)) then
    if p.test ≠ 0 then (b.modPhy n (fun p => { (p.allLanes Lane.enterTest) with state := .test })).sendPrbs n
    else if 2 ≤ p.nextRate then b.modPhy n (fun p => { (p.allLanes Lane.restart) with state := .equalize })
    else b.enterAlign n
  else b

/-- A pattern's good or bad arrival counts towards a run (R260). -/
def Lane.step (good : Bool) (l : Lane) : Lane := { l with run := if good then l.run + 1 else 0 }

/-- CHANNEL_ENABLE: resident firmware enables a channel whose sled is powered (R260, R512). -/
def doChannelEnable (n : Nat) (b : Bridge) : Bridge :=
  if (b.phy n).state = .disabled ∧ (b.chan n).svc.present then
    (b.modPhy n (fun p => { p with attempt := 0 })).lanesToDetect n
  else b

/-- The channel is disabled, or its sled's power removed (R260). -/
def Bridge.lanesOff (n : Nat) (b : Bridge) : Bridge :=
  if (b.phy n).state = .disabled then b
  else
    let b := (b.lanesToDetect n).linkFalls n
    (b.modPhy n (fun p => { p with state := .disabled, test := 0 })).emit (.lanes n .nothing)

/-- DETECT_SIGNAL: at least two inbound lanes without LOS for 1 us (R260). -/
def doDetectSignal (n : Nat) (b : Bridge) : Bridge :=
  let p := b.phy n
  if p.state = .detect ∧ 2 ≤ (lanes5.filter (fun k => !(p.ln k).los)).length then
    b.modPhy n (fun p => { (p.allLanes Lane.restart) with state := .sync })
  else b

/-- A source becomes severe at once, whatever its bucket (R264). -/
def Bridge.severeNow (k s detail : Nat) (b : Bridge) : Bridge :=
  let b := b.note k s detail
  if (b.faults.source k s).severe || b.muted k s then b
  else
    let b := b.modFs k s (fun x => { x with severe := true })
    (b.logWrite k s 4 false 0 none detail).modFlt (fun f => { f with react := f.react ++ [(k, s, detail)] })


/-- Errors arrive on a lane among `span` symbols, at the places listed: counted, an event of the lane's source, and the lane fails by them
in service (R263, R264). -/
def Bridge.chargeLane (n k span : Nat) (mine : List Nat) (b : Bridge) : Bridge :=
  let p := b.phy n
  let b := b.modLane n k (fun l =>
    let l := { l with err := cnt32 l.err mine.length }
    if 2 ≤ p.rate then { l with charged := l.charged + mine.length }
    else
      { l with
        symbols := l.symbols + span
        window := (l.window ++ mine.map (· + l.symbols)).filter (fun x => decide (l.symbols + span ≤ x + 1024)) })
  let b := if mine.isEmpty then b else b.note n (10 + k) mine.length
  let l := (b.phy n).ln k
  if (decide (16 ≤ l.window.length) || decide (1024 < l.charged)) && bitOf p.inMap k
      && (decide (p.state = .active) || decide (p.state = .fastRetrain)) then b.severeNow n (10 + k) mine.length else b

/-- Errors of a block are charged to its lanes: physical lane and place in the block (R252, R263, R264). -/
def Bridge.chargeLanes (n : Nat) (errs : List (Nat × Nat)) (b : Bridge) : Bridge :=
  let p := b.phy n
  b.each (maskLanes p.inMap) (fun k b =>
    b.chargeLane n k (if p.width = 2 then 64 else 128) ((errs.filter (fun e => decide (e.1 = k))).map Prod.snd))

/-- A set arrives on a lane: its code errors are counted once the lane has symbol lock, and its last disparity is kept (R253, R263). -/
def Bridge.setIn (n k : Nat) (id : Ctl) (gs : List Nat) (b : Bridge) : Bridge :=
  let r := readSet id gs
  let b := b.modLane n k (fun l => { l with carry := b2n r.2.2 })
  if ((b.phy n).ln k).locked then b.chargeLane n k 16 (List.replicate r.2.1 0) else b

/-- OFFER_SET_RECEIVE: an offer set of the sled on a lane, 16 code groups; a code error or a bad CHK discards it (R256, R257, R260). -/
def doOfferSetReceive (n k : Nat) (gs : List Nat) (b : Bridge) : Bridge :=
  let set := readFields .ofr gs
  let good := set.isSome
  let b := b.setIn n k .ofr gs
  match (b.phy n).state with
  | .sync =>
    let b := b.modLane n k (fun l => { (l.step good) with locked := l.locked || good })
    let p := b.phy n
    if 2 ≤ (lanes5.filter (fun j => decide (8 ≤ (p.ln j).run))).length then
      b.modPhy n (fun p => { (p.allLanes Lane.restart) with state := .offer })
    else b
  | .offer =>
    let b := b.modLane n k (Lane.step good)
    let b := match set with
      | some x => b.modPhy n (fun p => { p with sledRates := x.rates, sledRxOk := x.rxOk % 32 })
      | none => b
    let p := b.phy n
    if (lanes5.filter (fun j => (p.ln j).locked)).all (fun j => decide (8 ≤ (p.ln j).run)) then b.chooseMaps n else b
  | _ => b

/-- A fast retrain, or a change of maps, fails: DETECT with failure 8 (R260, R266). -/
def Bridge.retrainFails (n : Nat) (b : Bridge) : Bridge :=
  ((b.modPhy n (fun p => { p with fail := 8, attempt := 0 })).lanesToDetect n).linkFalls n

/-- Working lanes of a direction in service: neither failed nor fenced; a vetoed spare only if it is in the map already (R18,
R265, R266). -/
def Bridge.workLanes (n : Nat) (out : Bool) (b : Bridge) : List Nat :=
  let p := b.phy n
  let map := if out then p.outMap else p.inMap
  lanes5.filter (fun k =>
    (if out then bitOf p.sledRxOk k else (p.ln k).locked) && !bitOf (if out then p.txFailed else p.rxFailed) k
      && !bitOf (if out then p.txFenced else p.rxFenced) k && !(bitOf b.glb.veto 0 && decide (k = 4) && !bitOf map 4))

/-- A direction's map with its failed lanes out and its spares in, at a width; none where the lanes do not suffice (R265). -/
def newMap (map w : Nat) (work : List Nat) : Option Nat :=
  let keep := (maskLanes map).filter work.contains
  let spare := work.filter (fun k => !keep.contains k)
  if w ≤ keep.length + spare.length then some (laneMask ((keep ++ spare).take w)) else none

/-- A fast retrain starts, or starts anew, with new maps (R265, R266): the spare comes in (R16, R17), or both directions drop to
x2; a third start from one first failure, or fewer than two working lanes, enters DETECT. The link pauses, and slots are lost
(R51; how many is open, log entry 4). -/
def Bridge.startRetrain (n : Nat) (b : Bridge) : Bridge :=
  let p := b.phy n
  let wi := b.workLanes n false
  let wo := b.workLanes n true
  let w := popCount p.inMap 5
  let maps : Option (Nat × Nat) :=
    match newMap p.outMap w wo, newMap p.inMap w wi with
    | some o, some i => some (o, i)
    | _, _ => if 2 ≤ wo.length ∧ 2 ≤ wi.length then some (laneMask (wo.take 2), laneMask (wi.take 2)) else none
  match maps with
  | none => b.retrainFails n
  | some (o, i) =>
    if 2 ≤ p.starts then b.retrainFails n
    else
      let b := b.modPhy n (fun p => { (p.allLanes Lane.restart) with
        state := .fastRetrain, outMap := o, inMap := i, starts := p.starts + 1 })
      let b := b.pauseLink n
      let b := if (bitOf o 4 && !bitOf p.outMap 4) || (bitOf i 4 && !bitOf p.inMap 4) then b.spareLog n (if bitOf o 4 && !bitOf p.outMap 4 then 20 else 15) 4 else b
      if 2 ≤ p.rate then b.emit (.lanes n (.trainingFrames o i true)) else b.emit (.lanes n (.confirmSets p.rate o i 0 false))

/-- A lane is marked failed; answers whether a fast retrain is due for it (R264, R266). -/
def Bridge.markLane (n : Nat) (out : Bool) (k : Nat) (b : Bridge) : Bool × Bridge :=
  let p := b.phy n
  let mapped := bitOf (if out then p.outMap else p.inMap) k
  (mapped && (decide (p.state = .active) || decide (p.state = .fastRetrain)) && !b.chFenced n,
   b.modPhy n (fun p => if out then { p with txFailed := putBit p.txFailed k true } else { p with rxFailed := putBit p.rxFailed k true }))

/-- The outbound lanes that the sled has taken out of its maps have failed (R264, R265). -/
def Bridge.sledDropped (n outMap : Nat) (b : Bridge) : Bridge :=
  b.each ((maskLanes (b.phy n).outMap).filter (fun j => !bitOf outMap j)) (fun j b => b.note n (20 + j) 0)

/-- CONFIRM_SET_RECEIVE (R257, R260, R265): a confirm set of the sled, 16 code groups. One that matches the bridge's advances CONFIRM,
RATE_SWITCH and a fast retrain in NRZ modes; in service one whose map lacks an outbound lane says that the lane has failed. -/
def doConfirmSetReceive (n k : Nat) (gs : List Nat) (b : Bridge) : Bridge :=
  let set := readFields .cnf gs
  let b := b.setIn n k .cnf gs
  let p := b.phy n
  let same := set.any (fun x => x.echoes (b.setFields n k true))
  match p.state with
  | .confirm =>
    let b := b.modLane n k (Lane.step (same && set.any SetFields.loopLocked))
    let p := b.phy n
    if p.allIn p.inMap (fun l => decide (16 ≤ l.run)) then b.enterRateSwitch n else b
  | .rateSwitch =>
    if p.idleDone ∧ p.nextRate < 2 then (b.modLane n k (Lane.step set.isSome)).rateSwitched n else b
  | .fastRetrain => if p.rate < 2 then b.modLane n k (Lane.step same) else b
  | .active =>
    match set with
    | some x => if p.rate < 2 ∧ x.inMap = p.inMap then b.sledDropped n x.outMap else b
    | none => b
  | _ => b

/-- RATE_SWITCH_NOTICE_RECEIVE: the sled's notice on a lane, 16 code groups; one that is not good is discarded (R256, R260). -/
def doRateSwitchNoticeReceive (n k : Nat) (gs : List Nat) (b : Bridge) : Bridge :=
  let b := b.setIn n k .swt gs
  if (b.phy n).state = .rateSwitch ∧ (readSet .swt gs).1.isSome then b.modPhy n (fun p => { p with notices := putBit p.notices k true }) else b

/-- RATE_SWITCH_IDLE_END: the idle of 1 us after the notices ends: frames or sets go out at the new rate (R260). -/
def doRateSwitchIdleEnd (n : Nat) (b : Bridge) : Bridge :=
  let p := b.phy n
  if p.state = .rateSwitch ∧ !p.idleDone then
    let b := b.modPhy n (fun p => { p with idleDone := true, rate := p.nextRate })
    if 2 ≤ p.nextRate then b.emit (.lanes n (.trainingFrames p.outMap p.inMap false))
    else b.emit (.lanes n (.confirmSets p.nextRate p.outMap p.inMap p.test false))
  else b

/-- One tap after a request: its value and the status to report (R259). -/
def moveTap (lo hi : Int) (req : Nat) (v : Int) : Int × Nat :=
  match req with
  | 1 => if v < hi then (v + 1, 1) else (v, 3)
  | 2 => if lo < v then (v - 1, 1) else (v, 2)
  | _ => (v, 0)

/-- A frame's requests are applied to the transmitter of its lane (R259): a preset first, then each tap. -/
def Lane.applyReq (reqs : Nat × Nat × Nat) (preset : Nat) (l : Lane) : Lane :=
  let l := if 1 ≤ preset ∧ preset ≤ 5 then l.setPreset preset else l
  let a := moveTap 0 8 reqs.1 l.cm2
  let c := moveTap (-16) 0 reqs.2.1 l.cm1
  let d := moveTap (-16) 0 reqs.2.2 l.cp1
  { l with cm2 := a.1, cm1 := c.1, cp1 := d.1, tapStatus := (a.2, c.2, d.2) }

/-- TRAINING_FRAME_RECEIVE (R259, R260, R265, R267): a frame on a lane, its control field and the mismatches in its pattern; `settled`: the
bridge's receiver on the lane needs no further change. A field with a bad CHK is no good frame. On a lane outside the map the frames
are the keep-alive: their mismatches are counted, and the transmitter of the same number adapts while it carries no data. -/
def doTrainingFrameReceive (n k ctrl : Nat) (settled : Bool) (errs : Nat) (b : Bridge) : Bridge :=
  let p := b.phy n
  let frame := readFrame ctrl
  let good := frame.isSome
  let fast := frame.any FrameFields.fast
  let rxReady := frame.any FrameFields.rxReady
  let adapt : Bridge → Bridge := fun b => match frame with
    | some x => if x.fast then b else b.modLane n k (Lane.applyReq x.reqs x.preset)
    | none => b
  let keep : Bridge → Bridge := fun b =>
    if bitOf p.inMap k then b
    else (if bitOf p.outMap k then b else adapt b).modLane n k (fun l => { l with prbsErr := cnt32 l.prbsErr errs })
  if p.state = .rateSwitch ∧ p.idleDone ∧ 2 ≤ p.nextRate then
    ((adapt b).modLane n k (fun l => { (l.step good) with locked := l.locked || good })).rateSwitched n
  else if p.rate < 2 then b
  else
    match p.state with
    | .equalize =>
      let b := (adapt b).modLane n k (fun l => { l with ready := if good && rxReady && settled then l.ready + 1 else 0 })
      let p := b.phy n
      if p.allIn (laneMask (maskLanes p.outMap ++ maskLanes p.inMap)) (fun l => decide (8 ≤ l.ready)) then b.enterAlign n else b
    | .fastRetrain =>
      if fast ∨ bitOf p.inMap k then
        b.modLane n k (Lane.step (fast && rxReady && frame.any (fun x => decide (x.outMap = p.outMap) && decide (x.inMap = p.inMap))))
      else keep b
    | .active =>
      match frame with
      | some x => if x.fast ∧ x.inMap = p.inMap then b.sledDropped n x.outMap else keep b
      | none => keep b
    | .exit => keep b
    | _ => b

/-- An offset in ppm as FREQ_OFF shows it (R273). -/
def clampPpm (v : Int) : Int := if v < -127 then -127 else if 127 < v then 127 else v

/-- What a lane carries on with at block 0, from its alignment set or marker: the disparity after the set, or level 0 after the marker
(R253, R255); none: its CHK or CRC-8 is bad (R256, R258). In NRZ modes 16 code groups, in PAM4 modes the 8 bytes after the marker. -/
def alignCarry (pam4 : Bool) (mark : List Nat) : Option Nat :=
  if pam4 then if mark.length = 8 ∧ chkGood (bytesNat mark) then some 0 else none
  else (readSet .aln mark).1.map (fun _ => b2n (readSet .aln mark).2.2)

/-- ALIGNMENT_RECEIVE: an alignment set or marker on a lane, with the lane's skew in ns and its offset in ppm (R251, R260, R269). -/
def doAlignmentReceive (n k skew : Nat) (ppm : Int) (mark : List Nat) (b : Bridge) : Bridge :=
  match alignCarry (decide (2 ≤ (b.phy n).rate)) mark with
  | none => b
  | some c =>
    let p := b.phy n
    match p.state with
    | .align =>
      let b := b.modLane n k (fun l => { l with aligned := true, freqOff := clampPpm ppm, locked := true, carry := c })
      if !bitOf p.inMap k then b
      else if 16 < skew then b.trainFails n 6
      else if ppm < -20 ∨ 20 < ppm then b.trainFails n 7
      else if (b.phy n).allIn p.inMap (fun l => l.aligned) then b.lanesActive n
      else b
    | .exit =>
      let b := b.modLane n k (fun l => { l with aligned := true, carry := c })
      if (b.phy n).allIn p.inMap (fun l => l.aligned) then
        (b.modPhy n (fun p => { p with eidleExit := cnt32 p.eidleExit 1 })).lanesActive n
      else b
    | .fastRetrain => b.modLane n k (fun l => { l with carry := c })
    | .active => b.modLane n k (fun l => { l with carry := c })
    | _ => b

/-- IDLE_ENTRY_RECEIVE: the idle-entry pattern arrives, and the detectors hold until exit (R268). -/
def doIdleEntryReceive (n : Nat) (b : Bridge) : Bridge :=
  if (b.phy n).state = .active ∨ (b.phy n).state = .eidle then b.modPhy n (fun p => { p with idleRcvd := true }) else b

/-- The bridge sends its exit burst, lock run and alignment (R269). -/
def Bridge.exitIdle (n : Nat) (b : Bridge) : Bridge :=
  if (b.phy n).state = .eidle then
    (b.modPhy n (fun p => { (p.allLanes Lane.restart) with state := .exit, idleSent := false, idleRcvd := false })).emit (.lanes n .exitBurst)
  else b

/-- EXIT_BURST_RECEIVE: a burst of the sled is answered with the bridge's own (R269, R414). -/
def doExitBurstReceive (n : Nat) (b : Bridge) : Bridge := (b.level (48 * n + 11) true).exitIdle n

/-- EIDLE_EXIT_START: the bridge leaves electrical idle (R269). -/
def doEidleExitStart (n : Nat) (b : Bridge) : Bridge := b.exitIdle n

/-- EXIT_ALIGNMENT_TIMEOUT: a mapped lane without alignment 1 us after the burst fails, and a fast retrain starts (R260, R264). -/
def doExitAlignmentTimeout (n k : Nat) (b : Bridge) : Bridge :=
  let p := b.phy n
  if p.state = .exit ∧ bitOf p.inMap k ∧ !(p.ln k).aligned then (b.markLane n false k).2.startRetrain n else b

/-- TRAINING_STATE_TIMEOUT: a training state passes its bound (R260). RATE_SWITCH has a bound and no failure code of its own, so
the code is open (log entry 4). -/
def doTrainingStateTimeout (n : Nat) (b : Bridge) : Bridge :=
  match (b.phy n).state with
  | .detect => b.trainFails n 9
  | .sync => b.trainFails n 1
  | .offer => b.trainFails n 2
  | .confirm => b.trainFails n 4
  | .rateSwitch =>
    let (k, b) := b.freeNat
    b.trainFails n (if k % 16 = 3 then 0 else k % 16)
  | .equalize => b.trainFails n 5
  | .align => b.trainFails n 6
  | _ => b

/-- LOS or LOL asserts: counted, and an event of the lane's source, outside the states where it is expected (R262, R264). -/
def Bridge.lossOf (n k : Nat) (los : Bool) (b : Bridge) : Bridge :=
  let p := b.phy n
  if p.state = .eidle ∨ p.state = .disabled ∨ p.state = .down ∨ p.idleRcvd then b
  else
    let b := b.modLane n k (fun l => if los then { l with losCnt := cnt32 l.losCnt 1 } else { l with lolCnt := cnt32 l.lolCnt 1 })
    b.note n (15 + k) (b2n (!los))

/-- LOS_CHANGE (R262, R264). -/
def doLosChange (n k : Nat) (on : Bool) (b : Bridge) : Bridge :=
  let was := ((b.phy n).ln k).los
  let b := b.modLane n k (fun l => { l with los := on })
  if on ∧ !was then b.lossOf n k true else b

/-- LOL_CHANGE (R262, R264). -/
def doLolChange (n k : Nat) (on : Bool) (b : Bridge) : Bridge :=
  let was := ((b.phy n).ln k).lol
  let b := b.modLane n k (fun l => { l with lol := on })
  if on ∧ !was then b.lossOf n k false else b

/-- FAST_RETRAIN_DONE: 8 frames, or 16 sets, on every lane of the new maps, and the alignment is sent: data blocks resume (R265); a
rate change that waited starts (R266). -/
def doFastRetrainDone (n : Nat) (b : Bridge) : Bridge :=
  let p := b.phy n
  let need := if 2 ≤ p.rate then 8 else 16
  if p.state = .fastRetrain && p.allIn p.inMap (fun l => decide (need ≤ l.run)) then
    let wait := p.rateWait
    let b := (b.modPhy n (fun p => { p with fastRt := cnt32 p.fastRt 1, rateWait := false })).emit (.lanes n .alignment)
    let b := b.lanesActive n
    if wait then (b.pauseLink n).enterRateSwitch n else b
  else b

/-- FAST_RETRAIN_TIMEOUT: a fast retrain passes its bound (R260, R266). -/
def doFastRetrainTimeout (n : Nat) (b : Bridge) : Bridge :=
  if (b.phy n).state = .fastRetrain then b.retrainFails n else b

/-- A lane sends PRBS: in TEST with its generator on, or as NRZ keep-alive (R267, R270, R271). -/
def Phy.sendsPrbs (p : Phy) (k : Nat) : Bool :=
  match p.state with
  | .test => decide ((p.ln k).prbsTest % 4 ≠ 0)
  | .active => p.rate < 2 && !bitOf p.outMap k && bitOf p.sledRxOk k
  | .fastRetrain => p.rate < 2 && !bitOf p.outMap k && bitOf p.sledRxOk k
  | _ => false

/-- A lane's checker runs: in TEST with CHK on, or on NRZ keep-alive (R267, R270, R271). -/
def Phy.checksPrbs (p : Phy) (k : Nat) : Bool :=
  match p.state with
  | .test => decide ((p.ln k).prbsTest / 4 % 4 ≠ 0)
  | .active => p.rate < 2 && !bitOf p.inMap k && (p.ln k).locked
  | .fastRetrain => p.rate < 2 && !bitOf p.inMap k && (p.ln k).locked
  | _ => false

/-- PRBS_LOCK_CHANGE: a checker locks, or loses lock; the bits and mismatches it has counted since the last change (R270). -/
def doPrbsLockChange (n k : Nat) (on : Bool) (bits errs : Nat) (b : Bridge) : Bridge :=
  if (b.phy n).checksPrbs k then
    b.modLane n k (fun l => { l with
      prbsLock := on
      prbsBits := if l.prbsLock then (l.prbsBits + bits) % 2 ^ 64 else l.prbsBits
      prbsErr := if l.prbsLock then cnt32 l.prbsErr errs else l.prbsErr })
  else b

/-- PRBS_INJECT_ONE: the next PRBS bit sent on a lane is inverted; on a lane sending none it waits (R271, R273). -/
def doPrbsInjectOne (n k : Nat) (b : Bridge) : Bridge :=
  if (b.phy n).sendsPrbs k then
    (b.modLane n k (fun l => { l with injOne := false })).emit (.lanes n (.prbs k (((b.phy n).ln k).prbsCtrl + 32)))
  else b.modLane n k (fun l => { l with injOne := true })

/-- RATE_CHANGE_START: RATE_REQ asks for the rate that the limit now calls for (R250, R299). -/
def doRateChangeStart (n : Nat) (b : Bridge) : Bridge :=
  let p := b.phy n
  let l := (b.chan n).ll
  match p.bestRate with
  | some r =>
    if l.state = .up ∧ p.state = .active ∧ l.rateReq.isNone ∧ r ≠ p.rate then
      (b.modLl n (fun l => { l with rateReq := some r })).sendRec n (.rateReq r)
    else b
  | none => b

/-- RATE_RSP_RECEIVE (R266, R299): on acceptance the link pauses and the lanes enter RATE_SWITCH, after a fast retrain where one
runs. -/
def doRateRspReceive (n : Nat) (accept : Bool) (b : Bridge) : Bridge :=
  let l := (b.chan n).ll
  match l.rateReq with
  | none => b
  | some r =>
    if !accept then b.modLl n (fun l => { l with rateReq := none })
    else
      match (b.phy n).state with
      | .active =>
        let b := (b.pauseLink n).modPhy n (fun p => { p with nextRate := r, full := false })
        b.enterRateSwitch n
      | .fastRetrain => b.modPhy n (fun p => { p with nextRate := r, rateWait := true })
      | _ => b

/-- PM_RSP_RECEIVE (R266, R268, R300): on acceptance the idle-entry pattern goes out and the link pauses; a refusal, or a fast
retrain that came first, abandons the request. -/
def doPmRspReceive (n : Nat) (accept : Bool) (b : Bridge) : Bridge :=
  let l := (b.chan n).ll
  if !l.pmSent then b
  else if accept ∧ l.state = .up ∧ (b.phy n).state = .active then
    let b := b.pauseLink n
    let b := b.modLl n (fun l => { l with refreshing := l.pmRefresh })
    (b.modPhy n (fun p => { p with state := .eidle, idleSent := true })).emit (.lanes n .idlePattern)
  else b.modLl n (fun l => { l with pmSent := false })

/-- A bad flit is discarded, and the receiver enters retry (R282, R287). -/
def Bridge.badFlit (n : Nat) (b : Bridge) : Bridge :=
  (b.modLl n (fun l => { l with badFlit := cnt32 l.badFlit 1 })).askRetry n

/-- A block as a channel's lanes read it (R252). -/
def Bridge.blockIn (n : Nat) (block : List Nat) (b : Bridge) : BlockIn :=
  let p := b.phy n
  readBlock (decide (2 ≤ p.rate)) ((maskLanes p.inMap).map (fun k => (p.ln k).carry)) block

/-- A block's reading is kept on its lanes, and its errors are charged to them: byte i lies on logical lane i mod W (R252, R263). -/
def Bridge.blockTaken (n : Nat) (r : BlockIn) (b : Bridge) : Bridge :=
  let ls := maskLanes (b.phy n).inMap
  let b := b.each (List.zip ls r.carry) (fun x b => b.modLane n x.1 (fun l => { l with carry := x.2 }))
  b.chargeLanes n (r.errs.map (fun i => (ls.getD (i % ls.length) 0, i / ls.length)))

/-- A good flit is handled by its header and slots (R276, R286-R288, R298). -/
def Bridge.goodFlit (n : Nat) (flit : List Nat) (b : Bridge) : Bridge :=
  let l := (b.chan n).ll
  let h := FlitHead.of flit
  let reserved := if h.kind = 2 then reservedRecs flit else 0
  if l.state = .init then b.modLl n (fun l => { l with protoErr := cnt32 l.protoErr reserved })
  else if 3 ≤ h.kind ∨ slotsBad h flit = true ∨ l.ackValid h.ack = false then b.protoError n h.kind
  else
    let more := decide ((h.ack + 1 + 4096 - l.oldest) % 4096 ≠ 0)
    let b := (b.ackIn n h.ack).modLl n (fun l => { l with
      replaying := l.replaying && !more, protoErr := cnt32 l.protoErr reserved })
    if h.kind = 1 then
      if h.seq = l.exp then
        b.modLl n (fun l => { l with exp := (l.exp + 1) % 4096, retrying := false, rxFlits := l.rxFlits + 1 })
      else if 1 ≤ (l.exp + 4096 - h.seq) % 4096 ∧ (l.exp + 4096 - h.seq) % 4096 ≤ 128 then b
      else b.askRetry n
    else b

/-- FLIT_RECEIVE (R252-R255, R263, R275-R282, R286-R288, R298): a block arrives: in NRZ modes 256 code groups, in PAM4 modes the levels of 272
bytes, a bad one discarded. The units and records of an accepted flit are commands of their own. -/
def doFlitReceive (n : Nat) (block : List Nat) (b : Bridge) : Bridge :=
  let l := (b.chan n).ll
  if l.state ≠ .up ∧ l.state ≠ .init then b
  else
    let r := b.blockIn n block
    let b := b.blockTaken n r
    if r.bad = 0 then b.goodFlit n r.flit
    else
      let b := if r.bad = 1 then b.modLl n (fun l => { l with fecUncorr := cnt32 l.fecUncorr 1 }) else b
      if l.state = .up then b.badFlit n else b.modLl n (fun l => { l with badFlit := cnt32 l.badFlit 1 })

/-- INIT_DONE_RECEIVE (R296, R298). -/
def doInitDoneReceive (n : Nat) (b : Bridge) : Bridge :=
  if (b.chan n).ll.state = .init then (b.modLl n (fun l => { l with doneRcvd := true })).tryUp n else b

end Sys2Proof.Machine
end

