-- ==== Sys2Proof/Machine/Scans.lean ====
section
/-! DEFINITION. Job rings, the job fetcher, the dispatcher and the retriever lanes (chapter 05, R128, R129, R225-R228). -/

namespace Sys2Proof.Machine

open Sys2Proof

/-- Ring `k` of function `fn` (R180). -/
def Bridge.ring (b : Bridge) (fn k : Nat) : Ring := Tbl.get {} (fn * 8 + k) b.scan.ring

/-- Change the scans. -/
def Bridge.modScan (f : Scans → Scans) (b : Bridge) : Bridge := { b with scan := f b.scan }

/-- Change ring `k` of function `fn`. -/
def Bridge.modRing (fn k : Nat) (f : Ring → Ring) (b : Bridge) : Bridge :=
  b.modScan (fun s => { s with ring := Tbl.put (fn * 8 + k) (f (Tbl.get {} (fn * 8 + k) s.ring)) s.ring })

/-- Rings of a function: 8 for PF0, an instance's own count for a VF, none for a VF without an instance (R144). -/
def Bridge.ringCount (b : Bridge) (fn : Nat) : Nat :=
  if fn = 0 then 8
  else
    match (b.inst fn).state with
    | .live => (b.inst fn).grant.rings
    | .tearing => if (b.inst fn).tornAt.isSome then 0 else (b.inst fn).grant.rings
    | _ => 0

/-- JOB_DOORBELL (R145): a TAIL too far ahead is discarded and sets DB_ERR. A ring that is not enabled takes it too (log entry 106). -/
def doJobDoorbell (fn k tail : Nat) (b : Bridge) : Bridge :=
  if b.ringCount fn ≤ k then b
  else
    let r := b.ring fn k
    let t := tail % 65536
    if 2 ^ r.sizeLog2 < (t + 65536 - r.head) % 65536 then (b.modRing fn k (fun r => { r with dbErr := true })).event 0x29 8 false (fn * 8 + k) none
    else b.modRing fn k (fun r => { r with tail := t, bells := r.bells ++ [(t, b.port.nextReq)] })

/-- RING_ENABLE: ENABLE goes from 0 to 1, and HEAD and TAIL to 0 (R145): a descriptor read still outstanding moves HEAD no more (log entry
104). -/
def doRingEnable (fn k : Nat) (b : Bridge) : Bridge :=
  if b.ringCount fn ≤ k || (b.ring fn k).enable then b
  else
    (b.modRing fn k (fun r => { r with enable := true, head := 0, tail := 0, bells := [], marks := [] })).modScan (fun s => { s with
      fetch := s.fetch.map (fun e => (e.1, if e.2.fn = fn ∧ e.2.ring = k then { e.2 with stale := true } else e.2)) })

/-- RING_DISABLE: fetching from the ring stops (R181). -/
def doRingDisable (fn k : Nat) (b : Bridge) : Bridge :=
  if b.ringCount fn ≤ k then b else b.modRing fn k (fun r => { r with enable := false })

/-- Accepted, uncompleted jobs that a test accepts (R146, R179). -/
def Bridge.jobs (b : Bridge) (p : Job → Bool) : Nat := (b.scan.job.filter (fun e => e.2.refused.isNone && !e.2.lost && p e.2)).length

/-- A block of a fetch. -/
def Fetch.block (f : Fetch) : BlockKind → Block
  | .descriptor => f.desc
  | .header => f.hdr
  | .program => f.prog
  | .setTable => f.set
  | .extentList => f.list

/-- Change a block of a fetch. -/
def Fetch.setBlock (f : Fetch) (k : BlockKind) (v : Block) : Fetch :=
  match k with
  | .descriptor => { f with desc := v }
  | .header => { f with hdr := v }
  | .program => { f with prog := v }
  | .setTable => { f with set := v }
  | .extentList => { f with list := v }

/-- The bytes of a block that has been read, or none yet. -/
def Block.bytes : Block → List Byte
  | .read bs => bs
  | _ => []

/-- A block has been read, or its read has failed. -/
def Block.settled : Block → Bool
  | .read _ => true
  | .failed => true
  | _ => false

/-- The kinds of block in the order they are asked for. -/
def blockKinds : List BlockKind := [.descriptor, .header, .program, .setTable, .extentList]

/-- A fetch's program as far as it has been read. -/
def Fetch.program (f : Fetch) : Prog := { desc := f.desc.bytes, prog := f.prog.bytes, set := f.set.bytes }

/-- The host address of a fetch's block (R145, R157). -/
def Bridge.blockAddr (b : Bridge) (f : Fetch) (k : BlockKind) : Nat :=
  match k with
  | .descriptor =>
    let r := b.ring f.fn f.ring
    r.base + f.index % 2 ^ r.sizeLog2 * 128
  | .header => f.program.ring
  | .program => fieldAt 40 8 f.desc.bytes
  | .setTable => fieldAt 56 8 f.desc.bytes
  | .extentList => fieldAt 8 8 f.desc.bytes

/-- Change fetch `id`. -/
def Bridge.modFetch (id : Nat) (f : Fetch → Fetch) (b : Bridge) : Bridge :=
  b.modScan (fun s => { s with fetch := s.fetch.map (fun e => if e.1 = id then (e.1, f e.2) else e) })

/-- One more non-posted request may be outstanding, in the device and for the function, and Bus Master Enable is set (R225). -/
def Bridge.mayRead (b : Bridge) (fn : Nat) : Bool :=
  (b.func fn).bme && decide (b.port.outReads.length < 512)
    && decide ((b.port.outReads.filter (fun e => decide (e.2.fn = fn))).length < 64)

/-- The bridge issues a memory read (R225). -/
def Bridge.issueRead (fn addr len : Nat) (use : ReadUse) (b : Bridge) : Bridge :=
  let t := (((List.range 513).map (fun k => (b.port.nextTag + k) % 1024)).find? (fun k => (Tbl.find k b.port.outReads).isNone)).getD 0
  (b.modPort (fun p => { p with nextTag := (t + 1) % 1024, outReads := Tbl.put t { fn := fn, addr := addr, len := len, use := use } p.outReads })).emit
    (.hostRd fn t addr len)

/-- Max_Read_Request_Size in bytes: PF0's for every function (R225). -/
def Bridge.mrrsBytes (b : Bridge) : Nat := 128 * 2 ^ (b.func 0).mrrs

/-- A block has a read outstanding. -/
def Bridge.blockAsked (b : Bridge) (id : Nat) (k : BlockKind) : Bool :=
  b.port.outReads.any (fun e => match e.2.use with
    | .block j l _ => decide (j = id ∧ l = k)
    | .consumer _ => false)

/-- Ask for the next part of a fetch's block: within one 4 KiB block and Max_Read_Request_Size (R225). -/
def Bridge.askBlock (id : Nat) (k : BlockKind) (b : Bridge) : Bridge :=
  match Tbl.find id b.scan.fetch with
  | none => b
  | some f =>
    match f.block k with
    | .reading got ((off, len) :: t) =>
      if b.blockAsked id k || !b.mayRead f.fn then b
      else
        let a := b.blockAddr f k + off
        let n := Nat.min len (Nat.min b.mrrsBytes (4096 - a % 4096))
        let rest := if n = len then t else (off + n, len - n) :: t
        (b.modFetch id (fun f => f.setBlock k (.reading got rest))).issueRead f.fn a n (.block id k off)
    | _ => b

/-- The fetches ask for what they lack: the set table once the program block says that a term needs it (R148). -/
def Bridge.askBlocks (b : Bridge) : Bridge :=
  b.each (Tbl.keys b.scan.fetch) (fun id b =>
    let b := b.modFetch id (fun f =>
      match f.prog, f.set with
      | .read _, .unasked => if f.program.inSet then { f with set := .reading (List.replicate 4096 0) [(0, 4096)] } else f
      | _, _ => f)
    b.each blockKinds (fun k b => b.askBlock id k))

/-- The fetcher's visit of a ring finds a descriptor to fetch (R144, R146, R179); none while the dispatcher is stopped (R177). A ring whose last
descriptor is still being fetched is skipped. -/
def Bridge.mayFetch (b : Bridge) (fn k : Nat) : Bool :=
  let r := b.ring fn k
  let mine : Job → Bool := fun j => decide (j.fn = fn ∧ j.ring = k)
  decide (k < b.ringCount fn) && decide (2 ≤ b.glb.level) && !b.scan.stopped && b.awake && r.enable && decide (r.head ≠ r.tail)
    && decide (b.jobs mine < 8) && decide (b.jobs (fun _ => true) + b.scan.fetch.length < 2048) && (b.func fn).bme
    && decide (b.scan.fetch.length < 100) && !b.scan.fetch.any (fun e => decide (e.2.fn = fn ∧ e.2.ring = k))

/-- The ring that the fetcher's round comes to next: instances in ascending number, and each one's rings in ascending number (R146). -/
def Bridge.fetchTurn (b : Bridge) : Option Nat :=
  let after : Nat → Nat := fun key => (key + 2048 - b.scan.visit) % 2048
  (((Tbl.keys b.scan.ring).filter (fun key => b.mayFetch (key / 8) (key % 8)))).foldl (fun best key => match best with
    | none => some key
    | some k => if after key < after k then some key else some k) none

/-- JOB_FETCH: the fetcher visits a ring and reads its next descriptor, when the round comes to it (R146). -/
def doJobFetch (fn k : Nat) (b : Bridge) : Bridge :=
  if b.fetchTurn ≠ some (fn * 8 + k) then b
  else
    let r := b.ring fn k
    let bell := (r.bells.find? (fun t => decide (t.1 ≠ r.head))).map Prod.snd
    let f : Fetch := { fn := fn, ring := k, index := r.head, before := bell.getD b.port.nextReq, desc := .reading (List.replicate 128 0) [(0, 128)] }
    (b.modScan (fun s => { s with fetch := s.fetch ++ [(s.nextId, f)], nextId := s.nextId + 1, visit := (fn * 8 + k + 1) % 2048 })).askBlocks

/-- DESCRIPTOR_READ_COMPLETE: HEAD passes the descriptor, and the other blocks are asked for; a failed read sets FETCH_ERR (R147,
R148). A ring enabled anew meanwhile keeps its HEAD (log entry 104). -/
def doDescriptorReadComplete (id : Nat) (b : Bridge) : Bridge :=
  match Tbl.find id b.scan.fetch with
  | none => b
  | some f =>
    if f.hdr ≠ .unasked then b
    else
      let pass : Ring → Ring := fun r =>
        let h := (f.index + 1) % 65536
        if f.stale then r else { r with head := h, bells := r.bells.filter (fun t => decide (t.1 ≠ h)) }
      match f.desc with
      | .read bs =>
        let n := fieldAt 16 8 bs
        ((b.modRing f.fn f.ring pass).modFetch id (fun f => { f with
          hdr := .reading (List.replicate 64 0) [(0, 64)]
          prog := .reading (List.replicate 2048 0) [(0, 64)]
          list := if f.program.isList ∧ 1 ≤ n ∧ n ≤ 65536 then .reading (List.replicate (4 * n) 0) [(0, 4 * n)] else .unasked })).askBlocks
      | .failed =>
        let b := b.modRing f.fn f.ring (fun r => { pass r with fetchErr := true, errIndex := f.index })
        (b.modScan (fun s => { s with fetch := Tbl.del id s.fetch })).event 0x29 8 false (f.fn * 8 + f.ring) none
      | _ => b

-- Result rings -------------------------------------------------------------------------------------------------------------

/-- Change job `id`. -/
def Bridge.modJob (id : Nat) (f : Job → Job) (b : Bridge) : Bridge :=
  b.modScan (fun s => { s with job := s.job.map (fun e => if e.1 = id then (e.1, f e.2) else e) })

/-- Bytes of PAD that a record of a length needs at the buffer's end (R170). -/
def ResultRing.pad (r : ResultRing) (len : Nat) : Nat := if r.size < r.prod % r.size + len then r.size - r.prod % r.size else 0

/-- The ring has room for a record of a length (R170). -/
def ResultRing.room (r : ResultRing) (len : Nat) : Bool := decide (len + r.pad len ≤ r.size - (r.prod - r.cons))

/-- Bytes written into host memory, in writes within Max_Payload_Size (R170, R225). -/
def Bridge.hostWrite (fn addr : Nat) (bs : List Byte) (b : Bridge) : Bridge :=
  let b := b.modPort (fun p => { p with txWr := p.txWr + bs.length })
  b.emits ((blocksOf b.mpsBytes (bs.length + 1) addr bs.length).map (fun s => .hostWr fn s.1 (bytesAt (s.1 - addr) s.2 bs)))

/-- Write one record of a job, with the PAD it needs, where the ring has room for both (R170, R171). Answers whether it did; the
bytes are counted on the channel whose lane wrote it. -/
def Bridge.writeRec (id : Nat) (ch : Option Nat) (r : Rec) (b : Bridge) : Bool × Bridge :=
  match Tbl.find id b.scan.job with
  | none => (false, b)
  | some j =>
    let len := 64 * r.units
    if !(b.func j.fn).bme || j.lost then (false, b)
    else if !j.rr.room len then (false, b.modJob id (fun j => { j with rr := { j.rr with short := true } }))
    else
      let pad := j.rr.pad len
      let tag := j.program.tag
      let padRec := bytesAt 0 pad (leBytes 1 0x0E ++ leBytes 1 0 ++ leBytes 2 (pad / 64) ++ leBytes 4 tag ++ leBytes 4 0xFFFFFFFF)
      let b := if pad = 0 then b else b.hostWrite j.fn (j.rr.base + j.rr.prod % j.rr.size) padRec
      let at' := j.rr.prod + pad
      let b := b.hostWrite j.fn (j.rr.base + at' % j.rr.size) (r.bytes tag j.records)
      let b := b.modJob id (fun j => { j with records := j.records + 1, rr := { j.rr with prod := at' + len, dirty := true } })
      (true, match ch with
        | some n => b.modRtv n (fun x => { x with outBytes := x.outBytes + len + pad })
        | none => b)

/-- Write records in order until one does not fit. Answers what is left. -/
def Bridge.writeRecs (id : Nat) (ch : Option Nat) : List Rec → Bridge → List Rec × Bridge
  | [], b => ([], b)
  | r :: t, b =>
    let (ok, b) := b.writeRec id ch r
    if ok then b.writeRecs id ch t else (r :: t, b)

/-- PRODUCER is written after a run of records (R170). -/
def Bridge.writeProducer (id : Nat) (b : Bridge) : Bridge :=
  match Tbl.find id b.scan.job with
  | none => b
  | some j =>
    if j.rr.dirty then
      (b.hostWrite j.fn (j.program.ring + 16) (leBytes 8 j.rr.prod)).modJob id (fun j => { j with rr := { j.rr with dirty := false } })
    else b

/-- The records of pieces that ended without a lane go out first. Answers whether none is left. -/
def Bridge.writeEnds (id : Nat) (b : Bridge) : Bool × Bridge :=
  match Tbl.find id b.scan.job with
  | none => (false, b)
  | some j =>
    let (left, b) := b.writeRecs id none j.ends
    (left.isEmpty, b.modJob id (fun j => { j with ends := left }))

/-- A result ring as another job of it left it: PRODUCER is the bridge's own count, and CONSUMER has not gone back (R149, R169, R170). -/
def ResultRing.takeOver (old new : ResultRing) : ResultRing :=
  { new with prod := old.prod, cons := Nat.max old.cons new.cons, readAt := old.readAt }

/-- A header read before the ring's last job was over: PRODUCER, and CONSUMER as last read, stand as that job left them (R169). -/
def Block.afterJob (rr : ResultRing) : Block → Block
  | .read h => .read (h.take 16 ++ leBytes 8 rr.prod ++ leBytes 8 (Nat.max rr.cons (fieldAt 24 8 h)) ++ h.drop 32)
  | x => x

/-- A job is over: its completion is counted, its vector sent, and a job held for its ring takes the ring as it stands (R149,
R170, R379). -/
def Bridge.jobDone (id : Nat) (b : Bridge) : Bridge :=
  match Tbl.find id b.scan.job with
  | none => b
  | some j =>
    let b := b.writeProducer id
    let rr := ((Tbl.find id b.scan.job).map (fun j => j.rr)).getD j.rr
    let same : Prog → Bool := fun p => decide (p.ring = j.program.ring)
    let b := b.modScan (fun s => { s with
      job := (Tbl.del id s.job).map (fun (e : Nat × Job) => if same e.2.program then (e.1, { e.2 with rr := rr.takeOver e.2.rr }) else e)
      fetch := s.fetch.map (fun (e : Nat × Fetch) => if same e.2.program then (e.1, { e.2 with hdr := e.2.hdr.afterJob rr }) else e)
      done := Tbl.put j.fn (Tbl.get 0 j.fn s.done + 1) s.done })
    if j.program.flag 4 ∧ (j.refused).all (fun r => decide (r.1 ≠ 2)) then b.raise j.fn (fieldAt 34 2 j.desc)
    else if j.program.flag 4 ∧ fieldAt 34 2 j.desc < b.vectors j.fn then b.raise j.fn (fieldAt 34 2 j.desc)
    else b

/-- The final records of a job, once every piece has ended or been dropped (R170-R173). -/
def Job.final (j : Job) : List Rec :=
  let agg : List Rec := if j.refused.isNone && j.program.output = 3 then
      [{ kind := 4, piece := 0xFFFFFFFF, count := 17, body := j.program.aggBody (if j.acc.isEmpty then emptyAcc else j.acc) }] else []
  agg ++ [j.completion (j.records + agg.length)]

/-- A job writes what it can: records of pieces that ended without a lane, and its final records (R170-R173). -/
def Bridge.jobPump (id : Nat) (b : Bridge) : Bridge :=
  match Tbl.find id b.scan.job with
  | none => b
  | some j =>
    if j.ringHeld then b
    else
      let (none?, b) := b.writeEnds id
      match Tbl.find id b.scan.job with
      | none => b
      | some j =>
        if none? && decide (j.total = j.ok + j.other + j.dropped) then
          let (left, b) := b.writeRecs id none (j.finals.getD j.final)
          if left.isEmpty then b.jobDone id else (b.modJob id (fun j => { j with finals := some left })).writeProducer id
        else b.writeProducer id

/-- A job's pieces that no grant has taken are dropped (R155, R175, R177): those queued and those not placed. -/
def Bridge.dropUngranted (id : Nat) (b : Bridge) : Bridge :=
  let mine : Piece → Bool := fun p => decide (p.job = id) && !p.granted
  let queued := (channels.map (fun n => (((b.chan n).rtv.nearQ ++ (b.chan n).rtv.farQ).filter mine).length)).foldl (· + ·) 0
  let b := b.each channels (fun n b => b.modRtv n (fun r => { r with
    nearQ := r.nearQ.filter (fun p => !mine p), farQ := r.farQ.filter (fun p => !mine p) }))
  b.modJob id (fun j =>
    let waiting := (j.runs.map (fun r => r.2.2)).foldl (· + ·) 0
    let left := if j.split then waiting else j.total - j.ok - j.other - j.dropped - queued
    { j with runs := [], split := true, dropped := j.dropped + queued + left })

/-- A job is cancelled at the dispatcher (R155): the pieces dropped and those still running. Held pieces of other jobs enter the queues that come
to have room at their next PIECE_PLACE (R153). -/
def Bridge.cancelJob (id : Nat) (b : Bridge) : Nat × Nat × Bridge :=
  let before := ((Tbl.find id b.scan.job).map (fun j => j.dropped)).getD 0
  let b := b.dropUngranted id
  match Tbl.find id b.scan.job with
  | none => (0, 0, b)
  | some j =>
    let n := j.dropped - before
    let b := b.modJob id (fun j => { j with cancelled := j.cancelled || decide (n ≠ 0) })
    (n, j.total - j.ok - j.other - j.dropped, b.jobPump id)

-- Acceptance ---------------------------------------------------------------------------------------------------------------

/-- The result ring header breaks R169 (R148). -/
def badHeader (h : List Byte) : Bool :=
  let size := fieldAt 8 4 h
  let prod := fieldAt 16 8 h
  let cons := fieldAt 24 8 h
  decide (fieldAt 0 8 h % 4096 ≠ 0) || !((List.range 19).any (fun k => decide (size = 4096 * 2 ^ k))) || decide (prod < cons) || decide (size < prod - cons)

/-- INVALID_DESC or FETCH_ERROR with its DETAIL, where the job is refused (R148): what breaks a rule goes first, as far as it has been read
(R172). -/
def Fetch.refusal (f : Fetch) (segs vectors : Nat) : Option (Nat × Nat) :=
  let p := f.program
  let progRead := match f.prog with
    | .read _ => true
    | _ => false
  let bad := (p.descChecks segs vectors f.list.bytes).find? (fun c => c.2 && (progRead || decide (c.1 ≠ 56)))
  let wrong := if progRead then p.checks.find? (fun c => c.2) else none
  match bad, wrong with
  | some (o, _), _ => some (2, o)
  | none, some (o, _) => some (2, 0x80 + o / 16)
  | none, none => if f.prog = .failed ∨ f.set = .failed ∨ f.list = .failed then some (3, 0) else none

/-- Where an extent of an instance lies in the order of the DLA: extents of segments it does not have come first (R158). -/
def Bridge.extOrder (b : Bridge) (inst ext : Nat) : Nat :=
  match b.segAt inst (ext / 512) with
  | some e => e.dlaSeg * 512 + ext % 512 + 1
  | none => 0

/-- Insert a run into a list in ascending order of a key. -/
def insertRun (key : Nat × Nat × Nat → Nat) (r : Nat × Nat × Nat) : List (Nat × Nat × Nat) → List (Nat × Nat × Nat)
  | [] => [r]
  | s :: t => if key r < key s then r :: s :: t else s :: insertRun key r t

/-- The pieces of a job in ascending DLA order, as runs within one segment (R128, R158). -/
def Bridge.jobRuns (b : Bridge) (fn : Nat) (p : Prog) (list : List Byte) : List (Nat × Nat × Nat) :=
  let runs :=
    if p.isList then (List.range (fieldAt 16 8 p.desc)).map (fun k => (k, fieldAt (4 * k) 4 list, 1))
    else
      let first := fieldAt 8 8 p.desc / 2097152
      (blocksOf 512 131073 first (fieldAt 16 8 p.desc / 2097152)).map (fun s => (s.1 - first, s.1, s.2))
  runs.foldl (fun acc r => insertRun (fun r => b.extOrder fn r.2.1) r acc) []

/-- Every posted write that reached the host port before the job's doorbell has been entered (R150). -/
def Bridge.fenceOver (b : Bridge) (before : Nat) : Bool :=
  b.port.held.all (fun h => decide (before ≤ h.1) || (match h.2 with
    | .write _ _ _ _ _ => false
    | .cxlWrite _ _ _ _ _ => false
    | .enter _ _ _ _ _ _ _ => false
    | _ => true))

/-- An index lies among the last 2^SIZE_LOG2 before TAIL (R156). -/
def Ring.recent (r : Ring) (i : Nat) : Bool := decide ((r.tail + 65535 - i % 65536) % 65536 < 2 ^ r.sizeLog2)

/-- The JOB_TAG of a fetched descriptor is kept for a cancellation (R156). -/
def Ring.tagsWith (r : Ring) (i tag : Nat) : Tbl Nat := Tbl.put i tag (r.tags.filter (fun e => r.recent e.1))

/-- JOB_CHECK: with its blocks read, the job is accepted, or completes at once (R148-R150, R155). -/
def doJobCheck (id : Nat) (b : Bridge) : Bridge :=
  match Tbl.find id b.scan.fetch with
  | none => b
  | some f =>
    let p := f.program
    let waits := !f.hdr.settled || !f.prog.settled || (f.set ≠ .unasked && !f.set.settled) || (p.inSet && f.set = .unasked)
      || (f.list ≠ .unasked && !f.list.settled)
    if waits then b
    else
      let b := b.modScan (fun s => { s with fetch := Tbl.del id s.fetch })
      let mark := (b.ring f.fn f.ring).marks.find? (fun m => decide (m.1 = f.index))
      let b := b.modRing f.fn f.ring (fun r => { r with marks := r.marks.filter (fun m => decide (m.1 ≠ f.index)), tags := r.tagsWith f.index p.tag })
      let b := if mark.any (fun m => decide (m.2 ≠ p.tag)) then b.event 0x29 9 false f.index (some f.fn) else b
      if f.hdr = .failed || badHeader f.hdr.bytes then
        (b.modRing f.fn f.ring (fun r => { r with resultErr := true, errIndex := f.index })).event 0x29 8 false (f.fn * 8 + f.ring) none
      else
        let h := f.hdr.bytes
        let ref := f.refusal (b.inst f.fn).grant.segs (b.vectors f.fn)
        let cancelled := mark.any (fun m => decide (m.2 = p.tag))
        let total := if ref.isSome then 0 else if p.isList then fieldAt 16 8 p.desc else fieldAt 16 8 p.desc / 2097152
        let held := b.scan.job.any (fun e => decide (e.2.program.ring = p.ring))
        let waitsFence := p.flag 0 && !b.fenceOver f.before && ref.isNone && !cancelled
        let j : Job := {
          fn := f.fn, ring := f.ring, index := f.index, desc := f.desc.bytes, prog := f.prog.bytes, set := f.set.bytes
          rr := { base := fieldAt 0 8 h, size := fieldAt 8 4 h, prod := fieldAt 16 8 h, cons := fieldAt 24 8 h }
          ringHeld := held, fence := if waitsFence then some f.before else none
          split := !held && !waitsFence
          runs := if ref.isSome || cancelled then [] else b.jobRuns f.fn p f.list.bytes
          total := total, dropped := if cancelled then total else 0, cancelled := cancelled && ref.isNone, refused := ref }
        let b := b.modScan (fun s => { s with
          job := s.job ++ [(s.nextId, j)], nextId := s.nextId + 1
          accepted := if ref.isNone then s.accepted + 1 else s.accepted
          descErr := if ref.any (fun r => decide (r.1 = 2)) then cnt32 s.descErr 1 else s.descErr
          ringHold := if held then cnt32 s.ringHold 1 else s.ringHold
          fenceWait := if waitsFence then cnt32 s.fenceWait 1 else s.fenceWait })
        b.jobPump (b.scan.nextId - 1)

/-- The dispatcher hands a job to the Herder once nothing holds it (R128, R149, R150). -/
def Job.handOver (j : Job) : Job := { j with split := j.split || (!j.ringHeld && j.fence.isNone) }

/-- RESULT_RING_HOLD_RELEASE: no earlier job holds the result ring any more (R149). -/
def doResultRingHoldRelease (id : Nat) (b : Bridge) : Bridge :=
  match Tbl.find id b.scan.job with
  | none => b
  | some j =>
    if !j.ringHeld || b.scan.job.any (fun e => decide (e.1 < id) && decide (e.2.program.ring = j.program.ring)) then b
    else (b.modJob id (fun j => { j with ringHeld := false }.handOver)).jobPump id

/-- FENCE_START_RELEASE: every posted write before the job's doorbell has been entered (R150). -/
def doFenceStartRelease (id : Nat) (b : Bridge) : Bridge :=
  match (Tbl.find id b.scan.job).bind (fun j => j.fence) with
  | some before => if b.fenceOver before then b.modJob id (fun j => { j with fence := none }.handOver) else b
  | none => b

-- Pieces -------------------------------------------------------------------------------------------------------------------

/-- The lanes of a channel that can take pieces: in service, neither fenced nor under test (R152, R184). -/
def Rtv.laneOk (r : Rtv) (k : Nat) : Bool := bitOf r.active k && !bitOf r.fenced k && !bitOf r.test k

/-- A channel has no unfenced lane (R128, R176). -/
def Rtv.noLane (r : Rtv) : Bool := (List.range 5).all (fun k => !(bitOf r.active k && !bitOf r.fenced k))

/-- A piece ends without a lane (R159, R176), and is counted on the channel it was dispatched to, where it had one (R183). -/
def Bridge.endUnrun (id ord ext status : Nat) (ch : Option Nat) (b : Bridge) : Bridge :=
  let b := b.modJob id (fun j => { j with other := j.other + 1, ends := j.ends ++ [pieceEnd ord status 0 (ext * 2097152) 0] })
  let b := match ch with
    | some n => b.modRtv n (fun r => { r with pieces := cnt32 r.pieces 1 })
    | none => b
  b.jobPump id

/-- The first of a job's pieces that are not placed yet is taken off (R153). -/
def Job.nextPiece (j : Job) : Option (Nat × Nat) × Job :=
  match j.runs with
  | [] => (none, j)
  | (ord, ext, n) :: t => (some (ord, ext), { j with runs := if n ≤ 1 then t else (ord + 1, ext + 1, n - 1) :: t })

/-- Where the next piece of a job goes: nowhere yet, to its end without a lane, or to a queue that has or has not room for it. -/
inductive Placement where
  | nothing
  | waits
  | ends (status : Nat) (ch : Option Nat)
  | queue (ch dla : Nat) (near : Bool)
  | full (ch : Nat) (near : Bool)
  deriving DecidableEq, Repr

/-- A channel can run a piece: not fenced, with a lane (R128). -/
def Bridge.runsPieces (b : Bridge) (ch : Nat) : Bool := !b.chFenced ch && !(b.chan ch).rtv.noLane

/-- Where a piece of extent `ext` of an instance goes (R128, R129, R153, R159, R176): where its channel has no lane and the extent is mirrored,
to the partner (log entry 112); where its channel is fenced, the piece of a mirrored extent waits for ON_ALT (R97). -/
def Bridge.placement (b : Bridge) (inst ext : Nat) : Placement :=
  match b.segAt inst (ext / 512) with
  | none => .ends 2 none
  | some e =>
    let ch := e.chan
    let dla := e.dlaSeg * 2 ^ 24 + ext % 512 * 32768
    let unb := match b.place ch inst dla with
      | .unbacked _ => true
      | _ => false
    let on : Nat → Placement := fun ch =>
      let near := decide (b.nearCount ch (dla / 32768) = 512)
      let r := (b.chan ch).rtv
      if 256 ≤ (if near then r.nearQ else r.farQ).length then .full ch near else .queue ch dla near
    if !e.valid || e.inst ≠ inst || unb then .ends 2 (some ch)
    else if b.chFenced ch then (if (e.other ch).any (fun c => !b.chFenced c) then .waits else .ends 3 (some ch))
    else if !(b.chan ch).rtv.noLane then on ch
    else match e.other ch with
      | some c => if b.runsPieces c then on c else .ends 3 (some ch)
      | none => .ends 3 (some ch)

/-- Where a job's next piece goes, for a job that the Herder has (R128, R153). -/
def Bridge.nextPlacement (b : Bridge) (j : Job) : Placement :=
  match j.nextPiece.1 with
  | some (_, ext) => if j.split && b.herderOn && !b.scan.stopped then b.placement j.fn ext else .nothing
  | none => .nothing

/-- The next piece of a job can be placed now. -/
def Placement.goes : Placement → Bool
  | .ends _ _ => true
  | .queue _ _ _ => true
  | _ => false

/-- The Herder places the next piece of a job (R128, R129, R153). -/
def Bridge.placeNext (id : Nat) (j : Job) (b : Bridge) : Bridge :=
  match j.nextPiece with
  | (none, _) => b
  | (some (ord, ext), j') =>
    match b.nextPlacement j with
    | .ends status ch => (b.modJob id (fun _ => j')).endUnrun id ord ext status ch
    | .queue ch dla near =>
      let x : Piece := { job := id, ord := ord, ext := ext, backed := true, dla := dla, near := near }
      let b := (b.modJob id (fun _ => j')).modRtv ch (fun r =>
        if near then { r with nearQ := r.nearQ ++ [x] } else { r with farQ := r.farQ ++ [x] })
      b.modHerd (fun h => { h with pieces := h.pieces + 1, nearPieces := if near then h.nearPieces + 1 else h.nearPieces })
    | _ => b

/-- PIECE_PLACE: the Herder places a job's next piece, unless that of a job accepted earlier can be placed (R153). -/
def doPiecePlace (id : Nat) (b : Bridge) : Bridge :=
  match b.scan.job.find? (fun e => (b.nextPlacement e.2).goes) with
  | some (i, j) => if i = id then b.placeNext id j else b
  | none => b

/-- A place has come free in a queue that was full: the piece held for it longest enters it (R153). -/
def Bridge.enterHeld (n : Nat) (near : Bool) (b : Bridge) : Bridge :=
  let r := (b.chan n).rtv
  if (if near then r.nearQ else r.farQ).length ≠ 255 then b
  else
    match b.scan.job.find? (fun e => match b.nextPlacement e.2 with
        | .queue ch _ k => decide (ch = n) && k == near
        | _ => false) with
    | some (i, j) => b.placeNext i j
    | none => b

/-- The instance of a piece. -/
def Bridge.pieceInst (b : Bridge) (x : Piece) : Nat := ((Tbl.find x.job b.scan.job).map (fun j => j.fn)).getD 0

/-- The next piece of a queue: its instances in turn, the oldest job of each (R151, R152). -/
def Bridge.nextOf (b : Bridge) (q : List Piece) (last : Nat) : Option Piece :=
  let can := q.filter (fun x => !(b.inst (b.pieceInst x)).rdRedLast)
  let after := (List.range 256).map (fun k => (last + 1 + k) % 256)
  match after.find? (fun i => can.any (fun x => decide (b.pieceInst x = i))) with
  | none => none
  | some i =>
    (can.filter (fun x => decide (b.pieceInst x = i))).foldl (fun (best : Option Piece) x => match best with
      | none => some x
      | some y => if x.job < y.job then some x else best) none

/-- A lane of a channel can take a piece now. -/
def Rtv.free (r : Rtv) (k : Nat) : Bool := r.laneOk k && (Tbl.find k r.lane).isNone

/-- A piece is bound to a lane, which begins to read. -/
def Bridge.bind (n lane : Nat) (x : Piece) (b : Bridge) : Bridge :=
  (b.modRtv n (fun r => { r with lane := Tbl.put lane { x with granted := true } r.lane })).askPiece n lane

/-- Pieces that restart take free lanes, before anything is granted (R176). -/
def Bridge.bindAgain (n : Nat) (b : Bridge) : Bridge :=
  match (b.chan n).rtv.again with
  | [] => b
  | x :: t =>
    if (List.range 5).any (b.chan n).rtv.free then
      let (k, b) := b.pick (b.chan n).rtv.free 5
      (b.modRtv n (fun r => { r with again := t })).bind n (k.getD 0) x
    else b

/-- PIECE_GRANT: a channel binds a piece to a free lane, near and far in turn, at most one in an FCLK (R129, R151, R152). Which of the free
lanes is open (log entry 4). -/
def doPieceGrant (n : Nat) (b : Bridge) : Bridge :=
  let r := (b.chan n).rtv
  if b.chFenced n || b.pwr.thermHold || b.scan.stopped && !b.herd.fenced || decide (r.grantAt = some b.glb.time) || !(List.range 5).any r.free then b
  else
    let near := b.nextOf r.nearQ r.lastInst.1
    let far := b.nextOf r.farQ r.lastInst.2
    let pick := if r.lastNear then (match far with
        | some x => some (false, x)
        | none => near.map (fun x => (true, x)))
      else (match near with
        | some x => some (true, x)
        | none => far.map (fun x => (false, x)))
    match pick with
    | none => b
    | some (isNear, x) =>
      let (k, b) := b.pick r.free 5
      let i := b.pieceInst x
      let b := b.modRtv n (fun r => { r with
        nearQ := if isNear then r.nearQ.erase x else r.nearQ
        farQ := if isNear then r.farQ else r.farQ.erase x
        lastNear := isNear, lastInst := if isNear then (i, r.lastInst.2) else (r.lastInst.1, i), grantAt := some b.glb.time })
      (b.bind n (k.getD 0) x).enterHeld n isNear

/-- A lane has gone over rows: the figures they add (R171, R178, R183, R379). -/
def Bridge.countRows (n lane inst : Nat) (was now : Eval) (b : Bridge) : Bridge :=
  let rows := now.rows - was.rows
  let b := (b.addWork n lane 0 rows).modRtv n (fun r => { r with
    rows := r.rows + rows, qual := r.qual + (now.qual - was.qual), poisonRows := cnt32 r.poisonRows (now.skipped - was.skipped)
    pageErr := cnt32 r.pageErr (now.groupsBad - was.groupsBad) })
  b.modScan (fun s => { s with rowsOf := Tbl.put inst (Tbl.get 0 inst s.rowsOf + rows) s.rowsOf })

/-- A lane writes what its output buffer holds, after the records of pieces that ended without a lane (R154, R170, R173). -/
def Bridge.laneWrites (n lane : Nat) (x : Piece) (b : Bridge) : Piece × Bridge :=
  let (clear, b) := b.writeEnds x.job
  let (left, b) := if clear then b.writeRecs x.job (some n) x.out else (x.out, b)
  let b := b.writeProducer x.job
  let x := { x with out := left }
  (x, b.modPiece n lane (fun _ => x))

/-- A lane works on its piece: it evaluates rows whose lines it has and writes full records, until it lacks lines, room, or rows in the stride
(R154, R178). -/
def Bridge.laneOn (n lane : Nat) : Nat → Bridge → Bridge
  | 0, b => b
  | fuel + 1, b =>
    match Tbl.find lane (b.chan n).rtv.lane with
    | none => b
    | some x =>
      match Tbl.find x.job b.scan.job with
      | none => b.modRtv n (fun r => { r with lane := Tbl.del lane r.lane })
      | some j =>
        let y := if x.ended then x else j.program.goOn (6144 - (b.laneWork n lane).2) 262272 x
        let b := (b.countRows n lane j.fn x.ev y.ev).modPiece n lane (fun _ => y)
        let (z, b) := if y.out.isEmpty then (y, b) else b.laneWrites n lane y
        if z.out.length < y.out.length && j.program.full y then b.laneOn n lane fuel else b

/-- A lost job is gone once no piece of it is granted any more (R227). -/
def Bridge.lostOver (id : Nat) (b : Bridge) : Bridge :=
  let runs := channels.any (fun n =>
    let r := (b.chan n).rtv
    r.lane.any (fun e => decide (e.2.job = id)) || (r.again ++ r.parked ++ r.nearQ ++ r.farQ).any (fun x => decide (x.job = id)))
  if (Tbl.find id b.scan.job).any (fun j => j.lost) && !runs then b.modScan (fun s => { s with job := Tbl.del id s.job }) else b

/-- A piece whose lane has a full output buffer, and whose ring has no room for its next record, is parked at the row boundary where it
stands, once no read of it is in flight (R154, log entry 113); with the store full the lane waits. -/
def Bridge.parkPiece (n lane : Nat) (b : Bridge) : Bridge :=
  match Tbl.find lane (b.chan n).rtv.lane with
  | none => b
  | some x =>
    match Tbl.find x.job b.scan.job with
    | none => b
    | some j =>
      if !(!x.ended && j.program.full x && !x.out.isEmpty && decide (x.asked.length = x.got.length)) then b
      else if j.lost then (b.modRtv n (fun r => { r with lane := Tbl.del lane r.lane, pieces := cnt32 r.pieces 1 })).lostOver x.job
      else if (b.chan n).rtv.parked.length < 16 then
        b.modRtv n (fun r => { r with lane := Tbl.del lane r.lane, parked := r.parked ++ [x], parks := cnt32 r.parks 1 })
      else b

/-- The lanes of a channel go on: restarted pieces are bound, rows are evaluated, records written, pieces parked, and lines asked for (R154,
R176, R178). -/
def Bridge.lanesOn (n : Nat) (b : Bridge) : Bridge :=
  let b := b.each (List.range 5) (fun _ b => b.bindAgain n)
  b.each (Tbl.keys (b.chan n).rtv.lane) (fun k b => ((b.laneOn n k 1024).parkPiece n k).askPiece n k)

/-- A piece has ended with its records written: the job's figures, its partials merged, and STOP_ON_POISON (R168, R172, R175,
R176). Only a piece that ends OK gives its partials (log entry 103). -/
def Bridge.pieceOver (n lane : Nat) (x : Piece) (b : Bridge) : Bridge :=
  let b := b.modRtv n (fun r => { r with lane := Tbl.del lane r.lane, pieces := cnt32 r.pieces 1 })
  let b := b.modJob x.job (fun j => { j with
    ok := if x.status = 0 then j.ok + 1 else j.ok
    other := if x.status = 0 then j.other else j.other + 1
    rows := j.rows + x.ev.rows, qual := j.qual + x.ev.qual, skipped := j.skipped + x.ev.skipped + x.ev.rowsBad
    acc := if x.status = 0 then j.program.mergeAcc (if j.acc.isEmpty then emptyAcc else j.acc) x.ev.acc else j.acc })
  let stop := decide (x.status = 1) && (Tbl.find x.job b.scan.job).any (fun j => j.program.stopOnPoison)
  let b := if stop then (b.modJob x.job (fun j => { j with poisonStop := true })).dropUngranted x.job else b
  b.jobPump x.job

/-- PIECE_END: a lane that has read every line its piece needs, and gone over its rows, writes the records it owes; with the last of them the
piece is over (R154). -/
def doPieceEnd (n lane : Nat) (b : Bridge) : Bridge :=
  let b := b.laneOn n lane 1024
  match Tbl.find lane (b.chan n).rtv.lane with
  | none => b
  | some x =>
    match Tbl.find x.job b.scan.job with
    | none => b
    | some j =>
      if !x.ended && decide (j.program.advance x ≠ .over) then b
      else if j.lost then (b.modRtv n (fun r => { r with lane := Tbl.del lane r.lane, pieces := cnt32 r.pieces 1 })).lostOver x.job
      else
        let (x, b) := b.laneWrites n lane (if x.ended then x else j.program.finish x)
        if x.out.isEmpty then b.pieceOver n lane x else b

/-- PIECE_UNPARK: a parked piece goes back to the head of its queue once the ring has room for its next record, and the queue for the piece
(R152, R154). -/
def doPieceUnpark (n k : Nat) (b : Bridge) : Bridge :=
  let r := (b.chan n).rtv
  match r.parked[k]? with
  | none => b
  | some x =>
    let room := match Tbl.find x.job b.scan.job, x.out with
      | some j, o :: _ => j.rr.room (64 * o.units)
      | some _, [] => true
      | none, _ => false
    if room && decide ((if x.near then r.nearQ else r.farQ).length < 256) then
      b.modRtv n (fun r => { r with
        parked := r.parked.eraseIdx k
        nearQ := if x.near then x :: r.nearQ else r.nearQ
        farQ := if x.near then r.farQ else x :: r.farQ })
    else b

/-- CONSUMER_REREAD: a job that lacks room reads CONSUMER again, at most once in a stride (R170, R225). -/
def doConsumerReread (id : Nat) (b : Bridge) : Bridge :=
  match Tbl.find id b.scan.job with
  | none => b
  | some j =>
    if j.lost || !j.rr.short || j.rr.reading || j.rr.readAt = b.stride + 1 || !b.mayRead j.fn then b
    else
      (b.modJob id (fun j => { j with rr := { j.rr with reading := true, readAt := b.stride + 1 } })).issueRead j.fn (j.program.ring + 24) 8
        (.consumer id)

-- Ends of lanes and jobs -----------------------------------------------------------------------------------------------------

/-- The units of a lane are dropped: reads of it that are outstanding serve nothing any more (R176, R177). -/
def Bridge.dropLaneUnits (n lane : Nat) (b : Bridge) : Bridge :=
  let mine : WorkUnit → Bool := fun u => match u.kind with
    | .retriever l _ _ => decide (l = lane)
    | _ => false
  let uids := ((b.chan n).sch.running.filter (fun r => mine r.unit)).map (fun r => r.unit.id)
  let b := b.each uids (fun uid b => b.each channels (fun c b => (b.dropTags c (fun t => t.serves n uid)).dropLinks c n uid))
  b.modSch n (Sched.drop mine)

/-- A piece as it restarts from its start (R176). -/
def Piece.fromStart (x : Piece) : Piece :=
  { job := x.job, ord := x.ord, ext := x.ext, backed := x.backed, dla := x.dla, near := x.near, granted := true }

/-- A piece restarts on a channel: a RESTART record is owed, and the piece takes lane `spare` there, or waits for another (R176). -/
def Bridge.restartPiece (n : Nat) (x : Piece) (dst : Nat) (spare : Option Nat) (b : Bridge) : Bridge :=
  let y := x.fromStart
  let b := b.modRtv n (fun r => { r with restart := cnt32 r.restart 1 })
  let b := b.modJob x.job (fun j => { j with ends := j.ends ++ [{ kind := 5, piece := x.ord }] })
  let b := match spare with
    | some k => b.bind dst k y
    | none => b.modRtv dst (fun r => { r with again := r.again ++ [y] })
  let (_, b) := b.writeEnds x.job
  b.writeProducer x.job

/-- Pieces of a channel with no lane left: those of an extent that is mirrored go to the partner, the others end with the fenced-lane status
(R128, R176, log entry 112). -/
def Bridge.endQueued (n : Nat) (b : Bridge) : Bridge :=
  let r := (b.chan n).rtv
  let b := b.modRtv n (fun r => { r with nearQ := [], farQ := [], parked := [], again := [] })
  let partner : Piece → Option Nat := fun x =>
    ((b.segOfDla (x.dla / 2 ^ 24)).bind (fun e => e.2.other n)).filter b.runsPieces
  b.each (r.again ++ r.parked ++ r.nearQ ++ r.farQ) (fun x b =>
    match partner x with
    | some c =>
      if x.granted then b.restartPiece n x c none
      else
        let key : Nat × Nat × Nat → Nat := fun r => b.extOrder (b.pieceInst x) r.2.1
        b.modJob x.job (fun j => { j with runs := insertRun key (x.ord, x.ext, 1) j.runs })
    | none => b.endUnrun x.job x.ord x.ext 3 (some n))

/-- A lane is fenced; the piece that it was running, if any (R176). The idle spare is fenced as the others are (log entry 98). -/
def Bridge.fenceRtvLane (n lane : Nat) (b : Bridge) : Option Piece × Bridge :=
  let was := Tbl.find lane (b.chan n).rtv.lane
  let b := b.dropLaneUnits n lane
  (was, (b.modRtv n (fun r => { r with
    fenced := putBit r.fenced lane true, active := putBit r.active lane false, lane := Tbl.del lane r.lane })).prepare (.fenceRecord 2 n lane) 2)

/-- A lane fails (R16, R17, R176): it is fenced, and the spare lane takes its place and its piece unless that is vetoed; otherwise the piece
restarts on another lane. -/
def Bridge.rtvLaneFails (n lane : Nat) (detail : Nat) (b : Bridge) : Bridge :=
  let r := (b.chan n).rtv
  let spare := decide (lane ≠ 4) && !bitOf r.active 4 && !bitOf r.fenced 4 && !bitOf r.test 4 && !bitOf b.glb.veto 1
  let (was, b) := b.fenceRtvLane n lane
  let b := if spare then (b.modRtv n (fun r => { r with active := putBit r.active 4 true })).spareLog n (5 + lane) detail
    else b.fenceLog n (5 + lane) detail
  let b := match was with
    | some x => b.restartPiece n x n (if spare then some 4 else none)
    | none => b
  if (b.chan n).rtv.noLane then b.endQueued n else b

/-- A job is gone without a record: its pieces with it (R177, R227). -/
def Bridge.killJob (id : Nat) (b : Bridge) : Bridge :=
  let b := b.each channels (fun n b =>
    let lanes := ((b.chan n).rtv.lane.filter (fun e => decide (e.2.job = id))).map Prod.fst
    let b := b.each lanes (fun k b => b.dropLaneUnits n k)
    b.modRtv n (fun r => { r with
      nearQ := r.nearQ.filter (fun p => decide (p.job ≠ id)), farQ := r.farQ.filter (fun p => decide (p.job ≠ id))
      lane := r.lane.filter (fun e => decide (e.2.job ≠ id)), parked := r.parked.filter (fun p => decide (p.job ≠ id))
      again := r.again.filter (fun p => decide (p.job ≠ id)) }))
  b.modScan (fun s => { s with job := Tbl.del id s.job })

/-- The rings, fetches and jobs of a function are reset (R177). -/
def Bridge.resetRings (fn : Nat) (b : Bridge) : Bridge :=
  let b := b.each (b.scan.job.filter (fun e => decide (e.2.fn = fn))) (fun e b => b.killJob e.1)
  let b := b.modFlt (fun f => { f with lateWr := Tbl.del (2048 + fn) f.lateWr })
  b.modScan (fun s => { s with
    ring := s.ring.filter (fun e => decide (e.1 / 8 ≠ fn)), fetch := s.fetch.filter (fun e => decide (e.2.fn ≠ fn)) })

/-- The Herder is lost: ungranted pieces are dropped, every job completes HERDER_LOST, and the fetcher accepts none (R177). -/
def Bridge.stopScans (b : Bridge) : Bridge :=
  let b := b.modScan (fun s => { s with stopped := true, fetch := [] })
  b.each (Tbl.keys b.scan.job) (fun id b =>
    let b := b.modJob id (fun j => if j.refused.isSome then j else { j with herderLost := true })
    (b.dropUngranted id).jobPump id)

/-- Scans stop without a record: PWR_FAIL_N or reset (R177). -/
def Bridge.haltScans (b : Bridge) : Bridge :=
  let b := b.modScan (fun s => { s with stopped := true, fetch := [] })
  b.each (Tbl.keys b.scan.job) (fun id b => b.killJob id)

/-- A re-read of CONSUMER fails (R227): ungranted pieces are dropped, a granted piece ends once its unwritten output reaches the parking store, no
further record is written, and the job is accepted no more. -/
def Bridge.consumerFails (id : Nat) (b : Bridge) : Bridge :=
  match Tbl.find id b.scan.job with
  | none => b
  | some j =>
    let b := b.modRing j.fn j.ring (fun r => { r with resultErr := true, errIndex := j.index })
    let b := (b.dropUngranted id).modJob id (fun j => { j with lost := true, rr := { j.rr with reading := false } })
    let b := b.each channels (fun n b => b.modRtv n (fun r => { r with parked := r.parked.filter (fun x => decide (x.job ≠ id)) }))
    b.lostOver id

/-- A read the bridge issued has failed (R227). -/
def Bridge.readFails (use : ReadUse) (b : Bridge) : Bridge :=
  match use with
  | .block id k _ => b.modFetch id (fun f => f.setBlock k .failed)
  | .consumer id => b.consumerFails id

/-- Bytes placed in an image from an offset on. -/
def overlay (img : List Byte) (off : Nat) (bs : List Byte) : List Byte := img.take off ++ bs ++ img.drop (off + bs.length)

/-- Bytes of a block arrive; once the program block's header is there, the entries its counts name are asked for (R148). -/
def Fetch.arrive (k : BlockKind) (off : Nat) (bs : List Byte) (f : Fetch) : Fetch :=
  match f.block k with
  | .reading got left =>
    let got := overlay got off bs
    let f' := f.setBlock k (.reading got left)
    if !left.isEmpty then f'
    else if k = .program ∧ off < 64 then
      let more := (Prog.ranges { desc := [], prog := got, set := [] })
      f.setBlock k (if more.isEmpty then .read got else .reading got more)
    else f.setBlock k (.read got)
  | _ => f

/-- HOST_COMPLETION_RECEIVE: a completion to a read the bridge issued (R148, R170, R225, R227, R228). -/
def doHostCompletionReceive (tag status : Nat) (data : List Byte) (ep : Bool) (b : Bridge) : Bridge :=
  let b := if ep then (b.modPort (fun p => { p with poisonRx := cnt32 p.poisonRx 1 })).aerUnc aerPoisoned 0 true else b
  match Tbl.find tag b.port.outReads with
  | none => (b.modPort (fun p => { p with unexp := cnt32 p.unexp 1 })).aerUnc aerUnexpected 0 true
  | some o =>
    if status ≠ 0 ∨ ep then
      let b := (b.when (decide (status = 1 ∧ o.fn = 0)) (·.setStatus 13)).when (decide (status = 4 ∧ o.fn = 0)) (·.setStatus 12)
      let b := b.when (ep && decide (o.fn = 0) && bitOf ((Tbl.get 0 1 (b.func 0).cfg).toNat) 6) (·.setStatus 8)
      ((b.modPort (fun p => { p with outReads := Tbl.del tag p.outReads })).readFails o.use).askBlocks
    else
      let bs := data.take o.len
      let b := b.modPort (fun p => { p with txRd := p.txRd + bs.length })
      let last := decide (o.len ≤ bs.length)
      match o.use with
      | .block id k off =>
        let b := b.modPort (fun p => { p with outReads :=
          (if last then Tbl.del tag p.outReads
           else Tbl.put tag { o with addr := o.addr + bs.length, len := o.len - bs.length, use := .block id k (off + bs.length) } p.outReads) })
        (b.modFetch id (fun f =>
          if last then f.arrive k off bs
          else match f.block k with
            | .reading got left => f.setBlock k (.reading (overlay got off bs) left)
            | _ => f)).askBlocks
      | .consumer id =>
        ((b.modPort (fun p => { p with outReads := Tbl.del tag p.outReads })).modJob id (fun j =>
          { j with rr := { j.rr with cons := leNat (bytesAt 0 8 bs), reading := false, short := false } })).jobPump id

/-- COMPLETION_TIMEOUT: a read the bridge issued has timed out; none does while the timeout is disabled (R226, R227). -/
def doCompletionTimeout (tag : Nat) (b : Bridge) : Bridge :=
  match Tbl.find tag b.port.outReads with
  | none => b
  | some o =>
    if (b.func 0).cplDis then b
    else
      let b := b.modPort (fun p => { p with outReads := Tbl.del tag p.outReads, cplTimeout := cnt32 p.cplTimeout 1 })
      ((b.aerUnc aerCplTimeout o.fn true).readFails o.use).askBlocks

end Sys2Proof.Machine
end

