-- ==== Sys2Proof/Machine/Fence.lean ====
section
/-! DEFINITION. Fences, the flush of a link, the hold limit, and the reactions of severe sources (R16-R23, R137, R306, R387, R388,
R393-R403, R558). -/

namespace Sys2Proof.Machine

open Sys2Proof

/-- The host's reads of a function get no completion, in progress or held (R216). -/
def Bridge.dropReads (fn : Nat) (b : Bridge) : Bridge :=
  b.modPort (fun p => { p with
    reads := p.reads.filter (fun e => decide (e.2.fn ≠ fn) || e.2.cxl)
    held := p.held.filter (fun e => match e.2 with
      | .read f _ _ _ _ => decide (f ≠ fn)
      | .flush f _ _ => decide (f ≠ fn)
      | _ => true) })

/-- What a reset of a function takes with it (R215, R333, R337, R362). -/
def Bridge.resetFn (fn : Nat) (flr : Bool) (b : Bridge) : Bridge :=
  let b := ((((b.dropReads fn).muteOps fn).resetMbx fn).resetRings fn).breakSems fn
  b.modFunc fn (fun _ => { flr := flr })

/-- VF Enable clears, and every VF is reset (R205, R215). -/
def Bridge.vfsOff (b : Bridge) : Bridge :=
  let b := b.each ((List.range b.port.numVfs).map (· + 1)) (fun n b => if b.port.vfEnable then b.resetFn n false else b)
  b.modPort (fun p => { p with vfEnable := false })

/-- Base service for a cause (R21-R23): no VF is enabled. -/
def Bridge.baseService (cause : Nat) (b : Bridge) : Bridge :=
  b.vfsOff.modGlb (fun g => { g with level := 1, baseCause := cause })

/-- Lines of a copy whose data has reached the destination and waits to be admitted there (R118). -/
def Bridge.carriedLines (c : Nat) (x : Copy) (b : Bridge) : BitVec 64 :=
  match x.dst with
  | .near _ => 0
  | .sled d _ => (b.chan d).sch.carried.foldl (fun m u => match u.kind with
    | .copyDst e first k => if e = c then m ||| maskRange first k else m
    | _ => m) 0

/-- Runs of at most `most` numbers that follow one another in a rising list: first and length of each. -/
def runsOf (most : Nat) (ls : List Nat) : List (Nat × Nat) :=
  ls.foldr (fun k rs => match rs with
    | (j, n) :: t => if j = k + 1 ∧ n < most then (k, n + 1) :: t else (k, 1) :: rs
    | [] => [(k, 1)]) []

/-- A copy whose sled source is fenced completes: what it has not read is written at the destination with POISON (R121). -/
def Bridge.sourceFenced (c : Nat) (x : Copy) (b : Bridge) : Bridge :=
  let kept := b.carriedLines c x
  let left := maskLines (x.want &&& ~~~ x.moved &&& ~~~ kept)
  let b := b.modCopy c (fun x => { x with
    inFlight := kept, buf := left.foldl (fun t k => Tbl.put k Codeword.bad t) x.buf })
  match x.dst with
  | .sled d _ => b.each (runsOf ((b.chan d).sch.unitMost b.glb.shares.2.1) left) (fun r b =>
      b.enqueue d { id := 0, cls := 5, inst := x.inst, kind := .copyDst c r.1 r.2, port := 1 })
  | .near _ => b

/-- Copies on a fenced channel (R121, R397): those with their destination there end, as a promotion does with the channel that resolves
its granule, or with the source; the others of a sled there write what they have not read with POISON. Copies whose source is a frame
go on from their destination's scheduler, since write-back needs no engine. -/
def Bridge.fenceCopies (n : Nat) (b : Bridge) : Bridge :=
  b.each (b.herd.copies.filter (fun e =>
      decide (e.2.srcCh = n) || decide (e.2.src.link = some n) || decide (e.2.dst.link = some n) || (decide (e.2.kind = .promotion) && decide (e.2.dstCh = n))))
    (fun e b =>
      let (c, x) := e
      if x.dst.link = some n then b.prepare (.copyEnd c 0) 0
      else if x.kind = .promotion then b.prepare (.copyEnd c (if x.src.link = some n then 1 else 0)) 0
      else if x.src.link = some n then b.sourceFenced c x
      else
        let kept := b.carriedLines c x
        let lost := x.inFlight &&& ~~~ kept
        let b := b.modDir x.gran (fun d => { d with dirty := d.dirty ||| (x.dirtied &&& lost), wbFlight := d.wbFlight &&& ~~~ lost })
        (b.modCopy c (fun x => { x with srcCh := x.dstCh, inFlight := kept, buf := x.buf.filter (fun e => kept.getLsbD e.1) })).issueCopy c 0)

/-- A write-through whose home's link is lost leaves the line dirty in its frame (R107, R136). -/
def Bridge.throughLost (m uid ln : Nat) (r : Running) (b : Bridge) : Bridge :=
  let near := r.places.filter (fun p => p.2.link.isNone)
  if near.isEmpty then b
  else (b.modRun m uid (fun r => { r with places := near, hold := [], remote := false, through := false })).markDirty m ln false

/-- What other channels' units have on a channel's sled is lost to them (R175, R303, R397). -/
def Bridge.loseLink (n : Nat) (b : Bridge) : Bridge :=
  b.each (b.unitsOn n) (fun x b =>
    let uid := x.2.unit.id
    let cut := (b.dropTags n (fun t => t.serves x.1 uid)).dropLinks n x.1 uid
    match x.2.unit.kind with
    | .hostRead _ _ _ => cut.loseUnitLines x.1 uid (x.2.onLink n)
    | .retriever _ _ _ => cut.loseUnitLines x.1 uid (x.2.onLink n)
    | .scrubRead _ _ => cut.loseUnitLines x.1 uid (x.2.onLink n)
    | .second _ _ _ _ _ => cut.loseUnitLines x.1 uid (x.2.onLink n)
    | .drain ln => if x.2.through then (cut.takeBack n x.1 uid x.2).throughLost x.1 uid ln x.2 else b
    | .scrubWb _ _ _ => if x.1 = n then b else (cut.takeBack n x.1 uid x.2).finishUnit x.1 uid
    | _ => b)

/-- Second reads that a fenced channel was to make (R84, R121). -/
def Bridge.loseSeconds (n : Nat) (b : Bridge) : Bridge :=
  let s := (b.chan n).sch
  let us := s.waiting ++ s.running.map (fun r => r.unit)
  b.each us (fun u b => match u.kind with
    | .second c uid i _ _ => ((b.modSch n (Sched.drop (fun v => decide (v.id = u.id)))).dropTags n (fun t => t.serves n u.id)).secondLost c uid i
    | _ => b)

/-- A line is to be marked POISON at its home; on a fenced channel the line counts as lost instead (R84, R399). -/
def Bridge.poisonHome (ln : Nat) (home : Loc) (b : Bridge) : Bridge :=
  match home with
  | .near _ => b
  | .sled c _ =>
    if b.chFenced c then b.modSvc c (fun s => { s with lostLines := if s.lostLines.contains ln then s.lostLines else s.lostLines ++ [ln] })
    else b.rewrite ln home Codeword.bad

/-- Lines that were to be marked POISON on a channel's sled and will not be: its fence comes first (R399). -/
def Bridge.poisonsDue (n : Nat) (b : Bridge) : List Nat :=
  ((channels.map (fun c => ((b.chan c).sch.waiting ++ (b.chan c).sch.running.map (fun r => r.unit)).filterMap (fun u => match u.kind with
    | .scrubWb ln l w => if w.poison && decide (((b.backTo ln l true).bind Loc.link) = some n) then some ln else none
    | _ => none))).flatten)

/-- Host reads of a fenced channel that have not completed: poison, or set aside for the partner (R97, R397). -/
def Bridge.loseReads (n : Nat) (b : Bridge) : Bridge :=
  b.each b.port.reads (fun e b =>
    b.each ((List.range e.2.lines.length).filter (fun i => decide ((e.2.lines[i]?).bind (fun l => l.ch) = some n))) (fun i b => b.loseLine e.1 i n))

/-- Write-combining entries that a fence of a channel discards: its own, and those of other channels whose location lies on its
sled (R397). -/
def Bridge.fencedEntries (n : Nat) (b : Bridge) : List (Nat × WcbEntry) :=
  (channels.map (fun m => ((b.chan m).acc.wcb.filter (fun e => decide (m = n) || (match b.place m e.inst e.ln with
    | .at l => decide (l.link = some n)
    | _ => false))).map (fun e => (m, e)))).flatten

/-- A fence discards entries and the grace store; extents that lose a write are remembered (R397, R399, R558). -/
def Bridge.fenceDiscard (n : Nat) (b : Bridge) : Bridge :=
  let es := b.fencedEntries n
  let gs := (b.chan n).ll.gstore
  let lost := (es.filter (fun e => !b.partnerHolds e.1 e.2.ln)).map (fun e => e.2.ln) ++ (gs.filter (fun g => !b.partnerHolds g.resCh g.ln)).map (fun g => g.ln)
  let b := b.modSvc n (fun s => { s with lostLines := (s.lostLines ++ lost ++ b.poisonsDue n).eraseDups })
  let b := b.each es (fun e b => b.discardEntry e.1 e.2)
  b.each gs (fun g b => b.graceLost n g)

/-- A channel's scheduler holds nothing any more, and its units' parts elsewhere serve nothing (R397). -/
def Bridge.clearSched (n : Nat) (b : Bridge) : Bridge :=
  let uids := ((b.chan n).sch.running).map (fun r => r.unit.id)
  let b := b.each channels (fun c b =>
    let b := b.dropTags c (fun t => uids.any (fun u => t.serves n u))
    b.each uids (fun u b => b.dropLinks c n u))
  b.modSch n (Sched.drop (fun _ => true))

/-- Pieces of a fenced channel (R97, R176): those of mirrored extents go on at the partner, the others end with the fenced-lane
status; pieces not granted are placed anew. -/
def Bridge.fencePieces (n : Nat) (b : Bridge) : Bridge :=
  let r := (b.chan n).rtv
  let b := b.modRtv n (fun r => { r with lane := [], parked := [], again := [], nearQ := [], farQ := [] })
  b.each (r.lane.map Prod.snd ++ r.again ++ r.parked ++ r.nearQ ++ r.farQ) (fun x b =>
    match b.partnerOf n x.dla with
    | some c =>
      if x.granted then b.restartPiece n x c none
      else
        let key : Nat × Nat × Nat → Nat := fun r => b.extOrder (b.pieceInst x) r.2.1
        b.modJob x.job (fun j => { j with runs := insertRun key (x.ord, x.ext, 1) j.runs })
    | none => b.endUnrun x.job x.ord x.ext 3 (some n))

/-- A channel is fenced, in the order of R397. -/
def Bridge.fenceChannel (n src detail : Nat) (b : Bridge) : Bridge :=
  if b.chFenced n then b
  else
    let b := { b with glb := { b.glb with chFenced := putBit b.glb.chFenced n true } }
    let b := ((b.loseLink n).loseSeconds n).loseReads n
    let b := b.fenceDiscard n
    let b := b.fenceCopies n
    let b := b.clearSched n
    let b := b.fencePieces n
    let b := b.modLl n (fun l => { l with txq := l.txq.filter (fun m => match m.2 with
      | .wr _ _ => false
      | .rd _ _ _ => false
      | _ => true) })
    let b := b.modSch n (fun s => { s with c := 0 })
    ((b.prepare (.onAlt n) 0).prepare (.fenceRecord 1 n 0) 2).fenceLog n src detail

/-- FLUSH_COMPLETE: held reads are poisoned, held drains discarded and logged, the link state cleared, and the channel fenced (R298,
R306). -/
def doFlushComplete (n : Nat) (b : Bridge) : Bridge :=
  let l := (b.chan n).ll
  if l.state ≠ .flush then b
  else
    let b := if l.hold then b else b.readHold n
    let b := b.loseLink n
    let b := b.modLl n (fun l => { l with
      state := if l.flushFromInit then .up else .down, tags := [], txq := [], unacked := [], holding := false, hold := false, gdrain := false
      flushes := cnt32 l.flushes 1, nonce := none, flushFromInit := false })
    let b := match l.flushFromInit, l.param with
      | true, some p => b.modLl n (fun l => { (l.fresh p) with state := .up })
      | _, _ => b
    let b := ((b.level (48 * n + 3) true).level (48 * n + 5) true).fenceChannel n 26 0
    if (b.chan n).ll.state = .down ∧ (b.phy n).state = .active then b.startInit n else b

/-- Since a read's line arrived, or was reissued, its location's unit has been fenced, or the link of its link part's channel in retry, replaying
or not UP (R395). -/
def Bridge.exposed (b : Bridge) (inst ch : Nat) (l : RdLine) : Bool :=
  let bad : Nat → Bool := fun c => b.linkBad c || decide (l.since < (b.chan c).acc.badAt)
  b.chFenced ch || (match b.place ch inst l.ln with
    | .at (.sled c _) => bad c
    | .at (.near f) => bitOf b.glb.stackFenced (f / 2 ^ 24)
    | _ => false)

/-- HOLD_LIMIT_PARTNER: a read of a mirrored segment held up to 30 us takes the partner path (R395), at most once, where the rule's condition has
held. -/
def doHoldLimitPartner (rid idx : Nat) (b : Bridge) : Bridge :=
  match (b.read rid).bind (fun r => (r.lines[idx]?).map (fun l => (r.inst, l))) with
  | none => b
  | some (inst, l) =>
    match l.ch with
    | some ch =>
      if l.done.isSome || l.partner || !b.exposed inst ch l then b
      else
        match b.partnerOf ch l.ln with
        | some c => b.reissue rid idx c
        | none => b
    | none => b

/-- HOLD_LIMIT_POISON: any other read held up to 36 us completes with poison (R395): one that has no partner to go to, or was reissued there and
has met the rule's condition since. What is set aside for the tick's reissue is left to it (R97, R303). -/
def doHoldLimitPoison (rid idx : Nat) (b : Bridge) : Bridge :=
  match (b.read rid).bind (fun r => (r.lines[idx]?).map (fun l => (r.inst, l))) with
  | none => b
  | some (inst, l) =>
    match l.ch with
    | some ch =>
      if l.done.isSome || !b.exposed inst ch l || (!l.partner && (b.partnerOf ch l.ln).isSome) then b else b.linePoison rid idx
    | none => b

/-- DRAIN_HOLD_LIMIT: a drain offered and not admitted for 36 us is sealed and moves into the grace store of its location's channel
(R304, R395), where its link is under the rule's condition; on a link that is UP its lines drain at once (log entry 32). -/
def doDrainHoldLimit (n ln : Nat) (b : Bridge) : Bridge :=
  match (b.chan n).acc.openEntry ln with
  | none => b
  | some e =>
    match b.place n e.inst ln with
    | .at (.sled c g) =>
      if !e.offered || (b.chan n).acc.wcb.any (fun x => decide (x.ln = ln) && x.sealed) || b.locFenced n (.sled c 0) || !b.linkBad c then b
      else
        let b := b.sealEntry n ln (b.poisonDue ln (.sled c g))
        match (b.chan n).acc.sealedEntry ln with
        | some s =>
          let (isOver, b) := b.toGrace c n s
          if isOver then b.modLl c (fun l => { l with state := .flush })
          else if (b.chan c).ll.state = .up then b.graceDrain c
          else b
        | none => b
    | _ => b

-- The other units ------------------------------------------------------------------------------------------------------------

/-- A slot's command as its header gives it (R350). -/
def Bridge.slotRef (fn k : Nat) (b : Bridge) : CmdRef :=
  let s := (b.mbx fn).slot k
  let w := (Tbl.get 0 0 s.cmd).toNat
  { fn := fn, slot := k, order := s.order, op := w % 65536, tag := (Tbl.get 0 1 s.cmd).toNat }

/-- The commands that a failed core ran complete with TIMEOUT (R16, R358): which of those taken it was running is open (log entry
4). -/
def Bridge.coreCommands (b : Bridge) : Bridge :=
  b.each b.ten.mbx (fun m b =>
    b.each m.2.slots (fun s b =>
      if s.2.state = .running then
        let (k, b) := b.freeNat
        if k % 2 = 0 then b.respond (b.slotRef m.1 s.1) 8 0 0 [] else b
      else b))

/-- The spare musher core comes into service (R16). -/
def Bridge.coreSpareIn (b : Bridge) : Bridge := b.modGlb (fun g => { g with coreSpare := true, coreActive := putBit g.coreActive 4 true })

/-- A musher core is fenced (R16, R19, R23, R415): the spare takes its place unless it is vetoed or gone; with one core left, base
service. Source 0 stands for a fence by command, which moves the core's commands elsewhere first (R363). A core that was not active, the idle
spare among them, lowers LEVEL as the others do (log entry 98). -/
def Bridge.fenceCore (k src detail : Nat) (b : Bridge) : Bridge :=
  if bitOf b.glb.coreFenced k then b
  else
    let was := bitOf b.glb.coreActive k
    let b := { b with glb := { b.glb with coreFenced := putBit b.glb.coreFenced k true, coreActive := putBit b.glb.coreActive k false }
                      icu := b.icu.dropCore k }
    let b := b.prepare (.fenceRecord 4 k 0) 2
    if !was then b.fenceLog (0x2A + k) src detail
    else
      let b := if src = 0 then b else b.coreCommands
      if k ≠ 4 ∧ !b.glb.coreSpare ∧ !bitOf b.glb.coreFenced 4 ∧ !bitOf b.glb.veto 2 then b.coreSpareIn.spareLog (0x2A + k) src detail
      else
        let b := b.fenceLog (0x2A + k) src detail
        if popCount b.glb.coreActive 5 ≤ 1 then b.baseService 5 else b

/-- Lines of a granule's frame cannot be read any more (R84, R398): those dirty there are marked POISON at home, all are at home from now
on, and the frame is given up once the rest of its dirty lines is home. -/
def Bridge.loseLines (g : Nat) (e : DirEntry) (m : BitVec 64) (b : Bridge) : Bridge :=
  let home := b.homeLoc e.resCh g
  let b := match home with
    | some (hc, hg) => b.each (maskLines (e.dirty &&& m)) (fun k b => b.poisonHome (g * 64 + k) (.sled hc hg))
    | none => b
  b.modDir g (fun e => { e with dirty := e.dirty &&& ~~~ m, atHome := e.atHome ||| m, leaving := true })

/-- A frame is given up, with the lines of it that cannot be read (R16, R84, R121, R398). A promotion into it ends. Where its
pseudo-channel's contents are rebuilt on a spare, a frame of which every line can be read stays. -/
def Bridge.loseFrame (g : Nat) (e : DirEntry) (m : BitVec 64) (spared : Bool) (b : Bridge) : Bridge :=
  if e.state = .filling then
    b.each (b.herd.copies.filter (fun c => decide (c.2.gran = g ∧ c.2.dst = .near e.frame) && (!spared || decide (c.2.moved &&& m ≠ 0))))
      (fun c b => b.prepare (.copyEnd c.1 0) 0)
  else if spared && decide (m = 0) then b
  else b.loseLines g e m

/-- Each frame of a pseudo-channel that fails: which of its lines can still be read is open (R16, log entry 4). -/
def Bridge.losePcFrames (stack pc : Nat) (spared : Bool) (b : Bridge) : Bridge :=
  b.each (b.herd.dir.filter (fun e => decide (e.2.frame / 2 ^ 24 = stack ∧ Config.framePc e.2.frame = pc))) (fun e b =>
    let (k, b) := b.freeNat
    b.loseFrame e.1 e.2 (BitVec.ofNat 64 k) spared)

/-- A spare pseudo-channel of a stack may come into service: one of two is left, and no veto stands (R16, R18). -/
def Bridge.pcSpareFree (stack : Nat) (b : Bridge) : Bool :=
  decide ((if stack = 0 then b.glb.hbmSpare.1 else b.glb.hbmSpare.2) < 2) && !bitOf b.glb.veto 3

/-- A spare pseudo-channel of a stack comes into service (R16). -/
def Bridge.pcSpareIn (stack : Nat) (b : Bridge) : Bridge :=
  b.modGlb (fun g => { g with hbmSpare := if stack = 0 then (g.hbmSpare.1 + 1, g.hbmSpare.2) else (g.hbmSpare.1, g.hbmSpare.2 + 1) })

/-- A pseudo-channel is fenced, and one of its stack's two spares comes in unless that is vetoed, with what can be read of its contents
(R16, R19, R23, R398). Source 0 stands for a fence by command. A spare that fails uses up the other one as any pseudo-channel does (log entry
98). -/
def Bridge.fencePc (stack pc src detail : Nat) (b : Bridge) : Bridge :=
  let id := stack * 64 + pc
  if b.glb.pcFenced.contains id || b.glb.pcSpared.contains id then b
  else
  let b := b.prepare (.fenceRecord 3 stack pc) 2
  let b := if src = 0 then b else b.modGlb (fun g => { g with pcFailed := g.pcFailed ++ [id] })
  if b.pcSpareFree stack then
    ((b.losePcFrames stack pc true).pcSpareIn stack).modGlb (fun g => { g with pcSpared := g.pcSpared ++ [id] }) |>.spareLog (0x25 + stack) src detail
  else
    let b := (b.losePcFrames stack pc false).modGlb (fun g => { g with pcFenced := g.pcFenced ++ [id] })
    let b := b.modHerd (fun h => { h with frames := if stack = 0 then (h.frames.1 - pcFrames, h.frames.2) else (h.frames.1, h.frames.2 - pcFrames) })
    b.fenceLog (0x25 + stack) src detail

/-- A stack is fenced (R23): its near tier is gone, the channels whose maps it held are fenced, and with both stacks every memory
path. -/
def Bridge.fenceStack (s src detail : Nat) (b : Bridge) : Bridge :=
  if bitOf b.glb.stackFenced s then b
  else
    let b := { b with glb := { b.glb with stackFenced := putBit b.glb.stackFenced s true } }
    let b : Bridge := b.fenceLog (0x25 + s) src detail
    let b := if b.glb.stackFenced = 3 then b.baseService 4
      else b.each (channels.filter (fun n => decide (stackOf n = s))) (fun n b => b.fenceChannel n 0 0)
    let b := b.each (b.herd.dir.filter (fun e => decide (e.2.frame / 2 ^ 24 = s))) (fun e b => b.loseFrame e.1 e.2 (BitVec.allOnes 64) false)
    b.modHerd (fun h => { h with frames := if s = 0 then (0, h.frames.2) else (h.frames.1, 0) })

/-- The Herder is fenced (R23, R121, R177). -/
def Bridge.fenceHerder (src detail : Nat) (b : Bridge) : Bridge :=
  ((b.modHerd (fun h => { h with fenced := true })).fenceLog 0x27 src detail).stopScans

/-- A journal copy becomes unavailable (R23, R436). -/
def Bridge.loseJournal (j : Nat) (src detail : Nat) (b : Bridge) : Bridge :=
  let b := { b with jrn := { b.jrn with copy := Tbl.put j { (Tbl.get ({} : JournalCopy) j b.jrn.copy) with state := 0 } b.jrn.copy } }
  b.fenceLog 0x28 src detail

/-- A copy of the fault log fails, or the second one, or the log's controller (R402, R403). -/
def Bridge.loseLog (copy : Option Nat) (src : Nat) (b : Bridge) : Bridge :=
  let latch : Nat → Bridge → Bridge := fun cause b => b.modFlt (fun f =>
    if f.gasp.isSome then f else { f with gasp := some (b.glb.time, 0x37, src, cause), logCtl := f.logCtl && decide (cause = 1) })
  match copy with
  | none => latch 2 b
  | some k =>
    let b := b.modFlt (fun f => { f with logGood := if k % 2 = 0 then (false, f.logGood.2) else (f.logGood.1, false) })
    if b.faults.logGood = (false, false) then latch 1 b else b

/-- The host port's transaction logic fails: outstanding reads complete with poison, and an Uncorrectable Internal Error is logged
(R237, R396). -/
def Bridge.portFails (src detail : Nat) (b : Bridge) : Bridge :=
  let b := b.modPort (fun p => { p with fenced := true })
  let b := b.each b.port.reads (fun e b => b.each (List.range e.2.lines.length) (fun i b => b.linePoison e.1 i))
  (b.aerUnc aerInternal 0 false).fenceLog 0x24 src detail

/-- An evacuation of a sled starts at the next tick (R124). -/
def Bridge.autoEvac (n : Nat) (b : Bridge) : Bridge :=
  if b.herd.tune.autoEvac = 1 ∧ b.herderOn ∧ !(b.chan n).herd.evac ∧ (b.chan n).svc.admitted ∧ !b.chFenced n then
    let b := if b.evacRoom n < b.evacLeft n then b.note 0x27 8 n else b
    b.prepare (.evacStart n true) 0
  else b

/-- The unit of block `k` is fenced for its source `s`: what R23 and R395 give for a fault of its control state (R384, R388). Blocks with
no unit of their own have none. -/
def Bridge.loseUnit (k s detail : Nat) (b : Bridge) : Bridge :=
  if k < 32 then b.fenceChannel (k % 16) s detail
  else if k < 36 then ({ b with glb := { b.glb with portFenced := putBit b.glb.portFenced (k - 32) true } }).fenceLog k s detail
  else
    match k with
    | 0x24 => b.portFails s detail
    | 0x25 => b.fenceStack 0 s detail
    | 0x26 => b.fenceStack 1 s detail
    | 0x27 => b.fenceHerder s detail
    | 0x28 => (b.loseJournal 0 s detail).loseJournal 1 s detail
    | 0x29 => (b.stopScans).fenceLog k s detail
    | 0x2A => b.fenceCore 0 s detail
    | 0x2B => b.fenceCore 1 s detail
    | 0x2C => b.fenceCore 2 s detail
    | 0x2D => b.fenceCore 3 s detail
    | 0x2E => b.fenceCore 4 s detail
    | 0x2F => ((b.modTen (fun t => { t with fenced := true })).fenceLog k s detail).baseService 6
    | 0x30 => ({ b with icu := { b.icu with fenced := true } }).fenceLog k s detail
    | 0x31 => ({ b with knl := { b.knl with lost := true } }).fenceLog k s detail
    | 0x35 => ({ b with tlm := { b.tlm with fenced := true } }).fenceLog k s detail
    | 0x37 => b.loseLog none s
    | _ => b

/-- A row of an SRAM fails: a spare row takes its place; without one, or against a veto, the block's unit is fenced (R16, R18, R19, R384,
log entry 99). -/
def Bridge.rowFails (k s detail : Nat) (b : Bridge) : Bridge :=
  if bitOf b.glb.veto 4 then b.loseUnit k s detail else (b.spareRow k s detail false).getD (b.loseUnit k s detail)

/-- A row of a stack's arrays fails: a spare row takes its place, or else a spare of the pseudo-channel's (R16, R388, log entry 99). -/
def Bridge.hbmRowFails (stack detail : Nat) (b : Bridge) : Bridge :=
  (b.spareRow (0x25 + stack) 8 detail true).getD (b.fencePc stack (Config.framePc (stack * 2 ^ 24 + detail % 2 ^ 24)) 8 detail)

/-- A source that became severe has its reaction (R16-R19, R386, R388). Lane sources are handled together afterwards (R266). -/
def Bridge.reactOne (k s detail : Nat) (b : Bridge) : Bridge :=
  if s = 1 ∨ (s = 2 ∧ bitOf detail 31) then b.rowFails k s detail
  else if s = 2 ∨ s = 3 then b.loseUnit k s detail
  else if k < 16 then
    match s with
    | 4 => (b.modSch k (fun x => { x with scrubOff := true })).fenceLog k s detail
    | 5 => b.rtvLaneFails k 0 detail
    | 6 => b.rtvLaneFails k 1 detail
    | 7 => b.rtvLaneFails k 2 detail
    | 8 => b.rtvLaneFails k 3 detail
    | 9 => b.rtvLaneFails k 4 detail
    | 27 => b.takeDown k
    | 28 => b.retire (detail / 4096) k s
    | 29 => b.retire (detail / 4096) k s
    | 30 => b.autoEvac k
    | _ => b
  else if k < 36 then b.loseUnit k s detail
  else
    match k, s with
    | 0x25, 8 => b.hbmRowFails 0 detail
    | 0x25, 9 => b.fencePc 0 (Config.framePc (detail % 2 ^ 24)) s detail
    | 0x25, 10 => b.fencePc 0 (detail % 64) s detail
    | 0x26, 8 => b.hbmRowFails 1 detail
    | 0x26, 9 => b.fencePc 1 (Config.framePc (2 ^ 24 + detail % 2 ^ 24)) s detail
    | 0x26, 10 => b.fencePc 1 (detail % 64) s detail
    | 0x28, 8 => b.loseJournal 0 s detail
    | 0x28, 9 => b.loseJournal 1 s detail
    | 0x24, _ => b
    | 0x31, _ => b
    | 0x34, 9 => { b with pwr := { b.pwr with thermHold := true } }
    | 0x36, _ => if 8 ≤ s then ({ b with glb := { b.glb with sideFenced := putBit b.glb.sideFenced (s - 8) true } }).fenceLog k s detail else b
    | 0x37, 8 => b.loseLog (some detail) s
    | _, _ => b.loseUnit k s detail

/-- The lane that a lane source of a channel stands for: outbound or inbound, and its number (R388). -/
def laneOfSource (s : Nat) : Option (Bool × Nat) :=
  if 10 ≤ s ∧ s < 15 then some (false, s - 10)
  else if 15 ≤ s ∧ s < 20 then some (false, s - 15)
  else if 20 ≤ s ∧ s < 25 then some (true, s - 20)
  else none

/-- The lane failures among severe sources: all are marked first, then each channel retrains at most once (R264-R266). -/
def Bridge.reactLanes (rs : List (Nat × Nat × Nat)) (b : Bridge) : Bridge :=
  let hits := rs.filterMap (fun r => if r.1 < 16 then (laneOfSource r.2.1).map (fun l => (r.1, l.1, l.2)) else none)
  let (due, b) := hits.foldl (fun (x : List Nat × Bridge) h =>
    let (d, b) := x.2.markLane h.1 h.2.1 h.2.2
    (if d then x.1 ++ [h.1] else x.1, b)) ([], b)
  b.each due.eraseDups (fun n b => b.startRetrain n)

/-- The reactions that are due (R386), and those of what they raise in turn. -/
def Bridge.reactAll : Nat → Bridge → Bridge
  | 0, b => b
  | fuel + 1, b =>
    match b.faults.react with
    | [] => b
    | rs =>
      let b := (b.modFlt (fun f => { f with react := [] })).reactLanes rs
      (b.each (rs.filter (fun r => !(decide (r.1 < 16) && (laneOfSource r.2.1).isSome))) (fun r b => b.reactOne r.1 r.2.1 r.2.2)).reactAll fuel

/-- SPARING_COMPLETE: a retirement or row sparing under way is complete, and its source's severe state ends without a clear (R387); a veto
set since it began does not stop it (R18). -/
def doSparingComplete (k s : Nat) (b : Bridge) : Bridge :=
  let x := b.faults.source k s
  if x.severe && x.sparing then b.healSource k s else b

/-- FAULT_EVENT: a source's event is counted and classified (R383, R386); XLT_MAP names the descriptor in error. -/
def doFaultEvent (k s detail : Nat) (inst : Option Nat) (b : Bridge) : Bridge :=
  let b := if k < 16 ∧ s = 31 ∧ !b.chFenced k then b.mapError k (detail % 2 ^ 22) else b
  b.event k s false detail inst

/-- DESCRIPTOR_REBUILD_DONE: a descriptor in error has been rebuilt from the journal; a change at a tick (R73). -/
def doDescriptorRebuildDone (n idx : Nat) (b : Bridge) : Bridge :=
  match Tbl.find (n * 2 ^ 22 + idx) b.herd.desc with
  | some d => if d.state = 3 then b.prepare (.rebuilt (n * 2 ^ 22 + idx)) 0 else b
  | none => b

/-- STACK_MAP_REBUILD_DONE: the maps of a fenced stack stand in the other one, whose near tier falls to 40 GiB (R23). -/
def doStackMapRebuildDone (s : Nat) (b : Bridge) : Bridge :=
  if bitOf b.glb.stackFenced s && b.glb.stackFenced ≠ 3 then b.prepare (.stackRebuilt s) 0 else b

/-- EVACUATION_COMPLETE: nothing is left to move, and the evacuation ends (R127). A requested one is an operation, which ends with
the extents folded (R369, R370). -/
def doEvacuationComplete (n : Nat) (b : Bridge) : Bridge :=
  if !(b.chan n).herd.evac || b.evacLeft n ≠ 0 then b
  else
    let b := (b.modHc n (fun h => { h with evac := false, auto := false, stopping := false, took := [] })).normalExts n
    let b := b.level 867 true
    match b.citan.ops.find? (fun o => o.running && decide (o.op = 0x0307 ∧ o.obj % 65536 = n)) with
    | some o => b.endOp o 0 (leBytes 4 o.count)
    | none => b

end Sys2Proof.Machine
end

