-- ==== Sys2Proof/Machine/HostPort.lean ====
section
/-! DEFINITION. The host port beside its memory requests: link, configuration space, resets, messages, interrupt controls
(R186-R221, R237-R247). Bit positions that the tables leave to the PCI Express and CXL specifications are log entry 25. -/

namespace Sys2Proof.Machine

open Sys2Proof

/-- The bridge is held: in power-on reset, after the power-loss sequence, or after a thermal trip (R443, R488, R489). -/
def Bridge.heldAll (b : Bridge) : Bool := b.pwr.por || b.pwr.held || b.pwr.dead

/-- A dword of a function's stored configuration words. -/
def Func.word (f : Func) (d : Nat) : Nat := (Tbl.get 0 d f.cfg).toNat

/-- Store bits of a dword of configuration space: those of `mask` take `value`'s. -/
def Func.store (d mask value : Nat) (f : Func) : Func :=
  { f with cfg := Tbl.put d (BitVec.ofNat 32 ((f.word d) &&& (0xFFFFFFFF ^^^ mask) ||| (value &&& mask))) f.cfg }

/-- Mask of the address bits of a 64-bit BAR of 2^n bytes, low and high word. -/
def barMask (n : Nat) : Nat × Nat :=
  let m := 2 ^ 64 - 2 ^ n
  (m % 2 ^ 32, m / 2 ^ 32)

/-- The aperture of a window (R68, R203): smallest power of two at or above `n` segments of 1 GiB, as log2 of bytes. -/
def windowLog (n : Nat) : Nat := 30 + ((List.range 18).find? (fun k => decide (n ≤ 2 ^ k))).getD 17

/-- Configuration dwords of PF0 that are stored as written: offset and writable bits (R197-R199, R205, R208; log entry 25). -/
def HostPort.stored (p : HostPort) (vfLimit : Nat) (o : Nat) : Nat :=
  let bar2 := barMask p.bar2Log
  let vf2 := barMask vfLimit
  match o with
  | 0x04 => 0x140
  | 0x0C => 0xFF
  | 0x10 => 0xFE000000
  | 0x14 => 0xFFFFFFFF
  | 0x18 => if p.cxl then 0 else bar2.1
  | 0x1C => if p.cxl then 0 else bar2.2
  | 0x20 => 0xFFFF0000
  | 0x24 => 0xFFFFFFFF
  | 0x3C => 0xFF
  | 0x44 => 0x100
  | 0x68 => 0x10F
  | 0x70 => 0x1C3
  | 0x88 => 0x141F
  | 0x90 => 0xF
  | 0x118 => 0x140
  | 0x1C4 => 0x1FFF1FFF
  | 0x1D8 => 0xE3FF0005
  | 0x1DC => 0xFB
  | 0x194 => 0xFFFC0000
  | 0x198 => 0xFFFFFFFF
  | 0x19C => if p.cxl then 0 else vf2.1
  | 0x1A0 => if p.cxl then 0 else vf2.2
  | _ => 0

/-- The headers of PF0's extended capabilities: offset, ID, version, next (R199; the ID of Physical Layer 128.0 GT/s is Base
7.0's). -/
def extCaps : List (Nat × Nat × Nat × Nat) :=
  [(0x100, 0x0001, 2, 0x150), (0x150, 0x0003, 1, 0x160), (0x160, 0x000E, 1, 0x170), (0x170, 0x0010, 1, 0x1B0),
    (0x1B0, 0x000D, 1, 0x1C0), (0x1C0, 0x0018, 1, 0x1D0), (0x1D0, 0x001E, 2, 0x1E0), (0x1E0, 0x0019, 1, 0x210)]
    ++ [(0x210, 0x0026, 1, 0x240), (0x240, 0x002A, 1, 0x270), (0x270, 0x0031, 1, 0x2A0), (0x2A0, 0x0037, 1, 0x2D0),
    (0x2D0, 0x0027, 1, 0x320), (0x320, 0x002F, 1, 0x330), (0x330, 0x0023, 1, 0x370), (0x370, 0x0023, 1, 0x3A0), (0x3A0, 0x0023, 1, 0)]

/-- Equalization Complete and its three phases, of one rate (R192; their places are those of the Base Specification, log entry 25). -/
def HostPort.eqWord (p : HostPort) (rate : Nat) : Nat := if bitOf p.eq rate then 0xF else 0

/-- What PF0's configuration space reads at a dword's offset (R197-R199, R205, R208, R210; fixed fields in their Base
Specification places, log entry 25). -/
def Bridge.cfgPf0 (b : Bridge) (o : Nat) : Nat :=
  let p := b.port
  let f := b.func 0
  let st := f.word (o / 4) &&& p.stored b.ten.vfLimit o
  let classCode := if p.cxl then 0x050210 else 0x058000
  match extCaps.find? (fun c => decide (c.1 = o)) with
  | some c => c.2.1 + 2 ^ 16 * c.2.2.1 + 2 ^ 20 * c.2.2.2
  | none =>
    match o with
    | 0x00 => 0x71601F3B
    | 0x04 => st + 2 * b2n f.mse + 4 * b2n f.bme + 1024 * b2n f.intDisable
        + 2 ^ 16 * (p.status + 0x10 + 8 * b2n (decide (p.intaPend &&& p.intaEn ≠ 0)))
    | 0x08 => classCode * 256
    | 0x10 => st + 4
    | 0x18 => if p.cxl then 0 else st + 0xC
    | 0x20 => st + 4
    | 0x2C => b.boot.board.subsystem.1 % 65536 + b.boot.board.subsystem.2 % 65536 * 65536
    | 0x34 => 0x40
    | 0x3C => st + 0x100
    | 0x40 => 0x48035001
    | 0x44 => st + f.power + 8 + 2 ^ 15 * b2n p.pme
    | 0x7C => 16 * b2n p.rrsVis
    | 0x50 => 0x6011 + 2 ^ 16 * (63 + 2 ^ 14 * b2n f.funcMask + 2 ^ 15 * b2n f.msixEn)
    | 0x54 => 4
    | 0x58 => 0x8004
    | 0x60 => 0x00020010
    | 0x64 => 0x10008DE2 ||| (f.word 25 &&& 0x0FFC0000)
    | 0x68 => st + 32 * f.mps + 4096 * f.mrrs + 2 ^ 16 * (p.devStatus + 32 * b2n (p.outReads.any (fun e => decide (e.2.fn = 0))))
    | 0x6C => 0x00460907
    | 0x70 => st + 2 ^ 16 * (if p.up then p.rate + 1 + 16 * p.width else 0)
    | 0x84 => 0x0013081F
    | 0x8C => 0xFE
    | 0x90 => (if (Tbl.find 36 f.cfg).isSome then st else 7) + 2 ^ 17 * p.eqWord 2
    | 0x21C => p.eqWord 3
    | 0x244 => 0x201
    | 0x24C => p.eqWord 4
    | 0x27C => p.eqWord 5
    | 0x2AC => p.eqWord 6
    | 0x104 => p.aer.unc
    | 0x108 => p.aer.uncMask
    | 0x10C => p.aer.uncSev
    | 0x110 => p.aer.cor
    | 0x114 => p.aer.corMask
    | 0x118 => st + p.aer.first + 0xA0
    | 0x11C => p.aer.hdr
    | 0x154 => (Tbl.get 0 0 b.fuses.shadow).toNat
    | 0x158 => (Tbl.get 0 1 b.fuses.shadow).toNat
    | 0x174 => 0x6
    | 0x178 => b2n p.vfEnable + 8 * b2n p.vfMse + 16 * b2n p.ari
    | 0x17C => 0x00FF00FF
    | 0x180 => p.numVfs
    | 0x184 => 0x00010001
    | 0x188 => 0x71610000
    | 0x18C => 0x13
    | 0x190 => p.pageSize
    | 0x194 => st + 4
    | 0x19C => if p.cxl then 0 else st + 0xC
    | 0x1D4 => 0x00390015
    | 0x324 => 0x18
    | 0x334 => 0x04021E98
    | 0x338 => 0x00160000
    | 0x33C => 4 * b2n p.memEnable
    | 0x348 => 0x8000
    | 0x34C => 1 + 2 * b2n (decide (2 ≤ b.glb.level))
    | 0x350 => p.range1 / 2 ^ 32
    | 0x354 => p.range1 % 2 ^ 32
    | 0x374 => 0x02021E98
    | 0x378 => 0x00060007
    | 0x37C => 2 ^ 16 * (2 * b2n p.cxl + 4 * b2n (p.cxl && decide (4 ≤ p.rate)))
    | 0x3A4 => 0x01C01E98
    | 0x3A8 => 0x00000008
    | 0x3AC => 0x01980100
    | 0x3B4 => 0x019C0300
    | _ => st

/-- What a VF's configuration space reads at a dword's offset (R207). -/
def Bridge.cfgVf (b : Bridge) (fn o : Nat) : Nat :=
  let f := b.func fn
  let classCode := if b.port.cxl then 0x050210 else 0x058000
  match o with
  | 0x00 => 0xFFFFFFFF
  | 0x04 => 4 * b2n f.bme + 0x100000
  | 0x08 => classCode * 256
  | 0x2C => b.boot.board.subsystem.1 % 65536 + b.boot.board.subsystem.2 % 65536 * 65536
  | 0x34 => 0x40
  | 0x40 => 0x00028010
  | 0x44 => 0x10000000
  | 0x4C => 0x00460907
  | 0x6C => 0xFE
  | 0x80 => 0x11 + 2 ^ 16 * ((b.vectors fn - 1) + 2 ^ 14 * b2n f.funcMask + 2 ^ 15 * b2n f.msixEn)
  | 0x84 => 0x38000
  | 0x88 => 0x3C000
  | 0x100 => 0x1000E
  | _ => 0

/-- CLKREQ_N is low again: the reference clock is needed in every state but L1.2 (R189). -/
def Bridge.clkOn (b : Bridge) : Bridge :=
  if b.port.clkreq then b else (b.modPort (fun p => { p with clkreq := true })).emit (.pin .clkreqN false)

/-- WAKE_N is released: the link is on its way back (R196). -/
def Bridge.wakeOff (b : Bridge) : Bridge :=
  if b.port.wake then (b.modPort (fun p => { p with wake := false })).emit (.pin .wakeN true) else b

/-- The host link carries traffic: it is in L0 again, or L0p at its narrower width, with CLKREQ_N low (R189, R194, R195). -/
def Bridge.linkAwake (b : Bridge) : Bridge :=
  if b.port.lstate < 2 then b
  else ((b.modPort (fun p => { p with lstate := b2n (decide (p.active < p.width)) })).clkOn).wakeOff

/-- PME_Status is cleared, and WAKE_N with it (R196). -/
def Bridge.pmeClear (b : Bridge) : Bridge := (b.modPort (fun p => { p with pme := false })).wakeOff

/-- A power management event of PF0 (R196): PME_Status is set; with PME_En set the bridge sends PME, or asserts WAKE_N while the link is in L2 or
the reference clock is stopped. -/
def Bridge.pmEvent (b : Bridge) : Bridge :=
  let b := b.modPort (fun p => { p with pme := true })
  if !bitOf ((b.func 0).word 17) 8 then b
  else if b.port.pmeAck || !b.port.clkreq then (b.modPort (fun p => { p with wake := true })).emit (.pin .wakeN false)
  else if b.port.up then b.linkAwake.emit (.pme false) else b

/-- Nanoseconds of a latency field: a value of 10 bits times 32 to the scale of the next 3 (R199, R225; the format is the Base Specification's, log
entry 25). -/
def latencyNs (f : Nat) : Nat := f % 1024 * 32 ^ (f / 1024 % 8)

/-- A latency the bridge tolerates, no longer than the most the host has set; the spec gives none (R225, log entry 117). -/
def latencyWithin (free most : Nat) : Nat := 0x8000 + (if latencyNs (free % 0x2000) ≤ latencyNs most then free % 0x2000 else most % 0x2000)

/-- LTR is enabled or disabled: a message tells what the bridge tolerates, or withdraws it (R194, R225, log entry 117). -/
def Bridge.ltrChange (was on : Bool) (b : Bridge) : Bridge :=
  if was = on then b
  else if on then
    let (k, b) := b.freeNat
    let most := (b.func 0).word 113
    let m := (latencyWithin k (most % 65536), latencyWithin (k / 65536) (most / 65536))
    (b.modPort (fun p => { p with ltr := m })).emit (.ltr m.1 m.2)
  else if b.port.ltr = (0, 0) then b
  else (b.modPort (fun p => { p with ltr := (0, 0) })).emit (.ltr 0 0)

/-- Retry status holds a function's configuration requests: while LEVEL is 0, and during its FLR (R193, R216). -/
def Bridge.cfgRetry (b : Bridge) (fn : Nat) : Bool := decide (b.glb.level = 0) || (b.func fn).flr

/-- CONFIG_READ (R193, R197-R210, R216, R218). While Configuration RRS Software Visibility is set, a read of the Vendor ID under
retry status returns 0x0001. -/
def doConfigRead (fn tag dword : Nat) (b : Bridge) : Bridge :=
  if !b.exists fn then b.unsupported fn false tag
  else if b.cfgRetry fn then
    if dword = 0 ∧ b.port.rrsVis then b.emit (.cpl fn tag 0 (leBytes 4 0xFFFF0001) false)
    else b.emit (.cpl fn tag 2 [] false)
  else
    let v := if fn = 0 then b.cfgPf0 (4 * dword) else b.cfgVf fn (4 * dword)
    b.emit (.cpl fn tag 0 (leBytes 4 v) false)

/-- BUS_MASTER_ENABLE_WRITE: the bridge's own requests of the function stop, or go on (R225, R242). -/
def doBusMasterEnableWrite (fn : Nat) (on : Bool) (b : Bridge) : Bridge :=
  if !b.exists fn then b
  else
    let b := b.modFunc fn (fun f => { f with bme := on })
    if on then ((b.msixFlush fn).askBlocks) else b

/-- INTERRUPT_DISABLE_WRITE (R243, R244). -/
def doInterruptDisableWrite (on : Bool) (b : Bridge) : Bridge := (b.modFunc 0 (fun f => { f with intDisable := on })).intaEval

/-- FUNCTION_MASK_WRITE (R242). -/
def doFunctionMaskWrite (fn : Nat) (on : Bool) (b : Bridge) : Bridge :=
  if !b.exists fn then b else (b.modFunc fn (fun f => { f with funcMask := on })).msixFlush fn

/-- MSIX_ENABLE_CHANGE: PF0's pending bits move between its PBA and PCX_INTA_PEND (R244); a VF's held messages go out (R242). -/
def doMsixEnableChange (fn : Nat) (on : Bool) (b : Bridge) : Bridge :=
  if !b.exists fn || (b.func fn).msixEn = on then b
  else if fn ≠ 0 then (b.modFunc fn (fun f => { f with msixEn := on })).msixFlush fn
  else if on then
    let pend := b.port.intaPend
    let b := b.modFunc 0 (fun f => { f with
      msixEn := true
      msix := (List.range 64).foldl (fun t v => if pend.getLsbD v then Tbl.put v { Tbl.get {} v t with pba := true } t else t) f.msix })
    ((b.modPort (fun p => { p with intaPend := 0 })).intaEval).msixFlush 0
  else
    let pba := BitVec.ofNat 64 (packBits (fun v => ((b.func 0).entry v).pba) 64)
    let b := b.modFunc 0 (fun f => { f with msixEn := false, msix := Tbl.mapv (fun _ e => { e with pba := false }) f.msix })
    (b.modPort (fun p => { p with intaPend := p.intaPend ||| pba })).intaEval

/-- INTA_PENDING_CLEAR (R243): the bit of an interrupt of the same FCLK stays set (R244). -/
def doIntaPendingClear (mask : BitVec 64) (b : Bridge) : Bridge :=
  (b.modPort (fun p => { p with intaPend := p.intaPend &&& ~~~ (mask &&& ~~~ (if p.intaNew.1 = b.glb.time then p.intaNew.2 else 0)) })).intaEval

/-- INTA_ENABLE_WRITE: the condition is evaluated in the next FCLK (R244). -/
def doIntaEnableWrite (mask : BitVec 64) (b : Bridge) : Bridge := b.modPort (fun p => { p with intaEn := mask, intaDue := true })

/-- INTA_MESSAGE_PACING: 16 FCLK after the last message, one carries the condition's final state if it changed (R243). -/
def doIntaMessagePacing (b : Bridge) : Bridge := (b.modPort (fun p => { p with intaPaced := false })).intaEval

/-- MSIX_TABLE_WRITE: a 4-byte part of an entry; unmasking one whose PBA bit is set sends its message (R221, R242). -/
def doMsixTableWrite (fn entry dword value : Nat) (b : Bridge) : Bridge :=
  if !b.takesMemory fn || Nat.max 1 (b.vectors fn) ≤ entry then b
  else
    (b.modFunc fn (Func.setEntry entry (fun e =>
      match dword with
      | 0 => { e with addr := e.addr / 2 ^ 32 * 2 ^ 32 + value % 2 ^ 32 / 4 * 4 }
      | 1 => { e with addr := value % 2 ^ 32 * 2 ^ 32 + e.addr % 2 ^ 32 }
      | 2 => { e with data := value % 2 ^ 32 }
      | _ => { e with masked := bitOf value 0 }))).msixFlush fn

/-- Every function is in D3hot (R194, R196). -/
def Bridge.allD3 (b : Bridge) : Bool :=
  (List.range (1 + if b.port.vfEnable then b.port.numVfs else 0)).all (fun k =>
    decide ((b.func k).power = 3) || decide ((b.func 0).power = 3 ∧ k ≠ 0))

/-- POWER_STATE_WRITE: D0 and D3hot are taken, D1 and D2 discarded (R196); with every function in D3hot the link goes to L1, and
comes back with the first in D0 (R194). -/
def doPowerStateWrite (fn code : Nat) (b : Bridge) : Bridge :=
  if !b.exists fn || code = 1 || code = 2 then b
  else
    let b := b.modFunc fn (fun f => { f with power := code })
    if b.allD3 && b.port.up && decide (b.port.lstate < 2) then b.modPort (fun p => { p with lstate := 2 }) else b

/-- MEM_ENABLE_WRITE: setting it applies from the next FCLK on (R209). -/
def doMemEnableWrite (on : Bool) (b : Bridge) : Bridge :=
  b.modPort (fun p => { p with memEnable := on, memAt := if on && !p.memEnable then some b.glb.time else p.memAt })

/-- The SR-IOV controls return to their reset values, and every VF goes (R205, R215). -/
def Bridge.vfsGo (b : Bridge) : Bridge :=
  b.vfsOff.modPort (fun p => { p with numVfs := 0, vfMse := false, ari := false, pageSize := 1 })

/-- The INTA wire is deasserted, and its pending and enable bits clear (R215, R244). -/
def Bridge.intaReset (keep : Bool) (b : Bridge) : Bridge :=
  let sent := b.port.intaSent
  let b := b.modPort (fun p => { p with
    intaPend := if keep then p.intaPend else 0, intaEn := if keep then p.intaEn else 0, intaSent := false })
  if sent && !keep then (b.modPort (fun p => { p with intxMsg := cnt32 p.intxMsg 1 })).emit (.intx false) else b

/-- TLM_RST_CAUSE records a reset (R508). -/
def Bridge.resetCause (k : Nat) (b : Bridge) : Bridge := { b with pwr := { b.pwr with rstCause := putBit b.pwr.rstCause k true } }

/-- FUNCTION_LEVEL_RESET (R215, R216, R508). -/
def doFunctionLevelReset (fn : Nat) (b : Bridge) : Bridge :=
  if !b.exists fn then b
  else if fn = 0 then (((b.vfsGo).intaReset false).resetFn 0 true).resetCause 3
  else b.resetFn fn true

/-- FLR_COMPLETE (R216). -/
def doFlrComplete (fn : Nat) (b : Bridge) : Bridge := b.modFunc fn (fun f => { f with flr := false })

/-- VF_ENABLE_CHANGE (R205, R215). -/
def doVfEnableChange (on : Bool) (b : Bridge) : Bridge :=
  if on then (if b.port.vfEnable || b.glb.level < 2 then b else b.modPort (fun p => { p with vfEnable := true }))
  else b.vfsOff

/-- The checks of a decoder's commit (R212, R213). -/
def HostPort.hdmOk (p : HostPort) (dec : Nat) (h : Hdm) : Bool :=
  let start := h.skip + (if dec = 0 then 0 else p.dpaBase (dec - 1) + (Tbl.get ({} : Hdm) (dec - 1) p.hdm).dpaSize)
  (List.range dec).all (fun k => (Tbl.get ({} : Hdm) k p.hdm).committed)
    && decide (h.base % 2 ^ 28 = 0) && decide (h.size / h.ways % 2 ^ 30 = 0)
    && decide (start + h.size / h.ways ≤ 2 ^ 47) && decide (h.iw ≤ 3) && decide (h.ig ≤ 6)

/-- HDM_DECODER_COMMIT: a commit that passes takes effect at the next tick; one that fails sets Error Not Committed (R213). -/
def doHdmDecoderCommit (dec : Nat) (h : Hdm) (b : Bridge) : Bridge :=
  let old := Tbl.get ({} : Hdm) dec b.port.hdm
  if old.committed && old.lock then b
  else if b.port.hdmOk dec h then b.prepare (.hdmCommit dec h) 0
  else b.modPort (fun p => { p with hdm := Tbl.put dec { old with err := true } p.hdm })

/-- A tick makes a commit effective (R213). -/
def Bridge.hdmCommitted (dec : Nat) (h : Hdm) (b : Bridge) : Bridge :=
  b.modPort (fun p => { p with hdm := Tbl.put dec { h with committed := true, err := false } p.hdm })

/-- Every function's configuration space, mailboxes, rings, scans, semaphores, decoders and CXL.mem traffic go, as at a hot reset
(R215); entries drain (R94). -/
def Bridge.hostReset (keepInta : Bool) (b : Bridge) : Bridge :=
  let b := (b.vfsGo).intaReset keepInta
  let b := b.each (Tbl.keys b.scan.job) (fun id b => b.killJob id)
  let b := b.each (List.range 256) (fun fn b => (b.muteOps fn).breakSems fn)
  let b := b.modTen (fun t => { t with mbx := [] })
  let b := b.modScan (fun s => { s with ring := [], fetch := [] })
  let b := b.modPort (fun p => { p with
    fn := Tbl.keep (fun k _ => decide (256 ≤ k)) p.fn, reads := [], held := [], rxBuf := [], outReads := [], ltr := (0, 0), pme := false, hdm := [], memEnable := false, hdmEnable := false, range1 := 0 })
  b.each channels (fun n b => b.offerAll n)

/-- HOT_RESET (R215, R508). -/
def doHotReset (b : Bridge) : Bridge := (b.hostReset false).resetCause 2

/-- HOST_LINK_DOWN: DL_Active is left (R215, R236, R244, R245, R508). -/
def doHostLinkDown (b : Bridge) : Bridge :=
  if !b.port.up then b
  else (((b.hostReset true).modPort (fun p => { p with up := false, lstate := 0, quiet := 0, linkDown := cnt32 p.linkDown 1 })).clkOn).resetCause 2

/-- The physical lane of a logical one (R188). -/
def physLane (reversed : Bool) (k : Nat) : Nat := if reversed then 15 - k else k

/-- The widest width, up to the partner's, whose lanes are all present and working, counted from logical lane 0 (R188). -/
def widthOf (most lanes : Nat) (reversed : Bool) : Option Nat :=
  [16, 8, 4, 2, 1].find? (fun w => decide (w ≤ most) && (List.range w).all (fun k => bitOf lanes (physLane reversed k)))

/-- Equalization at a training (R192): every rate from 8 GT/s to the one reached, or with bypass the one reached alone. -/
def eqMask (rate : Nat) (bypass : Bool) : Nat :=
  packBits (fun r => decide (2 ≤ r) && (if bypass && decide (4 ≤ rate) then decide (r = rate) else decide (r ≤ rate))) 7

/-- The credits that a link coming up advertises (R219). -/
def Bridge.advertise (b : Bridge) : Bridge := b.emits [.credits 0 128 2048, .credits 1 256 64, .credits 2 0 0]

/-- HOST_LINK_TRAINING: the bridge offers Compute Express Link at the first training after PERST_N and the latched mode afterwards; a partner that
refuses it leaves the link in Detect until PERST_N (R186-R188, R190-R192). `cxl`: the partner takes Compute Express Link; `width`: the widest it
offers; `lanes`: the physical lanes that are present and work. -/
def doHostLinkTraining (cxl flit bypass : Bool) (rate width lanes : Nat) (reversed : Bool) (b : Bridge) : Bridge :=
  if b.heldAll || b.pwr.perstLow || b.pwr.unfit || b.port.fenced || b.port.up || b.port.noMode then b
  else
    let b := b.emit (.linkOffer 0 (2 + if b.port.modeLatched then b2n b.port.cxl else 1))
    if b.port.modeLatched && b.port.cxl != cxl then b.modPort (fun p => { p with noMode := true })
    else
      match widthOf width lanes reversed with
      | none => b
      | some w =>
        let rate := if cxl then Nat.min rate 5 else Nat.min rate 6
        let b := b.modPort (fun p => { p with
          modeLatched := true, cxl := cxl, flit := flit || cxl || decide (5 ≤ rate), rate := rate
          width := w, active := w, reversed := reversed, lanes := lanes % 65536, eq := p.eq ||| eqMask rate bypass
          up := true, lstate := 0, quiet := 0, pmeAck := false })
        let b := if w < width then ({ b with glb := { b.glb with hostLanesLost := true } }).degrade
          else if b.glb.hostLanesLost then ({ b with glb := { b.glb with hostLanesLost := false } }).regain
          else b
        (b.clkOn.advertise).intaEval

/-- L0P_WIDTH_REQUEST: in flit mode every width change the partner asks for is accepted (R195). -/
def doL0pWidthRequest (width : Nat) (b : Bridge) : Bridge :=
  if b.port.up && b.port.flit && decide (width ≤ b.port.width) && [1, 2, 4, 8, 16].contains width then
    (b.modPort (fun p => { p with active := width, lstate := b2n (decide (width < p.width)), quiet := 0 })).emit (.linkOffer 1 width)
  else b

/-- What a link carries in one direction at x16, in GB/s (R186). -/
def hostRateGb (rate : Nat) : Nat := [4, 8, 15, 30, 60, 121, 242].getD rate 0

/-- Bytes that a width carries in a stride of 1.024 us, in each direction (R186, R195, log entry 115). -/
def HostPort.strideBytes (p : HostPort) (width : Nat) : Nat := hostRateGb p.rate * 1024 * width / 16

/-- The host port's traffic at a tick (R195): a stride whose bytes stayed below the next narrower width's capacity, in both directions, makes the row
of such strides longer. -/
def HostPort.trafficTick (p : HostPort) : HostPort :=
  let now := (p.rxWr + p.txRd, p.rxRd + p.txWr)
  let room := p.strideBytes (p.active / 2)
  let low := decide (2 ≤ p.active) && decide (now.1 - p.moved.1 < room) && decide (now.2 - p.moved.2 < room)
  { p with moved := now, quiet := if low then Nat.min 64 (p.quiet + 1) else 0 }

/-- L0P_NARROW_REQUEST: after 64 strides in a row below a narrower width's capacity the bridge asks for it (R195); the partner's agreement
arrives as L0P_WIDTH_REQUEST. -/
def doL0pNarrowRequest (b : Bridge) : Bridge :=
  if b.port.up && b.port.flit && decide (2 ≤ b.port.active) && decide (64 ≤ b.port.quiet) then b.emit (.linkOffer 2 (b.port.active / 2)) else b

/-- ASPM_L1_ENTRY: enabled in Link Control, and both directions idle for 8 us (R194). -/
def doAspmL1Entry (b : Bridge) : Bridge :=
  if b.port.up && decide (b.port.lstate < 2) && bitOf ((b.func 0).word 28) 1 then b.modPort (fun p => { p with lstate := 2 }) else b

/-- L1.2 is allowed from the L1 that the link is in (R194, R199): PCI-PM L1.2 where every function is in D3hot and it is enabled; else ASPM L1.2
where it is enabled and each latency asked for in the last LTR message is at or above its threshold (the Base Specification's rule and bits,
log entry 25). -/
def Bridge.l12Allowed (b : Bridge) : Bool :=
  let ctl := (b.func 0).word 118
  let th := latencyNs (bitsOf ctl 25 16 + 1024 * bitsOf ctl 31 29)
  let ok : Nat → Bool := fun f => !bitOf f 15 || decide (th ≤ latencyNs f)
  if b.allD3 then bitOf ctl 0 else bitOf ctl 2 && ok b.port.ltr.1 && ok b.port.ltr.2

/-- L1_2_ENTRY: from L1, when the LTR rules allow; CLKREQ_N is released (R189, R194). -/
def doL12Entry (b : Bridge) : Bridge :=
  if b.port.up && decide (b.port.lstate = 2) && b.l12Allowed then
    (b.modPort (fun p => { p with lstate := 3, clkreq := false })).emit (.pin .clkreqN true)
  else b

/-- PME_TURN_OFF: answered with PME_TO_Ack (R194, R414). -/
def doPmeTurnOff (b : Bridge) : Bridge :=
  if b.port.up then ((b.modPort (fun p => { p with pmeAck := true })).emit (.pme true)).level 775 true else b

/-- VENDOR_DEFINED_MESSAGE: Type 1 is discarded, Type 0 is an Unsupported Request (R218). -/
def doVendorDefinedMessage (type1 : Bool) (b : Bridge) : Bridge := if type1 then b else b.unsupported 0 true 0

/-- SET_SLOT_POWER_LIMIT: the captured limit of Device Capabilities (R218, as the Base Specification defines, log entry 25). -/
def doSetSlotPowerLimit (value : Nat) (b : Bridge) : Bridge :=
  b.modFunc 0 (fun f => f.store 25 0x0FFC0000 (value % 1024 * 2 ^ 18))

/-- UNSUPPORTED_REQUEST (R218). -/
def doUnsupportedRequest (fn : Nat) (posted : Bool) (tag : Nat) (b : Bridge) : Bridge := b.unsupported fn posted tag

/-- HOST_LINK_ERROR: a link-layer or physical-layer error is reported through AER as PF0's (R237-R239): 0 Receiver Error, 1 Bad
TLP, 2 Bad DLLP, 3 REPLAY_NUM Rollover, 4 Replay Timer Timeout, 5 Corrected Internal, 6 Data Link Protocol, 7 Flow Control
Protocol, 8 Receiver Overflow, 9 ECRC, 10 a CXL link error, which RAS reports. -/
def doHostLinkError (kind : Nat) (b : Bridge) : Bridge :=
  match kind with
  | 0 => (b.aerCor 0).note 0x24 8 0
  | 1 => (b.aerCor 6).note 0x24 8 1
  | 2 => (b.aerCor 7).note 0x24 8 2
  | 3 => (b.aerCor 8).note 0x24 8 3
  | 4 => (b.aerCor 12).note 0x24 8 4
  | 5 => (b.aerCor 14).note 0x24 8 5
  | 6 => b.aerUnc 4 0 false
  | 7 => b.aerUnc 13 0 false
  | 8 => b.aerUnc 17 0 false
  | 9 => if bitOf ((b.func 0).word 70) 8 then b.aerUnc 19 0 false else b
  | 10 =>
    if b.port.cxl then (b.modPort (fun p => { p with ras := putBit p.ras 8 true })).aerUnc aerInternal 0 false else b
  | _ => b

/-- A write of a dword of PF0's configuration space: every field of the dword takes its new value, those with a row of their own
in the way of that row (R197-R199, R205, R208). -/
def Bridge.cfgWritePf0 (o v : Nat) (b : Bridge) : Bridge :=
  let p := b.port
  let was := bitOf ((b.func 0).word 34) 10
  let b := b.when (decide (p.stored b.ten.vfLimit o ≠ 0)) (·.modFunc 0 (Func.store (o / 4) (p.stored b.ten.vfLimit o) v))
  match o with
  | 0x04 =>
    let b := b.modPort (fun p => { p with status := p.status &&& (0xFFFF ^^^ (v / 2 ^ 16)) })
    let b := b.modFunc 0 (fun f => { f with mse := bitOf v 1 })
    let b := if (b.func 0).bme = bitOf v 2 then b else doBusMasterEnableWrite 0 (bitOf v 2) b
    if (b.func 0).intDisable = bitOf v 10 then b else doInterruptDisableWrite (bitOf v 10) b
  | 0x44 => doPowerStateWrite 0 (v % 4) (b.when (bitOf v 15) (·.pmeClear))
  | 0x7C => b.modPort (fun p => { p with rrsVis := bitOf v 4 })
  | 0x50 =>
    let b := if (b.func 0).funcMask = bitOf v 30 then b else doFunctionMaskWrite 0 (bitOf v 30) b
    doMsixEnableChange 0 (bitOf v 31) b
  | 0x68 =>
    let b := b.modPort (fun p => { p with devStatus := p.devStatus &&& (0xFFFF ^^^ (v / 2 ^ 16)) })
    let b := b.modFunc 0 (fun f => { f with mps := Nat.min 2 (bitsOf v 7 5), mrrs := Nat.min 5 (bitsOf v 14 12) })
    if bitOf v 15 then doFunctionLevelReset 0 b else b
  | 0x88 => (b.modFunc 0 (fun f => { f with cplTo := v % 16, cplDis := bitOf v 4 })).ltrChange was (bitOf v 10)
  | 0x104 =>
    b.modPort (fun p => { p with aer := { p.aer with unc := p.aer.unc &&& (0xFFFFFFFF ^^^ v), hdrValid := p.aer.hdrValid && !bitOf v p.aer.first } })
  | 0x108 => b.modPort (fun p => { p with aer := { p.aer with uncMask := v } })
  | 0x10C => b.modPort (fun p => { p with aer := { p.aer with uncSev := v } })
  | 0x110 => b.modPort (fun p => { p with aer := { p.aer with cor := p.aer.cor &&& (0xFFFFFFFF ^^^ v) } })
  | 0x114 => b.modPort (fun p => { p with aer := { p.aer with corMask := v } })
  | 0x178 =>
    let b := b.modPort (fun p => { p with vfMse := bitOf v 3, ari := bitOf v 4 })
    if b.port.vfEnable = bitOf v 0 then b else doVfEnableChange (bitOf v 0) b
  | 0x180 => if p.vfEnable || 255 < v % 65536 then b else b.modPort (fun p => { p with numVfs := v % 65536 })
  | 0x190 => if v = 1 ∨ v = 2 ∨ v = 16 then b.modPort (fun p => { p with pageSize := v }) else b
  | 0x33C => doMemEnableWrite (bitOf v 2) b
  | 0x350 => b.modPort (fun p => { p with range1 := v * 2 ^ 32 + p.range1 % 2 ^ 32 })
  | 0x354 => b.modPort (fun p => { p with range1 := p.range1 / 2 ^ 32 * 2 ^ 32 + v / 2 ^ 28 * 2 ^ 28 })
  | _ => b

/-- A write of a dword of a VF's configuration space (R207). -/
def Bridge.cfgWriteVf (fn o v : Nat) (b : Bridge) : Bridge :=
  match o with
  | 0x04 => if (b.func fn).bme = bitOf v 2 then b else doBusMasterEnableWrite fn (bitOf v 2) b
  | 0x48 => if bitOf v 15 then doFunctionLevelReset fn b else b
  | 0x80 =>
    let b := if (b.func fn).funcMask = bitOf v 30 then b else doFunctionMaskWrite fn (bitOf v 30) b
    doMsixEnableChange fn (bitOf v 31) b
  | _ => b

/-- CONFIG_WRITE: a dword under its byte enables (R193, R197-R210, R216, R218). -/
def doConfigWrite (fn tag dword value be : Nat) (b : Bridge) : Bridge :=
  if !b.exists fn then b.unsupported fn false tag
  else if b.cfgRetry fn then b.emit (.cpl fn tag 2 [] false)
  else
    let old := if fn = 0 then b.cfgPf0 (4 * dword) else b.cfgVf fn (4 * dword)
    let m := (if bitOf be 0 then 0xFF else 0) + (if bitOf be 1 then 0xFF00 else 0) + (if bitOf be 2 then 0xFF0000 else 0)
      + (if bitOf be 3 then 0xFF000000 else 0)
    let w1c := fn = 0 && (4 * dword = 0x104 || 4 * dword = 0x110)
    let keep := if w1c then 0
      else if fn ≠ 0 then 0xFFFFFFFF
      else match 4 * dword with
        | 0x04 => 0x0000FFFF
        | 0x44 => 0xFFFF7FFF
        | 0x68 => 0x0000FFFF
        | _ => 0xFFFFFFFF
    let v := (value &&& m) ||| (old &&& (keep &&& (0xFFFFFFFF ^^^ m)))
    (if fn = 0 then b.cfgWritePf0 (4 * dword) v else b.cfgWriteVf fn (4 * dword) v).emit (.cpl fn tag 0 [] false)

end Sys2Proof.Machine
end

