-- ==== Sys2Proof/Machine/Cxl.lean ====
section
/-! DEFINITION. The primary CXL mailbox (R211). Return codes and payload layouts are those of CXL 3.1 (log entry 33). -/

namespace Sys2Proof.Machine

open Sys2Proof

/-- A command of the CXL mailbox answers; nothing in PCI Express mode (R210). Its interrupt is PF0's index 5 (R240); the
command it posted raises source 774 (R414). -/
def Bridge.cxlAnswer (code : Nat) (payload : List Byte) (b : Bridge) : Bridge :=
  if b.port.cxl then ((b.level 774 true).emit (.cxl code payload)).raise 0 5 else b

/-- CXL_IDENTIFY_MEMORY_DEVICE: 128 TiB, all volatile, in units of 256 MiB; no poison list (R211). The firmware revision and the
sizes of the event logs are open (log entry 4). -/
def doCxlIdentifyMemoryDevice (b : Bridge) : Bridge :=
  let (rev, b) := b.freeNat
  let (sizes, b) := b.freeNat
  b.cxlAnswer 0 (leBytes 16 rev ++ leBytes 8 524288 ++ leBytes 8 524288 ++ leBytes 8 0 ++ leBytes 8 0 ++ leBytes 8 sizes ++ leBytes 11 0)

/-- TLM_TJ_MAX: the hottest of the die sensors 0 to 12 that have a reading, and its number (R527). -/
def Bridge.tjMax (b : Bridge) : Option (Int × Nat) :=
  b.tlm.sensor.foldl (fun m e =>
    if e.2.2 && decide (e.1 < 13) then
      (match m with
      | some (v, k) => if v < e.2.1 then some (e.2.1, e.1) else some (v, k)
      | none => some (e.2.1, e.1))
    else m) none

/-- CXL_GET_HEALTH_INFO: health from the fault blocks, temperature from telemetry (R211, log entry 33). -/
def doCxlGetHealthInfo (b : Bridge) : Bridge :=
  let severe := (List.range 56).any b.faults.severeAny
  let health := b2n severe + 2 * b2n (decide (b.glb.level = 3))
  let media := if b.glb.level = 2 ∨ b.glb.level = 3 then 0 else 1
  let corr := (channels.map (fun n => (b.chan n).acc.corr)).foldl cnt32 0
  b.cxlAnswer 0 ([BitVec.ofNat 8 health, BitVec.ofNat 8 media, 0, 0xFF] ++ leBytes 2 ((b.tjMax.map (fun x => (x.1 / 16 % 65536).toNat)).getD 0) ++ leBytes 4 0 ++ leBytes 4 corr ++ leBytes 4 0)

/-- The UUID of the Command Effects Log (CXL 3.1). -/
def celUuid : List Byte := [0x0d, 0xa9, 0xc0, 0xb5, 0xbf, 0x41, 0x4b, 0x78, 0x8f, 0x79, 0x96, 0xb1, 0x62, 0x3b, 0x3f, 0x17]

/-- The Command Effects Log: opcode and effects of each command supported (R211). -/
def celLog : List Byte :=
  ([0x0002, 0x0100, 0x0101, 0x0102, 0x0103, 0x0300, 0x0301, 0x0400, 0x0401, 0x4000, 0x4200].map (fun (op : Nat) =>
    leBytes 2 op ++ leBytes 2 (if op = 0x0103 ∨ op = 0x0301 then 8 else 0))).flatten

/-- CXL_GET_SUPPORTED_LOGS (R211). -/
def doCxlGetSupportedLogs (b : Bridge) : Bridge :=
  b.cxlAnswer 0 (leBytes 2 1 ++ leBytes 6 0 ++ celUuid ++ leBytes 4 celLog.length)

/-- CXL_GET_LOG: UUID, offset and length name a part of the Command Effects Log (R211). -/
def doCxlGetLog (payload : List Byte) (b : Bridge) : Bridge :=
  let off := fieldAt 16 4 payload
  let len := fieldAt 20 4 payload
  if payload.length ≠ 24 then b.cxlAnswer 0x16 []
  else if payload.take 16 ≠ celUuid then b.cxlAnswer 0x17 []
  else if celLog.length < off + len then b.cxlAnswer 2 []
  else b.cxlAnswer 0 (bytesAt off len celLog)

/-- The UUID of an event record (CXL 3.1). -/
def CxlEvent.uuid (e : CxlEvent) : List Byte :=
  if e.media then [0xfb, 0xcd, 0x0a, 0x77, 0xc2, 0x60, 0x41, 0x7f, 0x85, 0xa9, 0x08, 0x8b, 0x16, 0x21, 0xeb, 0xa6]
  else [0xfe, 0x92, 0x74, 0x75, 0xdd, 0x59, 0x43, 0x39, 0xa5, 0x86, 0x79, 0xba, 0xb1, 0x13, 0xb7, 0x74]

/-- One event record of 128 bytes: header, then the address or source it names. -/
def CxlEvent.bytes (e : CxlEvent) : List Byte :=
  e.uuid ++ leBytes 1 128 ++ leBytes 3 e.log ++ leBytes 2 e.handle ++ leBytes 2 0 ++ leBytes 8 e.time ++ leBytes 16 0
    ++ (if e.media then leBytes 8 e.detail else leBytes 4 e.block ++ leBytes 4 e.src) ++ leBytes 72 0

/-- CXL_GET_EVENT_RECORDS (R211). -/
def doCxlGetEventRecords (payload : List Byte) (b : Bridge) : Bridge :=
  if payload.length ≠ 1 then b.cxlAnswer 0x16 []
  else if 3 < fieldAt 0 1 payload then b.cxlAnswer 2 []
  else
    let es := b.cxl.events.filter (fun e => decide (e.log = fieldAt 0 1 payload))
    b.cxlAnswer 0 (leBytes 20 0 ++ leBytes 2 es.length ++ leBytes 10 0 ++ (es.map CxlEvent.bytes).flatten)

/-- CXL_CLEAR_EVENT_RECORDS: all of a log's, or those whose handles are named (R211). -/
def doCxlClearEventRecords (payload : List Byte) (b : Bridge) : Bridge :=
  let log := fieldAt 0 1 payload
  let n := fieldAt 2 1 payload
  let hs := (List.range n).map (fun k => fieldAt (6 + 2 * k) 2 payload)
  let mine := fun (e : CxlEvent) => decide (e.log = log)
  if payload.length < 6 ∨ payload.length ≠ 6 + 2 * n then b.cxlAnswer 0x16 []
  else if 3 < log then b.cxlAnswer 2 []
  else if bitOf (fieldAt 1 1 payload) 0 then
    { b with cxl := { b.cxl with events := b.cxl.events.filter (fun e => !mine e) } }.cxlAnswer 0 []
  else if hs.all (fun h => b.cxl.events.any (fun e => mine e && decide (e.handle = h))) then
    { b with cxl := { b.cxl with events := b.cxl.events.filter (fun e => !(mine e && hs.contains e.handle)) } }.cxlAnswer 0 []
  else b.cxlAnswer 0xE []

/-- CXL_GET_EVENT_INT_POLICY (R211). -/
def doCxlGetEventIntPolicy (b : Bridge) : Bridge := b.cxlAnswer 0 (leBytes 4 b.cxl.policy)

/-- CXL_SET_EVENT_INT_POLICY (R211). -/
def doCxlSetEventIntPolicy (payload : List Byte) (b : Bridge) : Bridge :=
  if payload.length ≠ 4 then b.cxlAnswer 0x16 []
  else if b.port.cxl then { b with cxl := { b.cxl with policy := fieldAt 0 4 payload } }.cxlAnswer 0 []
  else b

/-- CXL_GET_TIMESTAMP (R211). -/
def doCxlGetTimestamp (b : Bridge) : Bridge := b.cxlAnswer 0 (leBytes 8 b.hostTime)

/-- CXL_SET_TIMESTAMP: host time is kept beside the FCLK timestamp, which it never changes (R211). -/
def doCxlSetTimestamp (payload : List Byte) (b : Bridge) : Bridge :=
  if payload.length ≠ 8 then b.cxlAnswer 0x16 []
  else if b.port.cxl then { b with cxl := { b.cxl with hostTime := fieldAt 0 8 payload, setAt := some b.glb.time } }.cxlAnswer 0 []
  else b

/-- CXL_BACKGROUND_OP_STATUS: always idle (R211). -/
def doCxlBackgroundOpStatus (b : Bridge) : Bridge := b.cxlAnswer 0 (leBytes 8 0)

/-- CXL_UNSUPPORTED_COMMAND: any other command returns Unsupported (R211). -/
def doCxlUnsupportedCommand (b : Bridge) : Bridge := b.cxlAnswer 3 []

end Sys2Proof.Machine
end

