-- ==== Sys2Proof/Machine/Tenancy.lean ====
section
/-! DEFINITION. What an instance is given: segments, slots, extents; its creation, switch, teardown and release (R315-R324, R340,
R341). -/

namespace Sys2Proof.Machine

open Sys2Proof

/-- Segment slots in use on a channel (R71). -/
def Bridge.slotsUsed (b : Bridge) (ch : Nat) : List Nat :=
  b.ten.seg.filterMap (fun e =>
    if e.2.res.1 = ch then some e.2.res.2 else if e.2.mirrored ∧ e.2.alt.1 = ch then some e.2.alt.2 else none)

/-- Free segment slots of a channel, of 8,192 (R71). -/
def Bridge.freeSlots (b : Bridge) (ch : Nat) : Nat := 8192 - (b.slotsUsed ch).length

/-- A free segment slot of a channel: which one is resident firmware's choice (log entry 22). -/
def Bridge.pickSlot (ch : Nat) (b : Bridge) : Option Nat × Bridge :=
  b.pick (fun k => !(b.slotsUsed ch).contains k) 8192

/-- A DLA segment that no entry names: which one is resident firmware's choice (R71, log entry 22). -/
def Bridge.pickDla (b : Bridge) : Option Nat × Bridge := b.pick (fun s => b.ten.seg.all (fun e => decide (e.2.dlaSeg ≠ s))) 131072

/-- Whole free extents that an allocation may take on a channel's sled: outside the reserve, on an unfenced channel whose
sled is not being evacuated (R20, R74, R124). -/
def Bridge.extRoom (b : Bridge) (ch : Nat) : Nat :=
  if b.chFenced ch || (b.chan ch).herd.evac then 0 else Nat.min (b.freeOutside ch / 512) (b.capExts ch - (b.extsOf ch).length)

/-- Take whole extents of a channel's sled. -/
def Bridge.takeExts (ch k : Nat) (b : Bridge) : List (Nat × Nat) × Bridge :=
  let (s, b) := b.freeNat
  let xs := b.someExts ch k s
  (xs.map (fun x => (ch, x)), b.each xs (fun x b => b.modExt ch x (fun e => { e with whole := true })))

/-- Homes for the extents of a plain segment: on the resolving channel's sled as far as it has room, and else on a channel the
Herder chooses (R74, log entry 22). None where the sleds have too few. -/
def Bridge.homeExts : Nat → Nat → Nat → Bridge → Option (List (Nat × Nat) × Bridge)
  | 0, _, k, b => if k = 0 then some ([], b) else none
  | fuel + 1, ch, k, b =>
    let r := Nat.min k (b.extRoom ch)
    let (xs, b) := b.takeExts ch r
    if r = k then some (xs, b)
    else
      match b.pick (fun c => decide (0 < b.extRoom c)) 16 with
      | (some c, b) => (Bridge.homeExts fuel c (k - r) b).map (fun y => (xs ++ y.1, y.2))
      | (none, _) => none

/-- Write the descriptors of a segment's extents from number `first` on, on one of its resolving channels; not yet VALID. -/
def Bridge.putDescs (e : SegEntry) (ch first : Nat) (homes parts : List (Nat × Nat)) (b : Bridge) : Bridge :=
  b.each (List.range homes.length) (fun k b =>
    match e.descKey ch (first + k) with
    | some key =>
      let d : Desc := { mirror := e.mirrored, inst := e.inst, home := (homes[k]?).getD (0, 0), part := (parts[k]?).getD (0, 0)
                        ext := e.dlaSeg * 512 + first + k }
      b.modHerd (fun h => { h with desc := Tbl.put key d h.desc })
    | none => b)

/-- Allocate extents of a segment from its number of extents up to `want` (R74, R95). -/
def Bridge.fillSeg (key want : Nat) (e : SegEntry) (b : Bridge) : Option Bridge :=
  let k := want - e.extents
  let b := b.modSeg key (fun e => { e with extents := want })
  if e.mirrored then
    if b.extRoom e.res.1 < k || b.extRoom e.alt.1 < k then none
    else
      let (xs, b) := b.takeExts e.res.1 k
      let (ys, b) := b.takeExts e.alt.1 k
      some ((b.putDescs e e.res.1 e.extents xs ys).putDescs e e.alt.1 e.extents ys xs)
  else (b.homeExts 17 e.res.1 k).map (fun x => x.2.putDescs e e.res.1 e.extents x.1 [])

/-- The homes a descriptor holds return to their sled's pool: its extent, its evacuation's destination, and the granules that
moved elsewhere. -/
def Bridge.freeDesc (key : Nat) (d : Desc) (b : Bridge) : Bridge :=
  let b := b.freeExt d.home.1 d.home.2
  let b := match d.evac with
    | some (c, x) => b.freeExt c x
    | none => b
  let mine := b.herd.exc.filter (fun e => decide (e.1 / 2 ^ 35 = key / 2 ^ 22) && decide (e.1 % 2 ^ 35 / 512 = d.ext))
  let b := b.each mine (fun e b => b.freeGran e.2.home.1 e.2.home.2)
  b.modHerd (fun h => { h with
    desc := Tbl.del key h.desc
    exc := h.exc.filter (fun e => !(decide (e.1 / 2 ^ 35 = key / 2 ^ 22) && decide (e.1 % 2 ^ 35 / 512 = d.ext)))
    dir := h.dir.filter (fun x => !(decide (x.1 / 512 = d.ext) && decide (x.2.resCh = key / 2 ^ 22))) })

/-- Give up a segment's extents from number `want` on, and the segment itself where none is left. -/
def Bridge.trimSeg (key want : Nat) (e : SegEntry) (b : Bridge) : Bridge :=
  let b := b.each (b.herd.desc.filter (fun x => decide (x.2.ext / 512 = e.dlaSeg) && decide (want ≤ x.2.ext % 512))) (fun x b => b.freeDesc x.1 x.2)
  if want = 0 then b.modTen (fun t => { t with seg := Tbl.del key t.seg })
  else b.modSeg key (fun e => { e with extents := want })

/-- The unfenced channels of a mask in the order of the rotation: ascending, from the one with the most free segment slots, the
lowest-numbered among equals (R318). -/
def Bridge.rotation (mask : Nat) (b : Bridge) : List Nat :=
  let chs := channels.filter (fun c => bitOf mask c && !b.chFenced c)
  let top := (chs.map b.freeSlots).foldl Nat.max 0
  match chs.find? (fun c => decide (b.freeSlots c = top)) with
  | some s => chs.filter (fun c => decide (s ≤ c)) ++ chs.filter (fun c => decide (c < s))
  | none => []

/-- Lay out window segment `w` of an instance with `want` extents (R318): one that stands is filled or trimmed. -/
def Bridge.layoutSeg (i w want pre : Nat) (mirrored : Bool) (turn : List Nat) (b : Bridge) : Option Bridge :=
  let key := i * 131072 + w
  match Tbl.find key b.ten.seg with
  | some e => if want ≤ e.extents then some (b.trimSeg key want e) else b.fillSeg key want e
  | none =>
    match turn[w % turn.length]?, turn[(w + 1) % turn.length]? with
    | some ch, some alt =>
      match b.pickDla with
      | (some dla, b) =>
        match b.pickSlot ch with
        | (some slot, b) =>
          let e : SegEntry := { dlaSeg := dla, res := (ch, slot), inst := i, mirrored := mirrored, extents := 0, pre := pre }
          if mirrored then
            match b.pickSlot alt with
            | (some s2, b) =>
              let e := { e with alt := (alt, s2) }
              if alt = ch then none else (b.modTen (fun t => { t with seg := Tbl.put key e t.seg })).fillSeg key want e
            | (none, _) => none
          else (b.modTen (fun t => { t with seg := Tbl.put key e t.seg })).fillSeg key want e
        | (none, _) => none
      | (none, _) => none
    | _, _ => none

/-- Lay out the segments of an instance as its resources say (R317, R318); none where extents, slots or channels are too few.
Segments that an instance holds already keep what they may, the mirrored ones behind the new plain ones. -/
def Bridge.layout (i : Nat) (old g : Grant) (b : Bridge) : Option Bridge :=
  let p := ceilDiv g.plain 512
  let m := ceilDiv g.mirrored 512
  let oldP := ceilDiv old.plain 512
  let turn := b.rotation g.chMask
  let mine := b.ten.seg.filter (fun e => decide (e.1 / 131072 = i))
  let gone := mine.filter (fun e => if e.2.mirrored then decide (m ≤ e.1 % 131072 - oldP) else decide (p ≤ e.1 % 131072))
  let b := b.each gone (fun e b => b.trimSeg e.1 0 e.2)
  let mir := b.ten.seg.filter (fun e => decide (e.1 / 131072 = i) && e.2.mirrored)
  let rest := b.ten.seg.filter (fun e => !(decide (e.1 / 131072 = i) && e.2.mirrored))
  let b := b.modTen (fun t => { t with seg := mir.foldl (fun s e => Tbl.put (i * 131072 + p + (e.1 % 131072 - oldP)) e.2 s) rest })
  let want := fun (total k : Nat) => Nat.min 512 (total - 512 * k)
  let b := (List.range p).foldl (fun b w => b.bind (fun b => b.layoutSeg i w (want g.plain w) g.pre false turn)) (some b)
  (List.range m).foldl (fun b w => b.bind (fun b => b.layoutSeg i (p + w) (want g.mirrored w) g.pre true turn)) b

/-- The instance's descriptors and segment entries become VALID (R321 step 4). -/
def Bridge.publish (i : Nat) (b : Bridge) : Bridge :=
  let b := b.modTen (fun t => { t with seg := Tbl.mapv (fun k e => if k / 131072 = i then { e with valid := true } else e) t.seg })
  b.modHerd (fun h => { h with desc := Tbl.mapv (fun _ d => if d.inst = i then { d with valid := true } else d) h.desc })

/-- What an instance holds in the maps and on the sleds returns to the pools (R321, R340 step 5). -/
def Bridge.releaseMaps (i : Nat) (b : Bridge) : Bridge :=
  let b := b.each (b.herd.desc.filter (fun e => decide (e.2.inst = i))) (fun e b => b.freeDesc e.1 e.2)
  let b := b.each (b.inst i).stopped (fun l b =>
    match l with
    | .sled c g => b.freeGran c g
    | .near _ => b)
  let b := b.modTen (fun t => { t with seg := t.seg.filter (fun e => decide (e.1 / 131072 ≠ i)) })
  b.modHerd (fun h => { h with dir := h.dir.filter (fun e => decide (e.2.inst ≠ i)), exc := h.exc.filter (fun e => decide (e.2.inst ≠ i)) })

/-- A policer of another profile: the colour counters of a Leash are cleared by their clear, power-on reset and PERST_N only (R349). -/
def Policer.counting (old p : Policer) : Policer := { p with green := old.green, yellow := old.yellow, red := old.red }

/-- Resources in the place of others: the Leash's counters stay (R349). -/
def Grant.counting (old g : Grant) : Grant := { g with rd := old.rd.counting g.rd, wr := old.wr.counting g.wr }

/-- An instance that is NONE again: only its counters stay (R349). -/
def Inst.gone (x : Inst) : Inst := { grant := x.grant.counting {}, tagErr := x.tagErr }

/-- A creation that does not come to be: its resources return, and the instance stays NONE (R321, R363). -/
def Bridge.abortCreate (i : Nat) (b : Bridge) : Bridge := (b.releaseMaps i).modInst i Inst.gone

/-- A policer with full buckets. -/
def Policer.full (p : Policer) : Policer := { p with tc := p.cbs, tp := p.pbs }

/-- The switch of a creation (R321 step 4): LIVE, with full buckets and its segments VALID. -/
def Bridge.switchCreate (i : Nat) (b : Bridge) : Bridge :=
  let s := b.stride
  (b.publish i).modInst i (fun x => { x with
    state := .live, keyValid := true, switched := s, grant := { x.grant with rd := x.grant.rd.full, wr := x.grant.wr.full } })

/-- Step 1 of a teardown (R340): TEARING; the mailbox is reset, and scans stop. -/
def Bridge.beginTeardown (i : Nat) (cmd : Nat × Nat × Nat) (b : Bridge) : Bridge :=
  let b := b.modInst i (fun x => { x with state := .tearing, tearCmd := some cmd })
  ((b.muteOps i).resetMbx i).resetRings i

/-- Step 3 of a teardown (R340): segments lose VALID, semaphores are released with BROKEN, copies stop. -/
def Bridge.switchTeardown (i : Nat) (b : Bridge) : Bridge :=
  let s := b.stride
  let b := b.modTen (fun t => { t with seg := Tbl.mapv (fun k e => if k / 131072 = i then { e with valid := false } else e) t.seg })
  let b := b.breakSems i
  let b := b.each (b.herd.copies.filter (fun e => decide (e.2.inst = i))) (fun e b => b.endCopy e.1 3)
  let b := b.each channels (fun n b => b.modSch n (fun s => { s with deficit := s.deficit.filter (fun e => decide (e.1 % 256 ≠ i)) }))
  b.modInst i (fun x => { x with tornAt := some s, switched := s })

/-- A unit of an instance that an earlier rule let in is still under way (R339, R340 step 4). -/
def WorkUnit.ofInst (i : Nat) (b : Bridge) (n : Nat) (u : WorkUnit) : Bool :=
  match u.kind with
  | .drain _ => decide (u.inst = i)
  | .hostRead _ _ _ => decide (u.inst = i)
  | .retriever _ _ _ => decide (u.inst = i)
  | .grace ln _ => (b.chan n).ll.gstore.any (fun g => decide (g.ln = ln ∧ g.inst = i))
  | _ => false

/-- Step 4 of a teardown is over: every access admitted before its tick has finished, and every write of the instance has drained
(R339, R340). -/
def Bridge.drained (i : Nat) (b : Bridge) : Bool :=
  channels.all (fun n =>
    (b.chan n).sch.running.all (fun r => !r.unit.ofInst i b n)
      && (b.chan n).acc.wcb.all (fun e => decide (e.inst ≠ i))
      && (b.chan n).ll.gstore.all (fun g => decide (g.inst ≠ i)))

end Sys2Proof.Machine
end

