-- ==== Sys2Proof/Machine/Kennel.lean ====
section
/-! DEFINITION. The kennel and its tamper sources, the debug lock, VBAT, the fuses, the choice of a firmware image (R325,
R452-R484). -/

namespace Sys2Proof.Machine

open Sys2Proof

/-- Change the kennel. -/
def Bridge.modKnl (f : Kennel → Kennel) (b : Bridge) : Bridge := { b with knl := f b.knl }

/-- Change the fuses. -/
def Bridge.modFuses (f : Fuses → Fuses) (b : Bridge) : Bridge := { b with fuses := f b.fuses }

/-- A word of the fuse shadow (R477). -/
def Bridge.fuse (b : Bridge) (w : Nat) : Nat := (Tbl.get 0 w b.fuses.shadow).toNat

/-- The rollback counter: set bits of words 16-23 (R472). -/
def Bridge.rollback (b : Bridge) : Nat := ((List.range 8).map (fun k => popCount (b.fuse (16 + k)) 32)).foldl (· + ·) 0

/-- A key operation runs: a key command waits for its switch (R483). -/
def Bridge.keyOp (b : Bridge) : Bool := b.citan.prepared.any (fun p => match p.change with
  | .instCreate _ => p.doneAt.isNone
  | .keyChange _ _ _ => p.doneAt.isNone
  | _ => false)

/-- The KEK's 256 bits: those an image gave, or what the kennel generated (R456). -/
def Kennel.kekValue (k : Kennel) : BitVec 256 := if k.kekProv then k.kekBits else Config.kek k.kek

/-- The KEK is zeroised (R462). -/
def Bridge.zeroiseKek (b : Bridge) : Bridge := b.modKnl (fun k => { k with kekValid := false, kekProv := false })

/-- Every engine key slot is zeroised in one FCLK: keys are invalid, and entries awaiting drain and grace-store lines are discarded
(R325). -/
def Bridge.zeroiseKeys (b : Bridge) : Bridge :=
  let b := b.modTen (fun t => { t with inst := Tbl.mapv (fun _ i => { i with keyValid := false }) t.inst, keysLost := true })
  let b := { b with glb := { b.glb with tampered := true } }
  b.each channels (fun n b =>
    let b := b.discardEntries n (fun e => !e.sealed)
    b.each (b.chan n).ll.gstore (fun g b => b.graceLost n g))

/-- The key commands in progress complete with TAMPERED, and their switches do not take effect, one of the same FCLK's tick among them
(R462, R466). -/
def Bridge.abortKeys (b : Bridge) : Bridge :=
  let ps := b.citan.prepared.filter (fun p => (p.doneAt.isNone || (decide (p.doneAt = some b.stride) && decide (b.glb.time % 1536 = 0))) && match p.change with
    | .instCreate _ => true
    | .keyChange _ _ _ => true
    | _ => false)
  let b := { b with citan := { b.citan with prepared := b.citan.prepared.filter (fun p => !ps.contains p) } }
  b.each ps (fun p b =>
    let b := match p.change with
      | .instCreate i => b.abortCreate i
      | _ => b
    match p.cmd with
    | some r => b.respond r 6 0 0 []
    | none => b)

/-- KEY_LOST goes to every live instance, and the TAMPER source has its event (R361, R388, R462). -/
def Bridge.reportTamper (cause detail : Nat) (b : Bridge) : Bridge :=
  let b := b.each b.ten.inst (fun e b => if e.2.state = .live then b.notify e.1 2 0 [] else b)
  (b.note 0x31 8 (cause + 256 * detail)).raise 0 7

/-- A tamper log entry is written, the latch set and the counter raised (R453, R462, R463). -/
def Kennel.logTamper (time cause detail : Nat) (count : Bool) (k : Kennel) : Kennel :=
  { k with
    log := Tbl.put k.next { time := time, epoch := k.epoch, cause := cause, detail := detail % 65536 } k.log
    next := (k.next + 1) % 16, wrapped := k.wrapped || decide (k.next = 15), latch := true
    count := if count then satAdd 65535 k.count 1 else k.count }

/-- The bridge is in Off for the kennel: main power is not up (R461, R488, log entry 34). -/
def Bridge.off (b : Bridge) : Bool := b.pwr.por

/-- A source is watched: TMP_N by its enable bit, the voltage detector while PWR_FAIL_N is high and no power-loss sequence runs;
in Off only TMP_N and temperature (R461). -/
def Bridge.watches (b : Bridge) (src : Nat) : Bool :=
  match src with
  | 4 => !b.off && !b.pwr.failLow && decide (b.jrn.step = 0)
  | 5 => !b.off
  | 6 => true
  | 7 => true
  | _ => decide (src < 4) && bitOf b.knl.tmpEn src

/-- TAMPER_FIRE: a source fires (R461-R463). One still active does not fire anew. -/
def doTamperFire (src detail : Nat) (b : Bridge) : Bridge :=
  if !b.watches src || bitOf b.knl.active src then b
  else
    let time := if b.off then 2 ^ 63 + b.knl.timeCopy % 2 ^ 63 else b.glb.time
    let b := b.modKnl (fun k => { k.logTamper time src detail true with active := if src < 7 then putBit k.active src true else k.active })
    let b := if src < 7 then b.level 930 true else b
    let b := b.zeroiseKek.abortKeys
    if b.off then b
    else if b.glb.level = 0 then
      let b := b.zeroiseKeys.baseService 1
      { b with glb := { b.glb with tampered := true } }
    else if b.pwr.state = 3 then
      b.zeroiseKeys.modKnl (fun k => { k with atWake := k.atWake ++ [(src, detail)] })
    else b.zeroiseKeys.reportTamper src detail

/-- TAMPER_SOURCE_CLEAR: a source stops being active (R461). -/
def doTamperSourceClear (src : Nat) (b : Bridge) : Bridge :=
  let b := b.modKnl (fun k => { k with active := putBit k.active src false })
  if b.knl.active = 0 then b.level 930 false else b

/-- A write of KNL_LOCK.DEBUG_OFF: the first since reset is taken, a later one discarded under R7 (R481, R483). -/
def Bridge.debugLockWrite (on : Bool) (b : Bridge) : Bridge :=
  if b.knl.debugWritten then b.lateWrite 9 0x700008
  else b.modKnl (fun k => { k with debugOff := on, debugWritten := true })

/-- DEBUG_LOCK_SET (R483). -/
def doDebugLockSet (b : Bridge) : Bridge := b.debugLockWrite true

/-- JTAG_INSTRUCTION: one beyond boundary scan is refused while the latch, DEBUG_DISABLE or DEBUG_OFF is set (R462, R476, R483). -/
def doJtagInstruction (boundary : Bool) (b : Bridge) : Bridge :=
  if bitOf b.glb.sideFenced 2 then b
  else
    let ok := boundary || !(b.knl.latch || b.knl.debugOff || bitOf (b.fuse 3) 0)
    b.emit (.side 0 (b2n ok))

/-- VBAT_MEASURE: VBAT is measured, every 1,024 strides; each fall below 2.4 V is an event of VBAT_LOW (R388, R482, R483). -/
def doVbatMeasure (mv : Nat) (b : Bridge) : Bridge :=
  let low := decide (mv < 2400)
  let falls := low && !b.knl.vbatLow
  (b.modKnl (fun k => { k with vbat := mv % 8192, vbatLow := low })).when falls (·.note 0x31 9 mv)

/-- FUSE_REVERIFY: the array is read again, where the tick has made it due (R478). -/
def doFuseReverify (b : Bridge) : Bridge :=
  if b.fuses.valid && b.fuses.due then b.modFuses (fun f => { f with verifying := true, due := false }) else b

/-- A word found marginal: its bit is set, and MARGINAL or, where it differs in unused bits alone, UNUSED_DIFF follows (R477). -/
def Bridge.fuseMarginal (w : Nat) (unused : Bool) (b : Bridge) : Bridge :=
  if b.fuses.marginal.getLsbD w || 128 ≤ w then b
  else (b.modFuses (fun f => { f with marginal := setBit f.marginal w true })).note 0x32 (if unused then 10 else 8) w

/-- FUSE_REVERIFY_END: differences are logged, never taken into the shadow, and newly marginal words are handled (R478). -/
def doFuseReverifyEnd (diffs marg : List (Nat × Bool)) (b : Bridge) : Bridge :=
  if !b.fuses.verifying then b
  else
    let b := b.modFuses (fun f => { f with
      verifying := false, verifies := cnt32 f.verifies 1, diffs := if diffs.isEmpty then f.diffs else cnt32 f.diffs 1
      last := match diffs.getLast? with
        | some d => some d
        | none => f.last })
    let b := b.each diffs (fun d b => b.note 0x32 (if d.2 then 10 else 9) d.1)
    let b := b.each marg (fun d b => b.fuseMarginal d.1 d.2)
    b.level 932 true

/-- Program bits of a fuse word: bits only change from 0 to 1, and the shadow follows the read that verifies them (R475, R480). -/
def Fuses.program (w : Nat) (bits : Nat) (f : Fuses) : Fuses :=
  let v : Word := (Tbl.get 0 w f.array) ||| BitVec.ofNat 32 bits
  { f with array := Tbl.put w v f.array, shadow := Tbl.put w ((Tbl.get 0 w f.shadow) ||| BitVec.ofNat 32 bits) f.shadow }

/-- The fuse array is read into the shadow at power-on reset: programmed spares supply their words (R477). -/
def Fuses.load (f : Fuses) : Fuses :=
  { f with shadow := f.array, valid := true, spare := Tbl.mapv (fun _ s => { s with active := s.used && decide (s.target < 128) }) f.spare }

/-- An image verifies (R469): the checks of the slot's contents, its key, and its rollback version. Answers RESULT. -/
def Bridge.imageResult (b : Bridge) (s : FwSlot) : Nat :=
  if !s.good then (if s.result = 0 then 1 else s.result)
  else if bitOf (b.fuse 24) s.keyIndex then 1
  else if s.rollback < b.rollback then 2
  else 0

/-- Slot `k` of the NOR. -/
def Bridge.fwSlot (b : Bridge) (k : Nat) : FwSlot := Tbl.get {} k b.boot.slots

/-- The slot that verifies (R470), and whether both were tried. -/
def Bridge.chooseImage (b : Bridge) : Option Nat × Bool :=
  let first := match b.boot.next with
    | some n => n
    | none => 1
  let ok := fun k => decide (b.imageResult (b.fwSlot k) = 0)
  if ok first then (some first, false)
  else if ok (3 - first) then (some (3 - first), true)
  else (none, true)

/-- The boot ROM chooses an image: GLB_BOOT names it, a slot that failed is logged, and where neither verifies the ROM's own
handler serves in base service (R22, R470). -/
def Bridge.bootImage (b : Bridge) : Bridge :=
  let (slot, both) := b.chooseImage
  let first := b.boot.next.getD 1
  let b := { b with boot := { b.boot with slot := slot.getD 0, rom := slot.isNone, qspiFree := false }
                    pwr := { b.pwr with bothSlots := both } }
  let b := if both && slot.isSome then b.logWrite 0x33 0 0 false 0 none first else b
  if slot.isNone then b.baseService 2 else b

/-- QSPI_PIN_RELEASE: 10 ms after the ROM handler starts, the quad-SPI pins go to high impedance (R473). -/
def doQspiPinRelease (b : Bridge) : Bridge :=
  if b.boot.rom && !b.boot.qspiFree then { b with boot := { b.boot with qspiFree := true } }.emit (.pin .qspiFree true) else b

/-- The kennel finds its entropy source healthy, or failing its health tests: then it is unavailable until power-on reset, with what the
loss of a running kennel has (R23, R457). -/
def Bridge.entropy (healthy : Bool) (b : Bridge) : Bridge := if healthy || b.knl.lost then b else b.loseUnit 0x31 0 0

/-- A new KEK is generated where none is held and the latch is clear (R456). -/
def Bridge.ensureKek (b : Bridge) : Bridge :=
  if b.knl.kekValid || b.knl.latch || b.knl.lost then b
  else b.modKnl (fun k => { k with kekValid := true, kekProv := false, kek := k.kek + 1 })

/-- The kennel seals an instance's key: the record that decides (R458). -/
def Kennel.sealKey (i keyGen : Nat) (k : Kennel) : Kennel :=
  { k with store := Tbl.put i { isKey := true, gen := (Tbl.get { isKey := false, gen := 0, keyGen := 0, kek := 0 } i k.store).gen + 1, keyGen := keyGen, kek := k.kek } k.store }

/-- A teardown's erased record (R458). -/
def Kennel.eraseKey (i : Nat) (k : Kennel) : Kennel :=
  match Tbl.find i k.store with
  | some r => { k with store := Tbl.put i { r with isKey := false, gen := r.gen + 1 } k.store }
  | none => k

/-- The kennel unseals an instance's record: the key's generation, or none (R459). -/
def Kennel.unseal (i : Nat) (k : Kennel) : Option Nat :=
  match Tbl.find i k.store with
  | some r => if r.isKey && k.kekValid && decide (r.kek = k.kek) then some r.keyGen else none
  | none => none

/-- Keys are unsealed and loaded for every instance outside NONE; one whose record fails has an invalid key, and an event is logged
in the kennel's block (R459). -/
def Bridge.unsealKeys (b : Bridge) : Bridge :=
  let b := b.each (Tbl.keys b.ten.inst) (fun i b =>
    if (b.inst i).state = .none then b
    else
      match b.knl.unseal i with
      | some g => b.modInst i (fun x => { x with gen := g, keyValid := true })
      | none => (b.modInst i (fun x => { x with keyValid := false })).logWrite 0x31 0 0 false 0 (some i) 0)
  b.level 931 true

end Sys2Proof.Machine
end

