-- ==== Sys2Proof/Machine/Records.lean ====
section
/-! DEFINITION. The byte forms of map state and of journal records: segment entries, descriptors, records, checkpoint headers, CRC-32C,
and the records of the NOR (R4, R71, R72, R434, R437, R438, R441, R458, R471). -/

namespace Sys2Proof.Machine

open Sys2Proof

/-- A word built of fields: position, width, value. -/
def packWord : List (Nat × Nat × Nat) → Nat
  | [] => 0
  | (lo, w, v) :: t => v % 2 ^ w * 2 ^ lo + packWord t

/-- One bit of a word. -/
def flagAt (k : Nat) (on : Bool) : Nat × Nat × Nat := (k, 1, b2n on)

/-- One bit of a CRC-32C step, reflected: the polynomial is Castagnoli's (R72, R437, log entry 110). -/
def crcBits : Nat → Nat → Nat
  | 0, c => c
  | k + 1, c => crcBits k (if c % 2 = 1 then c / 2 ^^^ 0x82F63B78 else c / 2)

/-- CRC-32C of bytes (R72, R437, R441, log entry 110). -/
def crc32c (bs : List Byte) : Nat := bs.foldl (fun c x => crcBits 8 (c ^^^ x.toNat)) 0xFFFFFFFF ^^^ 0xFFFFFFFF

-- The NOR's records -----------------------------------------------------------------------------------------------------------------

/-- The 128 bytes of a sealed record in the key store, sealed under the KEK that is held (R458). -/
def SealedKey.bytes (r : SealedKey) (i : Nat) (b : Bridge) : List Byte :=
  let key := natBytes 64 (b.keyBits r.keyGen).toNat
  let wrapped := if r.isKey then keyWrap (natBytes 32 b.knl.kekValue.toNat) key else List.replicate 72 0
  let w := leBytes 2 0x5E4C ++ leBytes 1 i ++ leBytes 1 (if r.isKey then 1 else 2) ++ leBytes 4 r.gen
    ++ wrapped.map (fun x => BitVec.ofNat 8 x) ++ leBytes 44 0
  w ++ leBytes 4 (crc32c w)

/-- The 64 bytes of a copy of the boot select record (R471). -/
def bootRecord (seq next : Nat) : List Byte :=
  let w := leBytes 4 0x4C535442 ++ leBytes 4 seq ++ leBytes 1 next ++ leBytes 51 0
  w ++ leBytes 4 (crc32c w)

-- Map state ------------------------------------------------------------------------------------------------------------------------

/-- The 8 bytes of a segment translation entry as a number (R71). -/
def SegEntry.word (e : SegEntry) : Nat :=
  packWord [(0, 17, e.dlaSeg), (17, 4, e.res.1), (21, 13, e.res.2), (34, 4, e.alt.1), (38, 13, e.alt.2), flagAt 51 e.mirrored,
    flagAt 52 e.valid, (53, 8, e.inst), flagAt 61 e.onAlt]

/-- Bytes 0 to 3 of a descriptor under a STATE (R72). -/
def Desc.head (d : Desc) (state : Nat) : List Byte :=
  leBytes 4 (packWord [flagAt 0 d.valid, flagAt 1 (decide (d.bitmap ≠ 0)), flagAt 2 d.mirror, (4, 4, state), (8, 8, d.inst),
    flagAt 16 d.pinNear, flagAt 17 d.keepFar, flagAt 18 d.noMigrate])

/-- A home as a descriptor holds it: channel and sled extent (R72). -/
def placeNat (p : Nat × Nat) : Nat := packWord [(0, 4, p.1), (4, 22, p.2)]

/-- The partner copy of a descriptor: 0 where it is not one of a mirrored pair (R72). -/
def Desc.partNat (d : Desc) : Nat := if d.mirror then placeNat d.part else 0

/-- STATE of a descriptor as HBM holds it (R72): a normal extent of which a granule is being copied to another home reads 1. -/
def Bridge.descState (b : Bridge) (d : Desc) : Nat :=
  if d.state = 0 ∧ b.herd.copies.any (fun e => decide (e.2.gran / 512 = d.ext) && (e.2.kind.moves || decide (e.2.kind = .homeMove))) then 1 else d.state

/-- The 32 bytes of the descriptor at a key, channel × 2^22 + index, which stand at index × 32 of the channel's slice (R72). -/
def Bridge.descBytes (b : Bridge) (key : Nat) (d : Desc) : List Byte :=
  let body := d.head (b.descState d) ++ leBytes 2 (b.nearCount (key / 2 ^ 22) d.ext) ++ leBytes 2 0 ++ leBytes 8 (placeNat d.home)
    ++ leBytes 8 d.partNat ++ leBytes 4 d.gen
  body ++ leBytes 4 (crc32c body)

/-- Byte offset of a descriptor in its slice (R72). -/
def descOffset (key : Nat) : Nat := key % 2 ^ 22 * 32

/-- The 64-byte granule-remap bitmap of an extent, bit 0 of byte 0 first (R75). -/
def Desc.remapBytes (d : Desc) : List Byte := lineBytes d.bitmap

-- Records --------------------------------------------------------------------------------------------------------------------------

/-- TYPE of a record (R438). -/
def RecKind.code : RecKind → Nat
  | .desc => 1
  | .exc => 2
  | .seg => 3
  | .inst => 4
  | .fence => 5
  | .setting => 6
  | .operation => 7
  | .sled => 8
  | .commit => 14
  | .endRec => 15
  | .ckptMark => 16

/-- The 32 bytes of a record (R437): bytes of the body that its TYPE does not list are reserved, 0. -/
def JRecord.bytes (r : JRecord) : List Byte :=
  let w := leBytes 8 r.seq ++ leBytes 1 r.kind.code ++ leBytes 1 (b2n r.superseded) ++ leBytes 2 0 ++ bytesAt 0 16 r.body
  w ++ leBytes 4 (crc32c w)

/-- A DESC record: none of NEAR_COUNT, GEN and CRC is journaled (R434, R438). -/
def descRec (key : Nat) (d : Option Desc) : RecKind × List Byte :=
  (.desc, leBytes 1 (key / 2 ^ 22) ++ leBytes 3 (key % 2 ^ 22) ++ (match d with
    | some d => d.head d.state ++ leBytes 4 (placeNat d.home) ++ leBytes 4 d.partNat
    | none => leBytes 12 0))

/-- An EXC record (R438). -/
def excRec (key : Nat) (e : Option ExcEntry) : RecKind × List Byte :=
  (.exc, leBytes 5 (key % 2 ^ 35) ++ (match e with
    | some e => leBytes 1 e.inst ++ leBytes 1 (e.home.1 % 16 + 128) ++ leBytes 1 0 ++ leBytes 4 e.home.2
    | none => leBytes 7 0) ++ leBytes 1 (key / 2 ^ 35) ++ leBytes 3 0)

/-- A SEG record (R438). -/
def segRec (key : Nat) (e : Option SegEntry) : RecKind × List Byte :=
  (.seg, leBytes 1 (key / 2 ^ 17) ++ leBytes 3 (key % 2 ^ 17) ++ leBytes 8 (e.elim 0 SegEntry.word) ++ leBytes 4 0)

/-- The states of an instance as registers and responses show them (R347). -/
def InstState.code : InstState → Nat
  | .none => 0
  | .creating => 1
  | .live => 2
  | .tearing => 3

/-- A policer's rates and bursts as a Leash profile shows them (R367). -/
def Policer.bytes (p : Policer) : List Byte := leBytes 4 p.cir ++ leBytes 4 p.cbs ++ leBytes 4 p.pir ++ leBytes 4 p.pbs

/-- A Leash profile's 36 bytes (R367). -/
def Grant.leashBytes (g : Grant) : List Byte :=
  leBytes 1 (packWord [flagAt 0 g.leashOn, flagAt 1 g.rfc4115, flagAt 2 g.rd.aware, flagAt 3 g.wr.aware]) ++ leBytes 1 g.rd.overhead
    ++ leBytes 1 g.wr.overhead ++ leBytes 1 0 ++ g.rd.bytes ++ g.wr.bytes

/-- The 64-byte image of an instance (R438): STATE, bytes 17 to 75 of its INST_CREATE parameters as now in force, 4 reserved bytes. -/
def Inst.image (x : Inst) : List Byte :=
  let g := x.grant
  leBytes 1 x.state.code ++ leBytes 1 (b2n x.imported) ++ leBytes 1 g.weight ++ leBytes 1 g.rings ++ leBytes 1 g.vectors ++ leBytes 1 g.pre
    ++ leBytes 2 g.chMask ++ leBytes 4 g.plain ++ leBytes 4 g.mirrored ++ leBytes 4 g.firstDpa ++ leBytes 4 g.quota ++ g.leashBytes ++ leBytes 4 0

/-- The INST records of an instance, one for each PART (R438). -/
def instRecs (i : Nat) (x : Inst) : List (RecKind × List Byte) :=
  (List.range 5).map (fun p => (.inst, leBytes 1 i ++ leBytes 1 p ++ bytesAt (14 * p) 14 x.image))

/-- A FENCE record: KIND as UNIT_FENCE has it, or 6 for a journal copy (R438). -/
def fenceRec (kind unit sub : Nat) (on : Bool) : RecKind × List Byte :=
  (.fence, leBytes 1 kind ++ leBytes 1 unit ++ leBytes 1 sub ++ leBytes 1 (b2n on) ++ leBytes 12 0)

/-- The SETTING records of a command's parameters, 12 bytes to a PART (R438). -/
def settingRecs (op : Nat) (ps : List Byte) : List (RecKind × List Byte) :=
  (List.range (ceilDiv ps.length 12)).map (fun p => (.setting, leBytes 2 op ++ leBytes 1 p ++ leBytes 1 0 ++ bytesAt (12 * p) 12 ps))

/-- An OPERATION record, of one that runs or has ended (R438). -/
def opRec (o : Operation) (running : Bool) : RecKind × List Byte :=
  (.operation, leBytes 2 o.op ++ leBytes 1 (o.obj % 65536) ++ leBytes 1 (if running then 1 else 2) ++ leBytes 4 o.tag ++ leBytes 4 o.progress
    ++ leBytes 1 o.fn ++ leBytes 3 0)

/-- A SLED record (R438). -/
def Bridge.sledRec (b : Bridge) (n : Nat) : RecKind × List Byte :=
  let s := (b.chan n).svc
  (.sled, leBytes 1 n ++ (if s.admitted then
      leBytes 1 (1 + 2 * b2n (b.chan n).ll.id.persist) ++ leBytes 2 0 ++ leBytes 8 s.serial ++ leBytes 2 s.capGib ++ leBytes 1 s.reservePct ++ leBytes 1 0
    else leBytes 15 0))

/-- A COMMIT record of a group of `k` records, itself included (R438). -/
def commitRec (stride k : Nat) : RecKind × List Byte := (.commit, leBytes 8 stride ++ leBytes 4 k ++ leBytes 4 0)

/-- An END record (R438). -/
def endRecord (stride : Nat) (clean persist : Bool) : RecKind × List Byte :=
  (.endRec, leBytes 8 stride ++ leBytes 1 (b2n clean + 2 * b2n persist) ++ leBytes 7 0)

/-- A CKPT_MARK record (R438). -/
def ckptMarkRec (seq slot : Nat) : RecKind × List Byte := (.ckptMark, leBytes 8 seq ++ leBytes 1 slot ++ leBytes 7 0)

-- What is journaled ----------------------------------------------------------------------------------------------------------------

/-- Two tables side by side, as far as `fuel` goes: the numbers whose values differ, with the value before and after. -/
def Tbl.changes {α : Type} [DecidableEq α] : Nat → Tbl α → Tbl α → List (Nat × Option α × Option α)
  | 0, _, _ => []
  | _, [], t => t.map (fun e => (e.1, none, some e.2))
  | _, s, [] => s.map (fun e => (e.1, some e.2, none))
  | fuel + 1, (i, x) :: s, (j, y) :: t =>
    if i < j then (i, some x, none) :: Tbl.changes fuel s ((j, y) :: t)
    else if j < i then (j, none, some y) :: Tbl.changes fuel ((i, x) :: s) t
    else if x = y then Tbl.changes fuel s t
    else (i, some x, some y) :: Tbl.changes fuel s t

/-- The changes between two tables. -/
def tblChanges {α : Type} [DecidableEq α] (s t : Tbl α) : List (Nat × Option α × Option α) := Tbl.changes (s.length + t.length) s t

/-- The records that say how map state has changed (R434, R438): descriptors, exception entries, segment entries, instances, sleds. -/
def Bridge.mapRecs (was b : Bridge) : List (RecKind × List Byte) :=
  let ok := fun (d : Option Desc) => d.filter (fun d => d.valid)
  ((tblChanges was.herd.desc b.herd.desc).filterMap (fun e =>
      let r := descRec e.1 (ok e.2.2)
      if descRec e.1 (ok e.2.1) = r then none else some r))
    ++ (tblChanges (was.herd.exc.filter (fun e => !e.2.pending)) (b.herd.exc.filter (fun e => !e.2.pending))).map (fun e => excRec e.1 e.2.2)
    ++ ((tblChanges was.ten.seg b.ten.seg).filterMap (fun e =>
      let r := segRec e.1 e.2.2
      if segRec e.1 e.2.1 = r then none else some r))
    ++ ((tblChanges was.ten.inst b.ten.inst).map (fun e =>
      let x := e.2.2.getD {}
      if (e.2.1.getD {}).image = x.image then [] else instRecs e.1 x)).flatten
    ++ ((channels.filter (fun n => decide (was.sledRec n ≠ b.sledRec n))).map b.sledRec)

/-- One record, or the parts needed, for every live object (R441). -/
def Bridge.liveRecs (b : Bridge) : List (RecKind × List Byte) :=
  let g := b.glb
  (b.herd.desc.filter (fun e => e.2.valid)).map (fun e => descRec e.1 (some e.2))
    ++ (b.herd.exc.filter (fun e => !e.2.pending)).map (fun e => excRec e.1 (some e.2))
    ++ b.ten.seg.map (fun e => segRec e.1 (some e.2))
    ++ ((b.ten.inst.filter (fun e => decide (e.2.state ≠ .none))).map (fun e => instRecs e.1 e.2)).flatten
    ++ (channels.filter b.chFenced).map (fun n => fenceRec 1 n 0 true)
    ++ (channels.map (fun n => (setBits (b.chan n).rtv.fenced 5).map (fun k => fenceRec 2 n k true))).flatten
    ++ g.pcFenced.map (fun p => fenceRec 3 (p / 64) (p % 64) true)
    ++ (setBits g.coreFenced 5).map (fun k => fenceRec 4 k 0 true)
    ++ (channels.map (fun n => (setBits (b.chan n).phy.txFenced 5).map (fun k => fenceRec 5 n k true)
      ++ (setBits (b.chan n).phy.rxFenced 5).map (fun k => fenceRec 5 n (8 + k) true))).flatten
    ++ (b.jrn.copy.filter (fun e => decide (e.2.state = 0))).map (fun e => fenceRec 6 e.1 0 true)
    ++ (b.jrn.settings.map (fun e => settingRecs e.1 e.2)).flatten
    ++ (b.citan.ops.filter (fun o => o.running)).map (fun o => opRec o true)
    ++ (channels.filter (fun n => (b.chan n).svc.admitted)).map b.sledRec

/-- The 64-byte header of a checkpoint slot (R441): its records carry SEQ = CKPT_SEQ − 1. -/
def ckptHeader (seq stride : Nat) (rs : List (RecKind × List Byte)) : List Byte :=
  let all := (rs.map (fun r => JRecord.bytes { seq := seq - 1, kind := r.1, body := r.2 })).flatten
  let w := leBytes 4 0x4B43504A ++ leBytes 4 0x100 ++ leBytes 8 seq ++ leBytes 8 stride ++ leBytes 8 rs.length ++ leBytes 4 (crc32c all) ++ leBytes 24 0
  w ++ leBytes 4 (crc32c w)

end Sys2Proof.Machine
end

