-- ==== Sys2Proof/Machine/Journal.lean ====
section
/-! DEFINITION. The journal: commit groups, checkpoints, the hold, and what a copy holds; and the power-loss sequence up to its
SAVEs (chapter 14). -/

namespace Sys2Proof.Machine

open Sys2Proof

/-- Change the journal engine. -/
def Bridge.modJrn (f : Journal → Journal) (b : Bridge) : Bridge := { b with jrn := f b.jrn }

/-- Lines of a journal region: 1 GiB (R435). -/
def jrnRegion : Nat := 2 ^ 24

/-- Records go to every available copy, two to a line, at consecutive sequence numbers (R437-R439). -/
def Journal.write (rs : List (RecKind × List Byte)) (j : Journal) : Journal :=
  { j with
    region := j.region ++ ((List.range rs.length).zip rs).map (fun r => { seq := j.seq + r.1, kind := r.2.1, body := r.2.2 })
    seq := j.seq + rs.length, records := j.records + rs.length, fill := Nat.min jrnRegion (j.fill + ceilDiv rs.length 2) }

/-- A commit group is written: its records and the COMMIT (R439). With no copy available nothing is written (R23, log entry 35). -/
def Bridge.logGroup (rs : List (RecKind × List Byte)) (b : Bridge) : Bridge :=
  if rs.isEmpty || !b.journalUp then b else b.modJrn (fun j => j.write (rs ++ [commitRec b.stride (rs.length + 1)]))

/-- Journal copy `k`. -/
def Journal.at (j : Journal) (k : Nat) : JournalCopy := Tbl.get {} k j.copy

/-- Change journal copy `k`. -/
def Journal.modCopy (k : Nat) (f : JournalCopy → JournalCopy) (j : Journal) : Journal := { j with copy := Tbl.put k (f (j.at k)) j.copy }

/-- Lines staged and not yet written (R440): the groups whose COMMIT is not written. -/
def Bridge.backlog (b : Bridge) : Nat :=
  (b.citan.prepared.map (fun p => if p.awaits && !p.committed then ceilDiv p.records 2 else 0)).foldl (· + ·) 0

/-- The limit of a copy's backlog in lines (R440). -/
def Bridge.backlogLimit (b : Bridge) : Nat := if b.persistMode then 16384 else 1835008

/-- New map changes are to be held (R442). -/
def Bridge.journalFull (b : Bridge) : Bool := decide (jrnRegion * 9 ≤ b.jrn.fill * 10) || decide (b.backlogLimit ≤ b.backlog)

/-- The hold at a tick, and the strides spent in it (R442). -/
def Bridge.journalTick (b : Bridge) : Bridge :=
  let h := b.journalFull
  b.modJrn (fun j => { j with hold := h, heldCount := if h then cnt32 j.heldCount 1 else j.heldCount })

/-- Mark the oldest group that waits for its COMMIT; answers it. -/
def commitFirst : List Prepared → List Prepared × Option Prepared
  | [] => ([], none)
  | p :: ps =>
    if p.awaits && !p.committed then ({ p with committed := true } :: ps, some p)
    else
      let (qs, k) := commitFirst ps
      (p :: qs, k)

/-- COMPACTION_START: the region is 75 % full, or 2^24 strides have passed since the last checkpoint began (R441). -/
def doCompactionStart (b : Bridge) : Bridge :=
  let due := decide (jrnRegion * 3 ≤ b.jrn.fill * 4) || decide (2 ^ 24 ≤ b.stride - b.jrn.ckptStride)
  if due && b.journalUp && !b.jrn.compacting && b.awake then
    b.modJrn (fun j => { j with compacting := true, ckptStride := b.stride, ckptStart := j.seq, ckptNext := b.liveRecs })
  else b

/-- The 5,120 extents at the top of a sled that a journal copy takes, or gives up (R435). -/
def Bridge.copyExts (n : Nat) (on : Bool) (b : Bridge) : Bridge :=
  let top := b.capExts n
  let old := b.herd.ext.filter (fun e => !(decide (e.1 / 2 ^ 22 = n) && decide (top - 5120 ≤ e.1 % 2 ^ 22)))
  let low := old.filter (fun e => decide (e.1 < n * 2 ^ 22 + (top - 5120)))
  let high := old.filter (fun e => decide (n * 2 ^ 22 + (top - 5120) ≤ e.1))
  let x : SledExt := { journal := true }
  let mid := if on then (List.range 5120).map (fun k => (n * 2 ^ 22 + (top - 5120) + k, x)) else []
  b.modHerd (fun h => { h with ext := low ++ mid ++ high })

/-- Copy `k` of the journal stands on a channel's sled (R435, R436, R492); service may be full again. -/
def Bridge.standCopy (k n : Nat) (b : Bridge) : Bridge :=
  let s := (b.chan n).svc.serial
  let id := (b.chan n).ll.id
  let b := b.modJrn (fun j => j.modCopy k (fun _ => { ch := n, serial := s, state := 1, volatile := !id.persist }))
  ({ b with boot := { b.boot with jloc := Tbl.put k (n, s) b.boot.jloc } } : Bridge).regain

/-- A building copy is complete, and available from then on (R436): its operation ends. A copy rebuilt before its sled leaves gives
up its old place (R515). -/
def Bridge.copyBuilt (b : Bridge) : Bridge :=
  b.each [0, 1] (fun k b =>
    let c := b.jrn.at k
    match c.next with
    | some n => ((b.copyExts c.ch false).standCopy k n).logGroup [fenceRec 6 k 0 false]
    | none =>
      if c.state ≠ 2 then b
      else
        let b := (b.standCopy k c.ch).logGroup [fenceRec 6 k 0 false]
        match b.opOn 0x0704 (65536 + c.ch) with
        | some o => b.endOp o 0 [0, 0]
        | none => b)

/-- CHECKPOINT_COMPLETE: header and CKPT_MARK are written; the space before CKPT_SEQ is free (R441). A checkpoint into a copy that
is being built completes that copy (R436). -/
def doCheckpointComplete (b : Bridge) : Bridge :=
  if b.jrn.step ≠ 0 then b
  else if b.jrn.compacting then
    b.modJrn (fun j =>
      let j := { j with
        compacting := false, ckptSeq := j.ckptStart, ckpts := cnt32 j.ckpts 1, ckpt := j.ckptNext, ckptNext := [], ckptTick := j.ckptStride
        copy := Tbl.mapv (fun _ c => if c.state = 1 then { c with slot := 1 - c.slot } else c) j.copy }
      let j := j.write [ckptMarkRec j.ckptSeq ((j.copy.find? (fun e => decide (e.2.state = 1))).elim 0 (fun e => e.2.slot))]
      { j with region := j.region.filter (fun r => decide (j.ckptSeq ≤ r.seq)), fill := ceilDiv (j.seq - j.ckptSeq) 2 })
  else b.copyBuilt

/-- The fixed part F of channel `n` in nanoseconds (R444); none for a fenced channel or one without link capacity. -/
def Bridge.plFixed (b : Bridge) (n : Nat) : Option Nat :=
  let c := (b.chan n).sch.c
  if b.chFenced n || c = 0 then none
  else
    let g := if (b.chan n).ll.state = .up then (b.chan n).ll.gstore.length else 0
    let j := if b.jrn.copy.any (fun e => decide (e.2.ch = n ∧ e.2.state = 1)) then 16384 else 0
    some (20000 + (ceilDiv (64 + g + 4096 + j) c + 3) * 1024)

/-- The channel with the largest fixed part, the lowest among equals, and that part. -/
def Bridge.plWorst (b : Bridge) : Nat × Nat :=
  channels.foldl (fun (x : Nat × Nat) n =>
    match b.plFixed n with
    | some f => if x.2 < f then (n, f) else x
    | none => x) (0, 0)

/-- PL_BUDGET at a tick: F and SHORT, with an informational event while F exceeds 0.2 × T_H (R444, R450). -/
def Bridge.plBudget (b : Bridge) : Bridge :=
  let (n, f) := b.plWorst
  let short := b.persistMode && decide (b.herd.holdup * 1000 < f * 5)
  let was := b.jrn.budget.2.2
  let b := b.modJrn (fun j => { j with budget := (ceilDiv f 1000, n, short) })
  b.when (short && !was) (·.info 0x28 (ceilDiv f 1000))

/-- A journal copy lies on a channel's sled: available, or being built (R435). -/
def Bridge.holdsCopy (b : Bridge) (n : Nat) : Bool := b.jrn.copy.any (fun e => decide (e.2.ch = n ∧ e.2.state ≠ 0) || decide (e.2.next = some n))

/-- A sled is eligible to hold a journal copy (R435, R514). -/
def Bridge.eligibleCopy (b : Bridge) (n : Nat) : Bool :=
  (b.chan n).svc.admitted && !b.chFenced n && !b.holdsCopy n && decide (5120 * 512 ≤ b.reserveLeft n)

/-- Copy `k` of the journal is to be built on a channel's sled (R436). -/
def Bridge.buildCopy (k n : Nat) (b : Bridge) : Bridge :=
  let id := (b.chan n).ll.id
  let s := (b.chan n).svc.serial
  (b.copyExts n true).modJrn (fun j => j.modCopy k (fun _ => { ch := n, serial := s, state := 2, volatile := !id.persist }))

/-- What the journal's copies hold (R434), the state as it stands. -/
def Bridge.imageOf (b : Bridge) : Image :=
  { desc := b.herd.desc, exc := b.herd.exc.filter (fun e => !e.2.pending), ext := b.herd.ext, seg := b.ten.seg
    inst := b.ten.inst, tune := b.herd.tune, shares := b.glb.shares, reservePct := b.herd.reservePct, persistReq := b.herd.persistReq
    vfLimitNext := b.ten.vfLimitNext, veto := b.glb.veto, warnC := b.pwr.warnC
    classes := (b.faults.block.map (fun k => k.2.src.filterMap (fun s =>
      match s.2.n, s.2.w with
      | some n, some w => some (k.1, s.1, n, w)
      | _, _ => none))).flatten
    links := channels.map (fun n => (n, ((b.chan n).phy.limit, (b.chan n).ll.vcSet, (b.chan n).ll.idleEn, (b.chan n).ll.graceUs)))
    sled := (channels.filter (fun n => (b.chan n).svc.admitted)).map (fun n => (n, ((b.chan n).svc.serial, (b.chan n).svc.capGib, (b.chan n).svc.reserve)))
    chFenced := b.glb.chFenced, cores := (b.glb.coreFenced, b.glb.coreActive, b.glb.coreSpare)
    hbm := ((b.glb.pcFenced, b.glb.pcSpared), b.glb.hbmSpare, b.herd.frames)
    lanes := channels.map (fun n => (n, ((b.chan n).rtv.active, (b.chan n).rtv.fenced, (b.chan n).phy.txFenced, (b.chan n).phy.rxFenced)))
    lost := channels.map (fun n => (n, (b.chan n).svc.lostLines))
    ops := b.citan.ops.filter (fun o => o.running), jrn := b.jrn }

-- The power-loss sequence ----------------------------------------------------------------------------------------------------

/-- Every copy is abandoned (R443): the source remains the home. A promotion's WRITTEN lines stay as dirty lines of its frame; the
WRITTEN lines of a sled-to-sled copy are copied back. -/
def Bridge.abandonCopies (b : Bridge) : Bridge :=
  b.each b.herd.copies (fun e b =>
    let (c, x) := e
    match x.kind with
    | .promotion => b.endCopy c 2
    | .homeMove => b.endCopy c 0
    | .writeBack => b
    | .mirror => b
    | _ =>
      let b := (b.modHerd (fun h => { h with aborts := cnt32 h.aborts 1 })).releaseDst x
      let b := b.each channels (fun n b => b.modSch n (fun s => { s with
        queue := s.queue.filter (fun u => match u.kind with
          | .copySrc d _ _ => decide (d ≠ c)
          | _ => true) }))
      if x.written = 0 then b.dropCopy c
      else
        (b.modCopy c (fun x => { x with
          kind := .mirror, src := x.dst, dst := x.src, srcCh := x.dstCh, dstCh := x.srcCh, want := x.written
          inFlight := 0, moved := 0, written := 0, dirtied := 0, landed := 0, buf := [], ready := false })).issueCopy c 0)

/-- Every host read still open completes with poison (R443 step 1), held ones too. -/
def Bridge.poisonReads (b : Bridge) : Bridge :=
  let b := b.each b.port.reads (fun e b => b.each (List.range e.2.lines.length) (fun i b => b.linePoison e.1 i))
  let b := b.each b.port.held (fun e b =>
    match e.2 with
    | .read fn tag _ len _ => b.emit (.cpl fn tag 0 (List.replicate len 0) true)
    | .flush fn tag _ => b.emit (.cpl fn tag 0 [0, 0, 0, 0] true)
    | .cxlRead tag _ _ => b.emit (.memData tag 0 true 0)
    | _ => b)
  b.modPort (fun p => { p with held := p.held.filter (fun e => match e.2 with
    | .read _ _ _ _ _ => false
    | .flush _ _ _ => false
    | .cxlRead _ _ _ => false
    | _ => true) })

/-- The power-loss sequence starts (R443): quiesce, and the drain's offers. A copy being built and a checkpoint being written are
abandoned (R448). -/
def Bridge.startPowerLoss (b : Bridge) : Bridge :=
  let b := b.modJrn (fun j => { j with
    step := 2, clean := false, doneCh := 0, saved := 0, saves := 0, ended := none, compacting := false
    copy := Tbl.mapv (fun _ c => if c.state = 2 then { c with state := 0, next := none } else { c with next := none }) j.copy })
  let b := ({ b with pwr := { b.pwr with state := 5 } }).poisonReads
  let b := b.haltScans.abandonCopies
  b.each channels (fun n b =>
    let b := b.modSch n (fun s => { s with
      uncapped := true, queue := s.queue.filter (fun u => b.powerOk u), head := s.head.filter (fun u => b.powerOk u)
      deferred := s.deferred.filter (fun u => b.powerOk u), carried := s.carried.filter (fun u => b.powerOk u) })
    b.offerAll n)

/-- Step 2 of channel `n` is done (R443): its entries have drained, its grace store where the link is UP, and the lines that are
copied back. What waits for a link that is down is not waited for. -/
def Bridge.plDrained (b : Bridge) (n : Nat) : Bool :=
  (b.chan n).acc.wcb.all (fun e => match b.place n e.inst e.ln with
    | .at (.sled c _) => !b.linkOpen c
    | .at (.near _) => false
    | _ => false)
    && (decide ((b.chan n).ll.state ≠ .up) || (b.chan n).ll.gstore.isEmpty)
    && b.herd.copies.all (fun e => decide (e.2.kind ≠ .mirror) || decide (e.2.dstCh ≠ n) || !b.linkOpen n)

/-- Dirty granules homed on channel `n` (R443 step 3). -/
def Bridge.plDirty (b : Bridge) (n : Nat) : Bool :=
  b.herd.dir.any (fun e => (decide (e.2.dirty ≠ 0) || decide (e.2.wbFlight ≠ 0)) && decide (b.homeCh e.2.resCh e.1 = n))

/-- The END record goes to every available copy and closes the journal (R438, R443, R445). -/
def Bridge.writeEnd (clean : Bool) (b : Bridge) : Bridge :=
  if b.jrn.ended.isSome then b
  else
    let p := b.persistMode
    b.modJrn (fun j => { (if b.journalUp then j.write [endRecord b.stride clean p] else j) with ended := some (clean, p), clean := clean })

/-- SAVE goes to a sled (R307, R443, R445): not where its link is not UP or its channel fenced, and outside persist mode only where it
reports PERSIST. -/
def Bridge.sendSave (n : Nat) (b : Bridge) : Bridge :=
  let l := (b.chan n).ll
  if (b.chan n).svc.admitted && decide (l.state = .up) && !b.chFenced n && (b.persistMode || l.id.persist) && !bitOf b.jrn.saves n && !l.saved then
    let t := l.nextTag
    ((b.modLl n (fun l => { l with nextTag := (t + 1) % 65536 })).modJrn (fun j => { j with saves := putBit j.saves n true })).sendHtl n
      (mgmtVc l.count) (.save (t % 256))
  else b

/-- Steps 2 to 4 go on as far as they can (R443, R445). -/
def Bridge.plSteps (b : Bridge) : Bridge :=
  let live := channels.filter (fun n => !b.chFenced n)
  let b := if b.jrn.step = 2 ∧ live.all b.plDrained = true then
      let b := b.modJrn (fun j => { j with step := 3 })
      if b.persistMode then b else b.writeEnd false
    else b
  if b.jrn.step = 3 ∧ live.all (fun n => bitOf b.jrn.doneCh n) = true then
    let clean := b.herd.dir.all (fun e => decide (e.2.dirty = 0) && decide (e.2.wbFlight = 0))
    let b := (b.modJrn (fun j => { j with step := 5 })).writeEnd (clean && b.persistMode)
    b.each (live.filter (fun n => b.holdsCopy n)) (fun n b => b.sendSave n)
  else b

/-- CHANNEL_WRITEBACK_DONE: a channel reports its drain and write-back done, and its SAVE goes out unless it holds a journal copy,
which waits for the END record (R443). -/
def doChannelWritebackDone (n : Nat) (b : Bridge) : Bridge :=
  let ok := (decide (b.jrn.step = 2) || decide (b.jrn.step = 3)) && !b.chFenced n && !bitOf b.jrn.doneCh n && b.plDrained n
    && (!b.plDirty n || !b.linkOpen n)
  if !ok then b
  else
    let b := b.modJrn (fun j => { j with doneCh := putBit j.doneCh n true })
    let b := if b.holdsCopy n && b.jrn.ended.isNone then b else b.sendSave n
    b.plSteps

/-- SAVE_RSP_RECEIVE: a sled has saved, or cannot; nothing further is sent to one that has (R307). -/
def doSaveRspReceive (n tag : Nat) (accepted : Bool) (b : Bridge) : Bridge :=
  if (b.chan n).ll.state ≠ .up then b
  else
    let (ok, b) := b.takeMgmt n
    if !ok then b.protoError n 0
    else if !bitOf b.jrn.saves n || decide ((tag + 1) % 256 ≠ (b.chan n).ll.nextTag % 256) then b
    else
      let b := b.modJrn (fun j => { j with saves := putBit j.saves n false, saved := if accepted then putBit j.saved n true else j.saved })
      let b := b.level (48 * n + 5) true
      if accepted then b.modLl n (fun l => { l with saved := true }) else b

/-- SAVEs whose sled can no longer answer are not waited for; step 5 ends with the last answer (R443). -/
def Bridge.saveStep (b : Bridge) : Bridge :=
  let lost := (setBits b.jrn.saves 16).filter (fun n => decide ((b.chan n).ll.state ≠ .up))
  b.modJrn (fun j => { j with saves := lost.foldl (fun m n => putBit m n false) j.saves })

end Sys2Proof.Machine
end

