-- ==== Sys2Proof/Machine/Sled.lean ====
section
/-! DEFINITION. The sled positions: insertion, admission, removal, surprise removal (chapter 17). -/

namespace Sys2Proof.Machine

open Sys2Proof

/-- PWREN is high in a state (R511). -/
def SvcState.powered : SvcState → Bool
  | .admitting => true
  | .admitted => true
  | .removeWait => true
  | .evacuating => true
  | _ => false

/-- The power LED in a state (R511): 0 off, 1 on, 2 blinking. -/
def SvcState.led : SvcState → Nat
  | .admitWait => 2
  | .admitting => 2
  | .admitted => 1
  | .removeWait => 2
  | .evacuating => 2
  | .poweringOff => 2
  | _ => 0

/-- The attention LED is lit by a state itself (R511). -/
def SvcState.attnOn : SvcState → Bool
  | .failed => true
  | .lost => true
  | _ => false

/-- The attention LED of a position is lit (R511, R517). -/
def Service.attnLit (s : Service) : Bool := s.state.attnOn || (decide (s.state = .admitted) && s.attn)

/-- A position's code (R511). -/
def SvcState.code : SvcState → Nat
  | .empty => 0
  | .present => 1
  | .admitWait => 2
  | .admitting => 3
  | .admitted => 4
  | .removeWait => 5
  | .evacuating => 6
  | .poweringOff => 7
  | .ready => 8
  | .failed => 9
  | .lost => 10

/-- The levels of a position's pins (R510, R511): PWREN is high for on, a lit or blinking LED's pin low. -/
def Service.pins (n : Nat) (s : Service) : List Emit :=
  [.pin (.pwren n) s.state.powered, .pin (.pwrLed n) (decide (s.state.led = 0)), .pin (.attnLed n) (!s.attnLit)]

/-- A position enters a state (R511): its pins follow, and PF0 vector index 3 is raised. -/
def Bridge.toSvc (n : Nat) (st : SvcState) (b : Bridge) : Bridge :=
  let old := (b.chan n).svc
  if old.state = st then b
  else
    let b := b.modSvc n (fun s => { s with state := st, phase := 0, attn := if st = .admitted then s.attn else false })
    let new := (b.chan n).svc
    (b.emits ((new.pins n).filter (fun e => !(old.pins n).contains e))).raise 0 3

/-- The lanes go to DISABLED without grace: nothing is left to hold (R515, R518). -/
def Bridge.linkOff (n : Nat) (b : Bridge) : Bridge :=
  let b := b.lanesOff n
  b.modLl n (fun l => { l with
    state := .down, holding := false, hold := false, gdrain := false, tags := [], txq := [], unacked := [], saved := false, refused := false })

/-- An operation on a channel ends, if one runs (R360). -/
def Bridge.endSvcOp (op n status : Nat) (data : List Byte) (b : Bridge) : Bridge :=
  match b.opOn op (65536 + n) with
  | some o => b.endOp o status data
  | none => b

/-- Some operation other than `op` holds the channel (R360, R363, R377). -/
def Bridge.chanBusy (n : Nat) (b : Bridge) : Bool :=
  b.citan.ops.any (fun o => o.running && decide (o.obj = 65536 + n))

/-- An admission ends (R513): the reason is recorded, and the operation ends with it. -/
def Bridge.failAdmit (n reason status : Nat) (st : SvcState) (b : Bridge) : Bridge :=
  let fail := if reason = 2 then (b.chan n).phy.fail else 0
  let b := (b.linkOff n).modSvc n (fun s => { s with reason := reason })
  (b.toSvc n st).endSvcOp 0x0704 n status [BitVec.ofNat 8 reason, BitVec.ofNat 8 fail]

/-- A removal ends before the sled is off (R515-R517): the reason is recorded, and the operation ends with it. -/
def Bridge.endRemoval (n reason status : Nat) (st : SvcState) (b : Bridge) : Bridge :=
  ((b.modSvc n (fun s => { s with reason := reason })).toSvc n st).endSvcOp 0x0702 n status [BitVec.ofNat 8 reason]

/-- Removal may begin: the Herder works, and no other operation or evacuation holds the channel (R23, R363). -/
def Bridge.mayRemove (n : Nat) (b : Bridge) : Bool := b.herderOn && !(b.chan n).herd.evac && !b.chanBusy n

/-- SLED_INSERTED (R510, R512). One inserted in LOST while an unfence runs waits until that ends (R522). -/
def doSledInserted (n : Nat) (b : Bridge) : Bridge :=
  if (b.chan n).svc.present then b
  else
    let b := (b.modSvc n (fun s => { s with present := true, inserts := cnt32 s.inserts 1 })).level (48 * n + 6) true
    match (b.chan n).svc.state with
    | .empty => b.toSvc n .present
    | .ready => b.toSvc n .present
    | .lost => if (b.opOn 0x0503 (65536 + n)).isSome then b else b.toSvc n .present
    | _ => b

/-- A surprise removal (R518): fenced as a fault with no drain, and LOST. A removal by command ends with FENCED and REASON 4 (R522). -/
def Bridge.surprise (n : Nat) (b : Bridge) : Bridge :=
  let b := b.modSvc n (fun s => { s with surprise := cnt32 s.surprise 1 })
  let b := b.fenceChannel n 26 0
  (b.endRemoval n 4 7 .lost).linkOff n

/-- SLED_DEPARTED (R510, R513, R518). -/
def doSledDeparted (n : Nat) (b : Bridge) : Bridge :=
  if !(b.chan n).svc.present then b
  else
    let b := (b.modSvc n (fun s => { s with present := false })).level (48 * n + 6) true
    let b := match (b.chan n).svc.state with
      | .present => b.toSvc n .empty
      | .admitWait => (b.modSvc n (fun s => { s with aborts := cnt32 s.aborts 1 })).toSvc n .empty
      | .admitting => b.failAdmit n 1 7 .empty
      | .admitted => b.surprise n
      | .removeWait => b.surprise n
      | .evacuating => b.surprise n
      | .poweringOff => b.surprise n
      | .ready => b.toSvc n .empty
      | .failed => b.toSvc n .empty
      | _ => b
    b.modLl n (fun l => { l with id := {} })

/-- ATTN_BUTTON_PRESS (R512, R513, R515, R516). In Doze a press is only latched (R510); without resident firmware it does no more
either. -/
def doAttnButtonPress (n : Nat) (b : Bridge) : Bridge :=
  let b := b.level (48 * n + 7) true
  if b.pwr.state = 3 || b.glb.level < 2 then b
  else
    match (b.chan n).svc.state with
    | .present => (b.toSvc n .admitWait).modSvc n (fun s => { s with before := .present })
    | .failed => (b.toSvc n .admitWait).modSvc n (fun s => { s with before := .failed })
    | .admitWait => (b.modSvc n (fun s => { s with aborts := cnt32 s.aborts 1, reason := 5 })).toSvc n .present
    | .admitted =>
      if b.mayRemove n then b.toSvc n .removeWait else b.modSvc n (fun s => { s with presses := cnt32 s.presses 1 })
    | .removeWait => (b.modSvc n (fun s => { s with aborts := cnt32 s.aborts 1 })).endRemoval n 1 0 .admitted
    | _ => b.modSvc n (fun s => { s with presses := cnt32 s.presses 1 })

/-- The removal's evacuation begins (R515 steps 1 and 2): refused for capacity, or EVACUATING with the sled's journal copy rebuilt
elsewhere first. -/
def Bridge.beginRemoval (n : Nat) (b : Bridge) : Bridge :=
  if b.evacRoom n < b.evacLeft n then
    let b := b.endRemoval n 3 4 .admitted
    let old := (b.chan n).svc
    let b := b.modSvc n (fun s => { s with attn := true })
    if old.attn then b else b.emit (.pin (.attnLed n) false)
  else
    let b := b.toSvc n .evacuating
    b.each [0, 1] (fun k b =>
      let c := b.jrn.at k
      if c.ch = n ∧ c.state ≠ 0 then
        match channels.find? (fun m => decide (m ≠ n) && b.eligibleCopy m) with
        | some m => (b.copyExts m true).modJrn (fun j => j.modCopy k (fun c => { c with next := some m }))
        | none => (b.copyExts n false).note 0x28 (8 + k) n
      else b)

/-- SERVICE_WINDOW_EXPIRY: the 5 s of an abort window have passed (R512, R515). -/
def doServiceWindowExpiry (n : Nat) (b : Bridge) : Bridge :=
  match (b.chan n).svc.state with
  | .admitWait => b.toSvc n .admitting
  | .removeWait => b.beginRemoval n
  | _ => b

/-- SLED_POWER_SETTLE: 100 ms after PWREN rose (R512). -/
def doSledPowerSettle (n : Nat) (b : Bridge) : Bridge :=
  if (b.chan n).svc.state = .admitting then doChannelEnable n b else b

/-- POWER_OFF_SETTLE: 500 ms after PWREN fell (R515). -/
def doPowerOffSettle (n : Nat) (b : Bridge) : Bridge :=
  if (b.chan n).svc.state = .poweringOff then
    (b.modSvc n (fun s => { s with removals := cnt32 s.removals 1 })).endRemoval n 0 0 .ready
  else b

/-- ATTN_LED_TIMEOUT: 10 s after a refused removal (R517). -/
def doAttnLedTimeout (n : Nat) (b : Bridge) : Bridge :=
  if (b.chan n).svc.attn then (b.modSvc n (fun s => { s with attn := false })).emit (.pin (.attnLed n) true) else b

/-- Extents that a lost sled's return or an unfence freezes (R399, R519): those homed on it and not mirrored, with those that had a
granule homed there, and those that the channel resolves and that lost a write. -/
def Bridge.freezeLost (n : Nat) (homes : Bool) (b : Bridge) : Bridge :=
  let lost := (b.chan n).svc.lostLines
  let b := b.modHerd (fun h => { h with desc := h.desc.map (fun e =>
    let key := e.1 / 2 ^ 22
    let moved := h.exc.any (fun x => decide (x.1 / 2 ^ 35 = key) && decide (x.1 % 2 ^ 35 / 512 = e.2.ext) && decide (x.2.home.1 = n))
    if (homes && !e.2.mirror && (decide (e.2.home.1 = n) || moved)) || lost.any (fun l => decide (l / 32768 = e.2.ext) && !e.2.mirror)
    then (e.1, { e.2 with state := 3, gen := (e.2.gen + 1) % 2 ^ 32 }) else e) })
  b.modSvc n (fun s => { s with lostLines := [] })

/-- A channel's fence lifts at a tick (R399, R512 step 4): its translation cache is empty, and its buffers are;
service may be full again. -/
def Bridge.liftFence (n : Nat) (homes : Bool) (b : Bridge) : Bridge :=
  if !b.chFenced n then b
  else
    let b := { b with glb := { b.glb with chFenced := putBit b.glb.chFenced n false } }
    ((b.modAcc n (fun a => { a with cached := [], wcb := [] })).freezeLost n homes).regain

/-- A journal copy that has no place yet, and that the sled of channel `n` can take (R435, R436): the one the board names it for first. -/
def Bridge.copyFor (b : Bridge) (n : Nat) : Option Nat :=
  let free := [0, 1].filter (fun k => (Tbl.find k b.boot.jloc).isNone && decide ((b.jrn.at k).state = 0))
  let named := free.find? (fun k => decide ((if k = 0 then b.boot.board.journal.1 else b.boot.board.journal.2) = some n))
  if b.eligibleCopy n then named.or free.head? else none

/-- A SLED record takes effect at its tick (R512 step 4, R514, R515 step 3); an admission may also build a journal copy, and then ends
with it (R436, R512, log entry 35). -/
def Bridge.sledInForce (n : Nat) (on : Bool) (serial cap pct : Nat) (b : Bridge) : Bridge :=
  if on then
    let lost := b.chFenced n
    let b := b.modSvc n (fun s => { s with admitted := true, serial := serial, capGib := cap, reserve := ceilDiv (cap * 512 * pct) 100, reservePct := pct })
    let b := if lost then b.liftFence n true else b
    let b := (b.modSvc n (fun s => { s with reason := 0 })).toSvc n .admitted
    match b.copyFor n with
    | some k => b.buildCopy k n
    | none => b.endSvcOp 0x0704 n 0 [0, 0]
  else
    (b.modHerd (fun h => { h with ext := h.ext.filter (fun e => decide (e.1 / 2 ^ 22 ≠ n)) })).modSvc n (fun s => { s with
      admitted := false, capGib := 0, reserve := 0, reservePct := 0, phase := 3 })

/-- A change on a channel waits for its tick. -/
def Bridge.pendingOn (b : Bridge) (p : Change → Bool) : Bool := b.citan.prepared.any (fun c => c.doneAt.isNone && p c.change)

/-- A sequence at a position goes on as far as it can (R512, R513, R515, R522). -/
def Bridge.svcStep (n : Nat) (b : Bridge) : Bridge :=
  let s := (b.chan n).svc
  match s.state with
  | .admitting =>
    if (b.chan n).phy.state = .down then b.failAdmit n (if (b.chan n).ll.refused then 3 else 2) (if (b.chan n).ll.refused then 2 else 7) .failed
    else if (b.chan n).ll.state = .up ∧ s.phase = 0 then
      if b.herd.persistReq && !(b.chan n).ll.id.persist then b.failAdmit n 4 4 .failed
      else
        let id := (b.chan n).ll.id
        (b.modSvc n (fun s => { s with phase := 1 })).prepare (.sledRecord n true id.serial id.capGib b.herd.reservePct id.persist) 2
    else b
  | .evacuating =>
    if b.chFenced n then
      if s.phase = 9 then b
      else
        let b := (b.modHc n (fun h => { h with evac := false, auto := false, stopping := false })).modSvc n (fun s => { s with phase := 9 })
        b.endSvcOp 0x0702 n 7 [4]
    else if s.phase = 9 then b.toSvc n .admitted
    else if s.phase = 0 then
      if b.holdsCopy n then b else (b.modSvc n (fun s => { s with phase := 1 })).prepare (.evacStart n false) 0
    else if s.phase = 1 then
      if !(b.chan n).herd.evac && !b.pendingOn (fun c => decide (c = .evacStart n false)) && decide (b.evacLeft n = 0) then
        (b.modSvc n (fun s => { s with phase := 2 })).prepare (.sledRecord n false 0 0 0 false) 2
      else b
    else if s.phase = 3 then
      if (b.unitsOn n).isEmpty && (b.chan n).ll.tags.isEmpty && (b.chan n).ll.txq.isEmpty && (b.chan n).ll.unacked.isEmpty then
        ((b.linkOff n).info n 0).toSvc n .poweringOff
      else b
    else b
  | _ => b

/-- A journal copy on a fenced channel becomes unavailable (R436): its source is severe. -/
def Bridge.copyCheck (b : Bridge) : Bridge :=
  b.each [0, 1] (fun k b =>
    let c := b.jrn.at k
    if c.state ≠ 0 ∧ b.chFenced c.ch then ((b.modJrn (fun j => j.modCopy k (fun c => { c with state := 0, next := none }))).logGroup [fenceRec 6 k 0 true]).note 0x28 (8 + k) c.ch
    else if c.next.any (fun n => b.chFenced n) then b.modJrn (fun j => j.modCopy k (fun c => { c with next := none }))
    else b)

/-- The sled positions go on (R511). -/
def Bridge.svcSteps (b : Bridge) : Bridge :=
  let b := b.copyCheck
  b.each (channels.filter (fun n => decide ((b.chan n).svc.state = .admitting) || decide ((b.chan n).svc.state = .evacuating))) (fun n b => b.svcStep n)

end Sys2Proof.Machine
end

