-- ==== Sys2Proof/Machine/Telemetry.lean ====
section
/-! DEFINITION. Sensors, thermal levels, rails (R501, R527-R529). -/

namespace Sys2Proof.Machine

open Sys2Proof

/-- Change telemetry. -/
def Bridge.modTlm (f : Telemetry → Telemetry) (b : Bridge) : Bridge := { b with tlm := f b.tlm }

/-- The warning level is entered or left (R501). -/
def Bridge.warnLevel (t : Int) (b : Bridge) : Bridge :=
  let w : Int := b.pwr.warnC * 16
  if !b.pwr.warn && decide (w ≤ t) then
    let b : Bridge := { b with pwr := { b.pwr with warn := true } }
    ((b.note 0x34 8 (t % 65536).toNat).level 970 true).raise 0 4
  else if b.pwr.warn && decide (t < w - 32) then
    let b : Bridge := { b with pwr := { b.pwr with warn := false } }
    b.level 970 false
  else b

/-- The critical level is entered, with its thermal hold, or the hold is left (R501). -/
def Bridge.critLevel (t : Int) (b : Bridge) : Bridge :=
  if !b.pwr.crit && decide (2000 ≤ t) then
    let b : Bridge := { b with pwr := { b.pwr with crit := true, thermHold := true } }
    b.note 0x34 9 (t % 65536).toNat
  else if (b.pwr.crit || b.pwr.thermHold) && decide (t < 1920) then { b with pwr := { b.pwr with crit := false, thermHold := false } }
  else b

/-- SENSOR_SAMPLE: every 64 strides the fifteen sensors are read; one that gives no reading has failed (R501, R527, R529, R536). -/
def doSensorSample (temps : List (Option Int)) (b : Bridge) : Bridge :=
  if b.tlm.fenced then b
  else
    let b := b.each (List.range 15) (fun i b =>
      match (temps[i]?).getD none with
      | some v => b.modTlm (fun t => { t with sensor := Tbl.put i (v, true) t.sensor })
      | none =>
        let (v, ok) := Tbl.get ((0 : Int), false) i b.tlm.sensor
        let first := (Tbl.find i b.tlm.sensor).isNone
        let b := b.modTlm (fun t => { t with sensor := Tbl.put i (v, false) t.sensor })
        b.when (ok || first) (·.note 0x35 8 i))
    let b := b.modTlm (fun t =>
      let all := (List.range 15).all (fun i => ((temps[i]?).getD none).isSome)
      { t with sensed := t.sensed || all, valid := (t.sensed || all) && t.railed })
    match b.tjMax with
    | some (t, _) => (b.warnLevel t).critLevel t
    | none => b

/-- RAIL_SAMPLE: every 1,024 strides each rail's power is measured, and the total goes into the energy (R528, R529). -/
def doRailSample (mw : List Nat) (b : Bridge) : Bridge :=
  b.countTlm (fun t => { t with
    rail := (List.range 7).map (fun r => (r, ((mw[r]?).getD 0) % 2 ^ 20)), energy := t.energy + (mw.take 7).foldl (· + ·) 0 * 1048576
    railed := true, valid := t.sensed })

end Sys2Proof.Machine
end

