-- ==== Sys2Proof/Machine/Changes.lean ====
section
/-! DEFINITION. What each change that waits for a tick does at its tick (R31, R78, R338, R339). -/

namespace Sys2Proof.Machine

open Sys2Proof

/-- Translation-cache entries of a segment go (R78). -/
def Bridge.dropCached (e : SegEntry) (b : Bridge) : Bridge :=
  let drop := fun (ch slot : Nat) (b : Bridge) => b.modAcc ch (fun a => { a with cached := a.cached.filter (fun x => decide (x.1 / 512 ≠ slot)) })
  if e.mirrored then drop e.alt.1 e.alt.2 (drop e.res.1 e.res.2 b) else drop e.res.1 e.res.2 b

/-- The copy of every mirrored segment that a channel resolves or holds is lost (R97, R126, R303): segments whose RES_CH it is change
to ON_ALT, and their owners are told. -/
def Bridge.mirrorLost (n : Nat) (b : Bridge) : Bridge :=
  let hit := b.ten.seg.filter (fun e => e.2.valid && e.2.mirrored && !e.2.onAlt && decide (e.2.res.1 = n))
  let lose := fun (_ : Nat) (e : SegEntry) =>
    if e.valid && e.mirrored && decide (e.res.1 = n) then { e with onAlt := true, degraded := true }
    else if e.valid && e.mirrored && decide (e.alt.1 = n) then { e with degraded := true }
    else e
  let b := b.modTen (fun t => { t with seg := Tbl.mapv lose t.seg })
  let b := b.each hit (fun e b => b.dropCached e.2)
  let owners := (hit.map (fun e => e.2.inst)).eraseDups
  b.each owners (fun i b =>
    b.notify i 3 0 ([BitVec.ofNat 8 n, 0, 0, 0] ++ leBytes 4 (hit.filter (fun e => decide (e.2.inst = i))).length))

/-- An evacuation starts (R124, R126): descriptors homed on the sled read STATE 2, and mirrored segments resolve elsewhere. -/
def Bridge.evacBegins (n : Nat) (auto : Bool) (b : Bridge) : Bridge :=
  let b := b.modHc n (fun h => { h with evac := true, auto := auto, stopping := false, took := [] })
  let mark := fun (_ : Nat) (d : Desc) =>
    if d.valid && !d.mirror && decide (d.home.1 = n) && decide (d.state = 0) then { d with state := 2, gen := (d.gen + 1) % 2 ^ 32 } else d
  let b := b.modHerd (fun h => { h with desc := Tbl.mapv mark h.desc })
  b.mirrorLost n

/-- EVAC_STOP (R370): extents not begun return to STATE 0. -/
def Bridge.evacStops (n : Nat) (b : Bridge) : Bridge := (b.modHc n (fun h => { h with stopping := true })).normalExts n

/-- A stopped evacuation is over once the extents in progress have folded (R370). -/
def Bridge.evacStopped (n : Nat) (b : Bridge) : Bridge :=
  if (b.chan n).herd.stopping && (b.evacExts n).all (fun e => e.2.evac.isNone) then
    let b := b.modHc n (fun h => { h with evac := false, auto := false, stopping := false, took := [] })
    match b.opOn 0x0307 (65536 + n) with
    | some o => b.endOp o 0 (leBytes 4 o.count ++ [1])
    | none => b
  else b

/-- The descriptors of a range of an instance's extents: both copies of a mirrored one (R130). -/
def Bridge.descsOf (i first count : Nat) (b : Bridge) : List (Nat × Desc) :=
  b.herd.desc.filter (fun e => e.2.valid && decide (e.2.inst = i) &&
    (b.ten.seg.any (fun s => decide (s.1 / 131072 = i) && decide (s.2.dlaSeg = e.2.ext / 512)
      && decide (first ≤ s.1 % 131072 * 512 + e.2.ext % 512) && decide (s.1 % 131072 * 512 + e.2.ext % 512 < first + count))))

/-- Hints take their SET value where CHANGE names them (R130, R369). -/
def Desc.hint (set change : Nat) (d : Desc) : Desc :=
  { d with
    pinNear := if bitOf change 0 then bitOf set 0 else d.pinNear, keepFar := if bitOf change 1 then bitOf set 1 else d.keepFar
    noMigrate := if bitOf change 2 then bitOf set 2 else d.noMigrate }

/-- A unit's fence lifts (R18, R373, R398): a channel's at its tick (R399); another unit whose source is still severe takes a spare
where one is free. -/
def Bridge.unfenced (kind unit sub : Nat) (b : Bridge) : Bridge :=
  let obj := kind * 65536 + (if kind = 1 then unit else unit * 256 + sub)
  let done := fun (ok : Bool) (b : Bridge) =>
    match b.opOn 0x0503 obj with
    | some o => (b.endOp o (if ok then 0 else 7) []).regain
    | none => b.regain
  match kind with
  | 1 =>
    let s := (b.chan unit).svc
    let gone := !s.present && (decide (s.state = .lost) || decide (s.state = .empty))
    let b := b.liftFence unit (gone || decide (s.state = .lost))
    let b := if s.state = .lost then b.toSvc unit (if s.present then .present else .empty) else b
    let b := if gone then b.modSvc unit (fun s => { s with admitted := false, capGib := 0, reserve := 0 }) else b
    done true b
  | 2 =>
    let r := (b.chan unit).rtv
    if (b.faults.source unit (5 + sub)).severe then
      let spare := decide (sub ≠ 4) && !bitOf r.active 4 && !bitOf r.fenced 4 && !bitOf r.test 4 && !bitOf b.glb.veto 1
      done spare (b.when spare (fun b => (b.modRtv unit (fun r => { r with active := putBit r.active 4 true })).spareLog unit (5 + sub) sub))
    else
      let room := decide (popCount r.active 5 < 4)
      done true ((b.modRtv unit (fun r => { r with
        fenced := putBit r.fenced sub false, active := putBit r.active sub (room || bitOf r.active sub) })).level (48 * unit + 9) true)
  | 3 =>
    let id := unit * 64 + sub
    let gone : List Nat → List Nat := fun l => l.filter (fun x => decide (x ≠ id))
    let severe := b.glb.pcFailed.contains id && [9, 10].any (fun s => (b.faults.source (0x25 + unit) s).severe)
    if b.glb.pcSpared.contains id then
      done (!severe) (b.when (!severe) (·.modGlb (fun g => { g with pcSpared := gone g.pcSpared, pcFailed := gone g.pcFailed })))
    else
      let back := fun (b : Bridge) => (b.modGlb (fun g => { g with pcFenced := gone g.pcFenced })).modHerd (fun h => { h with
        frames := if unit = 0 then (h.frames.1 + pcFrames, h.frames.2) else (h.frames.1, h.frames.2 + pcFrames) })
      if severe then
        if b.pcSpareFree unit then
          done true (((back b).pcSpareIn unit).modGlb (fun g => { g with pcSpared := g.pcSpared ++ [id] }) |>.spareLog (0x25 + unit) 10 sub)
        else done false b
      else done true ((back b).modGlb (fun g => { g with pcFailed := gone g.pcFailed }))
  | 4 =>
    if [2, 3, 8].any (fun s => (b.faults.source (0x2A + unit) s).severe) then
      let spare := decide (unit ≠ 4) && !b.glb.coreSpare && !bitOf b.glb.coreFenced 4 && !bitOf b.glb.veto 2
      done spare (b.when spare (fun b => b.coreSpareIn.spareLog (0x2A + unit) 8 unit))
    else
      let room := decide (popCount b.glb.coreActive 5 < 4)
      done true { b with glb := { b.glb with coreFenced := putBit b.glb.coreFenced unit false, coreActive := putBit b.glb.coreActive unit room } }
  | _ => b

/-- The maps of a lost stack stand in the other one (R23): 4 GiB of it holds them, and the channels' fences lift, but for those with a
severe source of their own. -/
def Bridge.stackBack (s : Nat) (b : Bridge) : Bridge :=
  let b := b.modHerd (fun h => { h with frames := if s = 0 then (0, Nat.min h.frames.2 10485760) else (Nat.min h.frames.1 10485760, 0) })
  b.each (channels.filter (fun n => decide (stackOf n = s))) (fun n b =>
    let own := [2, 3, 26].any (fun k => (b.faults.source n k).severe) || [2, 3, 8].any (fun k => (b.faults.source (16 + n) k).severe)
    if own then b else b.liftFence n false)

/-- A segment's mirror is whole again (R520): ON_ALT clears; the operation ends with the channel's last one. -/
def Bridge.mirrorBack (n i idx : Nat) (b : Bridge) : Bridge :=
  let key := i * 131072 + idx
  let b := b.modSeg key (fun e => { e with onAlt := false, degraded := false })
  let b := match Tbl.find key b.ten.seg with
    | some e => b.dropCached e
    | none => b
  let left := (b.ten.seg.filter (fun e => e.2.valid && e.2.mirrored && e.2.degraded && decide (e.2.res.1 = n))).length
  match b.opOn 0x0708 (65536 + n) with
  | some o => if left = 0 then b.endOp o 0 [] else b
  | none => b

/-- A change takes effect at its tick. -/
def Bridge.applyChange (c : Change) (b : Bridge) : Bridge :=
  match c with
  | .instCreate i => if (b.inst i).state = .creating then (b.switchCreate i).level 931 true else b
  | .instTeardown i => if (b.inst i).state = .tearing then b.switchTeardown i else b
  | .keyChange i gen imported =>
    let s := b.stride
    (b.modInst i (fun x => if x.state = .live then { x with gen := gen, keyValid := true, imported := imported, switched := s } else x)).level
      931 true
  | .precolour i first count colour =>
    let s := b.stride
    let paint := fun (k : Nat) (e : SegEntry) =>
      if k / 131072 = i ∧ first ≤ k % 131072 ∧ k % 131072 < first + count then { e with pre := colour } else e
    let b := b.modTen (fun t => { t with seg := Tbl.mapv paint t.seg })
    b.modInst i (fun x => { x with switched := s })
  | .semAccess sem set => b.modSem sem (fun s => { s with access := set ||| 1 })
  | .semRelease mask => b.each (setBits mask 64) (fun s b => b.breakSem s)
  | .hints i first count set change => b.each (b.descsOf i first count) (fun e b => b.modDesc e.1 (Desc.hint set change))
  | .tune t => b.modHerd (fun h => { h with tune := t })
  | .shares x y z => { b with glb := { b.glb with shares := (x, y, z) } }
  | .reserve pct => b.modHerd (fun h => { h with reservePct := pct })
  | .persist on => b.modHerd (fun h => { h with persistReq := on })
  | .veto mask => { b with glb := { b.glb with veto := mask } }
  | .classify k s n w => b.modFs k s (fun x => { x with n := some n, w := some w })
  | .whistle srcs => { b with icu := { b.icu with watched := srcs } }
  | .power n =>
    let b : Bridge := { b with pwr := { b.pwr with prev := n, state := if b.pwr.state ≤ 1 then n else b.pwr.state } }
    b.when (decide (n = 0)) (fun b => b.each channels (fun c b => b.modSch c (fun s => { s with gated := false })))
  | .thermal w => { b with pwr := { b.pwr with warnC := w } }
  | .linkIdle mask en => b.each (setBits mask 16) (fun n b => b.modLl n (fun l => { l with idleEn := decide (en = 1) }))
  | .evacStart n auto => if b.chFenced n || (b.chan n).herd.evac then b else b.evacBegins n auto
  | .evacStop n => b.evacStops n
  | .onAlt n => b.mirrorLost n
  | .copySwitch c => b.switchCopy c
  | .copyEnd c cause => b.endCopy c cause
  | .fold d => b.foldExtent d
  | .sledRecord n on serial cap pct _ =>
    if on && decide ((b.chan n).svc.state ≠ .admitting) then b else b.sledInForce n on serial cap pct
  | .unfence kind unit sub => b.unfenced kind unit sub
  | .fenceRecord _ _ _ => b
  | .inst0 g => b.modInst 0 (fun x => { x with pendingGrant := some g })
  | .vfLimit l => b.modTen (fun t => { t with vfLimitNext := l })
  | .hdmCommit dec h => b.hdmCommitted dec h
  | .segRestored n i idx => b.mirrorBack n i idx
  | .rebuilt key =>
    b.modDesc key (fun d => if d.state = 3 then { d with state := if (b.chan d.home.1).herd.evac then 2 else 0 } else d)
  | .stackRebuilt s => b.stackBack s

/-- The records of a change's commit group (R438, R439): its fence, or what it changes in map state. -/
def Bridge.recordsOf (c : Change) (b : Bridge) : List (RecKind × List Byte) :=
  match c with
  | .fenceRecord k u s => [fenceRec k u s true]
  | .unfence k u s => fenceRec k u s false :: b.mapRecs (b.applyChange c)
  | _ => b.mapRecs (b.applyChange c)

/-- COMMIT_GROUP_WRITTEN: the oldest group's COMMIT record is written on every available copy (R439); with no copy available, as at
the first start-up, nothing is left to wait for (log entry 35). None is written once an END record closes the journal (R448). -/
def doCommitGroupWritten (b : Bridge) : Bridge :=
  if b.jrn.ended.isSome then b
  else
    let (ps, p) := commitFirst b.citan.prepared
    let rs := p.elim [] (fun p => b.recordsOf p.change)
    ({ b with citan := { b.citan with prepared := ps } } : Bridge).logGroup rs

/-- A prepared change may take effect (R439): not journaled, or its COMMIT is written. -/
def Prepared.isReady (p : Prepared) : Bool := p.doneAt.isNone && (!p.awaits || p.committed)

/-- The result bytes that a change's own state gives at its tick: the semaphores that were held (R366). -/
def Bridge.tickResults (p : Prepared) (b : Bridge) : List Byte :=
  match p.change with
  | .semRelease mask => leBytes 8 (packBits (fun s => bitOf mask s && (b.semOf s).holder.isSome) 64)
  | _ => p.results

/-- The changes that are ready take effect at a tick, in order (R31, R78), one that waits for no COMMIT with its records (R434); those with
a command to answer stay for the glide's end (R339). -/
def Bridge.applyPrepared (b : Bridge) : Bridge :=
  let ps := b.citan.prepared
  let b := { b with citan := { b.citan with prepared := [] } }
  let b := b.each ps (fun p b =>
    let keep := fun (p : Prepared) (b : Bridge) => { b with citan := { b.citan with prepared := b.citan.prepared ++ [p] } }
    if !p.isReady then keep p b
    else
      let r := b.tickResults p
      let was := b
      let b := b.applyChange p.change
      let b := if p.awaits then b else b.logGroup (was.mapRecs b)
      if p.cmd.isSome then keep { p with doneAt := some b.stride, results := r } b else b)
  b

/-- TEARDOWN_DRAINED: steps 5 and 6 (R340). The key store is left an erased record (R458). -/
def doTeardownDrained (i : Nat) (b : Bridge) : Bridge :=
  let x := b.inst i
  match x.state, x.tornAt with
  | .tearing, some s =>
    if b.glb.time < s * strideLen + 128 || !b.drained i then b
    else
      let was := b
      let b := (b.releaseMaps i).modInst i Inst.gone
      let b := { b with knl := b.knl.eraseKey i }
      let b := b.logGroup (was.mapRecs b)
      let b := b.each channels (fun n b => b.modAcc n (fun a => { a with cached := a.cached.filter (fun e => decide (e.2.1 ≠ i)) }))
      match x.tearCmd with
      | some (fn, slot, order) => b.respond { fn := fn, slot := slot, order := order, op := 0x0202, tag := (Tbl.get 0 1 ((b.mbx fn).slot slot).cmd).toNat } 0 0 s []
      | none => b
  | _, _ => b

end Sys2Proof.Machine
end

