-- ==== Sys2Proof/Machine/Counters.lean ====
section
/-! DEFINITION. The counter-clear registers, block by block (R65, R105, R143, R185, R247, R274, R314, R349, R411, R422, R433, R451,
R509, R525, R537). -/

namespace Sys2Proof.Machine

open Sys2Proof

/-- A counter after a clear: where its bit is set, what it has gained since `was`, which it stood at when the present FCLK began (R65). -/
def clr (mask k was v : Nat) : Nat := if bitOf mask k then v - was else v

/-- CHn_SCH_CTR_CLR (R64, R65). -/
def Sched.clear (m : Nat) (was s : Sched) : Sched :=
  { s with
    lines := Tbl.mapv (fun k v => clr m (k - 1) (Tbl.get 0 k was.lines) v) s.lines
    defers := clr m 6 was.defers s.defers, ovhs := clr m 7 was.ovhs s.ovhs, reds := clr m 8 was.reds s.reds, aged := clr m 9 was.aged s.aged
    withdraws := clr m 10 was.withdraws s.withdraws, overruns := clr m 11 was.overruns s.overruns, flips := clr m 12 was.flips s.flips }

/-- CHn_XLT_CTR_CLR but for CLR_LAST and CLR_HIGH (R104, R105). -/
def Access.clear (m : Nat) (was a : Access) : Access :=
  { a with
    hit := clr m 0 was.hit a.hit, miss := clr m 1 was.miss a.miss, excLookup := clr m 2 was.excLookup a.excLookup, dirMiss := clr m 3 was.dirMiss a.dirMiss
    unbacked := clr m 4 was.unbacked a.unbacked, tagMismatch := clr m 5 was.tagMismatch a.tagMismatch, crcErr := clr m 6 was.crcErr a.crcErr
    writes := clr m 7 was.writes a.writes, coalesce := clr m 8 was.coalesce a.coalesce, rdmerge := clr m 9 was.rdmerge a.rdmerge, full := clr m 10 was.full a.full
    corr := clr m 11 was.corr a.corr, uncorr := clr m 12 was.uncorr a.uncorr, poisonRd := clr m 13 was.poisonRd a.poisonRd, mirrorFix := clr m 14 was.mirrorFix a.mirrorFix
    poisonWr := clr m 15 was.poisonWr a.poisonWr }

/-- CLR_LAST: the record of the last uncorrectable line is no longer valid (R104). -/
def Access.clearLast (a : Access) : Access := { a with lastValid := false }

/-- CLR_HIGH: HIGH_WATER takes the current occupancy (R104). -/
def Access.clearHigh (a : Access) : Access := { a with high := a.occupied }

/-- HRD_CTR_CLR (R140, R143). -/
def Herder.clear (m : Nat) (was h : Herder) : Herder :=
  { h with
    promotes := clr m 0 was.promotes h.promotes, demotes := clr m 1 was.demotes h.demotes, relocates := clr m 2 was.relocates h.relocates, evacGran := clr m 3 was.evacGran h.evacGran
    pieces := clr m 4 was.pieces h.pieces, nearPieces := clr m 5 was.nearPieces h.nearPieces, retires := clr m 6 was.retires h.retires, aborts := clr m 7 was.aborts h.aborts
    excFull := clr m 8 was.excFull h.excFull, heatEvict := clr m 9 was.heatEvict h.heatEvict, quotaBlock := clr m 10 was.quotaBlock h.quotaBlock
    drainHeld := clr m 11 was.drainHeld h.drainHeld }

/-- NTR_CTR_CLR (R142, R143). -/
def Herder.clearNear (m : Nat) (was h : Herder) : Herder :=
  { h with
    wbLines := clr m 0 was.wbLines h.wbLines, wtDrain := clr m 1 was.wtDrain h.wtDrain, ceilStrides := clr m 2 was.ceilStrides h.ceilStrides
    overStrides := clr m 3 was.overStrides h.overStrides }

/-- HRD_JRN_CTR_CLR (R450, R451). -/
def Journal.clear (m : Nat) (was j : Journal) : Journal :=
  { j with
    records := clr m 0 was.records j.records, ckpts := clr m 1 was.ckpts j.ckpts, heldCount := clr m 2 was.heldCount j.heldCount, copyDiff := clr m 3 was.copyDiff j.copyDiff
    refused := clr m 4 was.refused j.refused }

/-- RTV_DISP_CTR_CLR (R182, R185). -/
def Scans.clear (m : Nat) (was s : Scans) : Scans :=
  { s with
    accepted := clr m 0 was.accepted s.accepted, descErr := clr m 1 was.descErr s.descErr, fenceWait := clr m 2 was.fenceWait s.fenceWait, throttle := clr m 3 was.throttle s.throttle
    cancelOk := clr m 4 was.cancelOk s.cancelOk, cancelLate := clr m 5 was.cancelLate s.cancelLate, ringHold := clr m 6 was.ringHold s.ringHold }

/-- CHn_RTV_CTR_CLR (R183, R185). -/
def Rtv.clear (m : Nat) (was r : Rtv) : Rtv :=
  { r with
    lines := clr m 0 was.lines r.lines, rows := clr m 1 was.rows r.rows, qual := clr m 2 was.qual r.qual, outBytes := clr m 3 was.outBytes r.outBytes
    pieces := clr m 4 was.pieces r.pieces, restart := clr m 5 was.restart r.restart, poisonRows := clr m 6 was.poisonRows r.poisonRows, parks := clr m 7 was.parks r.parks
    pageErr := clr m 8 was.pageErr r.pageErr }

/-- PCX_CTR_CLR (R246, R247). -/
def HostPort.clear (m : Nat) (was p : HostPort) : HostPort :=
  { p with
    rxWr := clr m 0 was.rxWr p.rxWr, rxRd := clr m 1 was.rxRd p.rxRd, txWr := clr m 2 was.txWr p.txWr, txRd := clr m 3 was.txRd p.txRd, ur := clr m 4 was.ur p.ur
    poisonTx := clr m 5 was.poisonTx p.poisonTx, poisonRx := clr m 6 was.poisonRx p.poisonRx, cplTimeout := clr m 7 was.cplTimeout p.cplTimeout, unexp := clr m 8 was.unexp p.unexp
    sizeErr := clr m 9 was.sizeErr p.sizeErr, msiSent := clr m 10 was.msiSent p.msiSent, intxMsg := clr m 11 was.intxMsg p.intxMsg, linkDown := clr m 12 was.linkDown p.linkDown
    malformed := clr m 13 was.malformed p.malformed }

/-- CHn_HTL_CTR_CLR (R273, R274): the channel's counters, and those of the lanes selected. -/
def Phy.clear (m : Nat) (was p : Phy) : Phy :=
  let lane := fun (k : Nat) (l : Lane) =>
    let w : Lane := Tbl.get {} k was.lane
    if bitOf m (4 + k) then { l with
      err := clr m 9 w.err l.err, losCnt := clr m 10 w.losCnt l.losCnt, lolCnt := clr m 11 w.lolCnt l.lolCnt
      prbsErr := clr m 12 w.prbsErr l.prbsErr, prbsBits := clr m 13 w.prbsBits l.prbsBits } else l
  { p with
    trains := clr m 0 was.trains p.trains, fastRt := clr m 1 was.fastRt p.fastRt, trainFail := clr m 2 was.trainFail p.trainFail, eidleExit := clr m 3 was.eidleExit p.eidleExit
    lane := Tbl.mapv lane p.lane }

/-- CHn_HTL_LL_CTR_CLR (R313, R314). -/
def Link.clear (m : Nat) (was l : Link) : Link :=
  { l with
    badFlit := clr m 0 was.badFlit l.badFlit, fecUncorr := clr m 1 was.fecUncorr l.fecUncorr, replays := clr m 2 was.replays l.replays, retryReqs := clr m 3 was.retryReqs l.retryReqs
    replayTo := clr m 4 was.replayTo l.replayTo, linkDowns := clr m 5 was.linkDowns l.linkDowns, resumes := clr m 6 was.resumes l.resumes, flushes := clr m 7 was.flushes l.flushes
    protoErr := clr m 8 was.protoErr l.protoErr, msyncFix := clr m 9 was.msyncFix l.msyncFix, holdPoison := clr m 10 was.holdPoison l.holdPoison
    txFlits := clr m 11 was.txFlits l.txFlits, rxFlits := clr m 12 was.rxFlits l.rxFlits }

/-- TEN_CTR_CLR (R347, R349). -/
def Tenancy.clear (m : Nat) (was t : Tenancy) : Tenancy :=
  { t with
    unbacked := clr m 0 was.unbacked t.unbacked, noOwner := clr m 1 was.noOwner t.noOwner, semDenied := clr m 2 was.semDenied t.semDenied
    semBadrel := clr m 3 was.semBadrel t.semBadrel, semBroken := clr m 4 was.semBroken t.semBroken
    inst := Tbl.mapv (fun k i => { i with tagErr := clr m 5 (Tbl.get ({} : Inst) k was.inst).tagErr i.tagErr }) t.inst }

/-- A colour's counters of one Leash. -/
def Policer.clear (m k : Nat) (was p : Policer) : Policer :=
  { p with green := clr m k was.green p.green, yellow := clr m (k + 1) was.yellow p.yellow, red := clr m (k + 2) was.red p.red }

/-- The counters of one Leash (R347, R348): bits 0 to 5. -/
def Inst.clear (m : Nat) (was i : Inst) : Inst :=
  { i with grant := { i.grant with rd := was.grant.rd.clear m 0 i.grant.rd, wr := was.grant.wr.clear m 3 i.grant.wr } }

/-- FLT_FBb_CTR_CLR: bit s clears the count of source s; buckets are unaffected (R409, R411). -/
def FaultBlock.clear (m : Nat) (was x : FaultBlock) : FaultBlock :=
  { x with src := Tbl.mapv (fun k s => { s with count := clr m k (Tbl.get ({} : FaultSrc) k was.src).count s.count }) x.src }

/-- ICU_CTR_CLR (R422, R432, R433). -/
def Icu.clear (m : Nat) (was u : Icu) : Icu :=
  let drop := fun (i : Nat) (s : Source) => { s with events := s.events - (was.source i).events }
  let u := if bitOf m 10 && decide (m % 1024 < 1022) then u.modSrc (m % 1024) (drop (m % 1024)) else u
  let u := if bitOf m 11 then { u with src := Tbl.mapv drop u.src } else u
  if bitOf m 12 then { u with wakes := u.wakes - was.wakes, aborts := u.aborts - was.aborts } else u

/-- TLM_PWR_CTR_CLR (R508, R509). -/
def Power.clear (m : Nat) (was p : Power) : Power :=
  { p with dozes := clr m 0 was.dozes p.dozes, dozeAborts := clr m 1 was.dozeAborts p.dozeAborts, stCycles := clr m 2 was.stCycles p.stCycles }

/-- CHn_SVC_CTR_CLR (R524, R525). -/
def Service.clear (m : Nat) (was s : Service) : Service :=
  { s with
    inserts := clr m 0 was.inserts s.inserts, removals := clr m 1 was.removals s.removals, surprise := clr m 2 was.surprise s.surprise, aborts := clr m 3 was.aborts s.aborts
    presses := clr m 4 was.presses s.presses }

/-- TLM_CTR_CLR (R536, R537). -/
def Telemetry.clear (m : Nat) (was t : Telemetry) : Telemetry :=
  { t with
    hostRd := clr m 0 was.hostRd t.hostRd, hostWr := clr m 1 was.hostWr t.hostWr, sledLines := clr m 2 was.sledLines t.sledLines, nearLines := clr m 3 was.nearLines t.nearLines
    scanLines := clr m 4 was.scanLines t.scanLines }

/-- A channel's counters are cleared: what they have gained in the present FCLK stays, and counts from now on as gained in it (R65). -/
def Bridge.clearCh (n : Nat) (f : Channel → Channel → Channel) (b : Bridge) : Bridge :=
  let was : Channel := Tbl.get {} n b.mark.ch
  (b.modCh n (f was)).modMark (fun m => { m with ch := Tbl.put n (f was was) m.ch })

/-- CHn_SCH_CTR_CLR, CHn_XLT_CTR_CLR, CHn_RTV_CTR_CLR, CHn_HTL_CTR_CLR, CHn_HTL_LL_CTR_CLR, CHn_SVC_CTR_CLR: the counters of one part of a
channel. -/
def Channel.clearSch (m : Nat) (was c : Channel) : Channel := { c with sch := was.sch.clear m c.sch }
def Channel.clearAcc (m : Nat) (was c : Channel) : Channel := { c with acc := was.acc.clear m c.acc }
def Channel.clearRtv (m : Nat) (was c : Channel) : Channel := { c with rtv := was.rtv.clear m c.rtv }
def Channel.clearPhy (m : Nat) (was c : Channel) : Channel := { c with phy := was.phy.clear m c.phy }
def Channel.clearLl (m : Nat) (was c : Channel) : Channel := { c with ll := was.ll.clear m c.ll }
def Channel.clearSvc (m : Nat) (was c : Channel) : Channel := { c with svc := was.svc.clear m c.svc }

/-- HRD_CTR_CLR. -/
def Bridge.clearHerd (m : Nat) (b : Bridge) : Bridge :=
  let w := b.mark.herd
  (b.modHerd (Herder.clear m w)).modMark (fun k => { k with herd := w.clear m w })

/-- NTR_CTR_CLR. -/
def Bridge.clearNear (m : Nat) (b : Bridge) : Bridge :=
  let w := b.mark.herd
  (b.modHerd (Herder.clearNear m w)).modMark (fun k => { k with herd := w.clearNear m w })

/-- HRD_JRN_CTR_CLR. -/
def Bridge.clearJrn (m : Nat) (b : Bridge) : Bridge :=
  let w := b.mark.jrn
  ({ b with jrn := w.clear m b.jrn }).modMark (fun k => { k with jrn := w.clear m w })

/-- ICU_CTR_CLR. -/
def Bridge.clearIcu (m : Nat) (b : Bridge) : Bridge :=
  let w := b.mark.icu
  ({ b with icu := w.clear m b.icu }).modMark (fun k => { k with icu := w.clear m w })

/-- TEN_CTR_CLR. -/
def Bridge.clearTen (m : Nat) (b : Bridge) : Bridge :=
  let w := b.mark.ten
  (b.modTen (Tenancy.clear m w)).modMark (fun k => { k with ten := w.clear m w })

/-- TEN_LEASH_CTR_CLR for one instance. -/
def Bridge.clearLeash (i m : Nat) (b : Bridge) : Bridge :=
  let w : Inst := Tbl.get {} i b.mark.ten.inst
  (b.modInst i (Inst.clear m w)).modMark (fun k => { k with ten := { k.ten with inst := Tbl.put i (w.clear m w) k.ten.inst } })

/-- RTV_DISP_CTR_CLR. -/
def Bridge.clearScan (m : Nat) (b : Bridge) : Bridge :=
  let w := b.mark.scan
  ({ b with scan := w.clear m b.scan }).modMark (fun k => { k with scan := w.clear m w })

/-- PCX_CTR_CLR. -/
def Bridge.clearPort (m : Nat) (b : Bridge) : Bridge :=
  let w := b.mark.port
  (b.modPort (HostPort.clear m w)).modMark (fun k => { k with port := w.clear m w })

/-- TLM_CTR_CLR. -/
def Bridge.clearTlm (m : Nat) (b : Bridge) : Bridge :=
  let w := b.mark.tlm
  ({ b with tlm := w.clear m b.tlm }).modMark (fun k => { k with tlm := w.clear m w })

/-- TLM_PWR_CTR_CLR. -/
def Bridge.clearPwr (m : Nat) (b : Bridge) : Bridge :=
  let w := b.mark.pwr
  ({ b with pwr := w.clear m b.pwr }).modMark (fun k => { k with pwr := w.clear m w })

/-- FLT_FBb_CTR_CLR. -/
def Bridge.clearBlk (x m : Nat) (b : Bridge) : Bridge :=
  let w : FaultBlock := Tbl.get {} x b.mark.block
  (b.modBlk x (FaultBlock.clear m w)).modMark (fun k => { k with block := Tbl.put x (w.clear m w) k.block })

/-- PERST_N clears every counter but those of the fault blocks and of the fuses (R65, R105, R143, R185, R247, R274, R314, R349, R411,
R433, R484, R509, R525, R537), and the journal's; ECC_LAST is at its reset value, and HIGH_WATER at the occupancy (R104). -/
def Bridge.perstCounters (b : Bridge) : Bridge :=
  let all := 2 ^ 32 - 1
  let b := b.each channels (fun n b =>
    let b := (((((b.clearCh n (Channel.clearSch all)).clearCh n (Channel.clearAcc all)).clearCh n (Channel.clearRtv all)).clearCh n
      (Channel.clearPhy all)).clearCh n (Channel.clearLl all)).clearCh n (Channel.clearSvc all)
    b.modAcc n (fun a => { a.clearHigh with last := (0, 0), lastValid := false }))
  let b := b.each (Tbl.keys b.ten.inst) (fun i b => b.clearLeash i 63)
  ((((((((b.clearHerd all).clearNear all).clearTen all).clearPort all).clearScan all).clearJrn all).clearIcu 0x1C00).clearPwr all).clearTlm all

end Sys2Proof.Machine
end

