-- ==== Sys2Proof/Machine/Power.lean ====
section
/-! DEFINITION. Power and reset: power-on reset, start-up and replay, PERST_N, Doze and its wake, the end of the power-loss sequence
(chapters 14 and 16). -/

namespace Sys2Proof.Machine

open Sys2Proof

/-- Change power and reset. -/
def Bridge.modPwr (f : Power → Power) (b : Bridge) : Bridge := { b with pwr := f b.pwr }

-- Doze ----------------------------------------------------------------------------------------------------------------------

/-- Doze entry is abandoned (R496): the bridge is in its previous Run state, and links that idle come back. -/
def Bridge.abandonDoze (b : Bridge) : Bridge :=
  if b.pwr.state ≠ 2 then b
  else
    let b := (b.modPwr (fun p => { p with state := p.prev, dozeAborts := cnt32 p.dozeAborts 1 })).info 0x34 0
    b.each channels (fun n b => b.exitIdle n)

/-- The sources of R428, which can rise in Doze. -/
def dozeSource (i : Nat) : Bool :=
  (decide (i < 768) && [6, 7, 11].contains (i % 48)) || [771, 930, 966, 969, 970, 971, 972, 973, 974, 975, 976].contains i
    || (decide (994 ≤ i) && decide (i ≤ 1009))

/-- The lowest watched source that is high (R427, R429). -/
def Bridge.watchedHigh (b : Bridge) : Option Nat :=
  (List.range 1022).find? (fun i => b.icu.watched.contains i && dozeSource i && (b.icu.source i).level)

/-- Entry into Doze begins once the response is written (R378, R496): a watched source that is high abandons it at once (R429);
else buffers start to drain. -/
def Bridge.enterDoze (b : Bridge) : Bridge :=
  if 1 < b.pwr.state then b
  else if (b.icu.watched.any (fun i => (b.icu.source i).level)) then
    ({ b with icu := { b.icu with aborts := cnt32 b.icu.aborts 1 } }).info 0x30 0
  else
    let b := b.modPwr (fun p => { p with state := 2, prev := p.state })
    b.each channels (fun n b => b.offerAll n)

/-- A wake starts (R498, R499): every channel sends its exit burst. One by a watched source is the power management event that PME tells of (R196,
log entry 116). A cause that needs no configuration is the one named where both
come in one sample (R502). -/
def Bridge.startWake (cause : Nat) (b : Bridge) : Bridge :=
  if b.pwr.state = 3 then
    let b := b.modPwr (fun p => { p with state := 4, wakeCause := cause })
    let b := b.when (decide (cause = 1)) (·.pmEvent)
    b.each channels (fun n b => b.exitIdle n)
  else if b.pwr.state = 4 ∧ b.pwr.wakeCause = 1 ∧ b.icu.whTime = b.glb.time then b.modPwr (fun p => { p with wakeCause := cause })
  else b

/-- The Whistle samples its watched set (R427). -/
def Bridge.whistle (b : Bridge) : Bridge :=
  match b.watchedHigh with
  | some i =>
    if b.pwr.state = 3 then
      ({ b with icu := { b.icu with whCause := some i, whTime := b.glb.time, wakes := cnt32 b.icu.wakes 1 } }).startWake 1
    else b
  | none => b

/-- What is left to do before Doze is entered is done (R496 steps 2 to 5): no accepted job, no copy, empty buffers and grace stores,
and no link that is UP. -/
def Bridge.dozeReady (b : Bridge) : Bool :=
  b.scan.job.isEmpty && b.scan.fetch.isEmpty && b.herd.copies.isEmpty
    && channels.all (fun n => (b.chan n).acc.wcb.isEmpty && (b.chan n).ll.gstore.isEmpty && decide ((b.chan n).ll.state ≠ .up)
      && (b.chan n).sch.running.isEmpty)

/-- DOZE_ENTRY: entry completes (R496 steps 6 to 8), and the Whistle starts watching; a watched source that rose meanwhile wakes the
bridge at once (R429). -/
def doDozeEntry (b : Bridge) : Bridge :=
  if b.pwr.state = 2 && b.dozeReady && b.jrn.step = 0 then
    let b := b.modPwr (fun p => { p with state := 3, holdOver := true, dozes := cnt32 p.dozes 1 })
    let b := if b.port.up && decide (b.port.lstate < 2) && bitOf ((b.func 0).word 28) 1 then b.modPort (fun p => { p with lstate := 2 }) else b
    b.whistle
  else b

/-- WHISTLE_WAKE: a sample in Doze finds a watched source high (R427, R428). -/
def doWhistleWake (b : Bridge) : Bridge := b.whistle

/-- WAKE_START: an unconditional cause wakes the bridge from Doze, and abandons an entry under way (R496, R498). -/
def doWakeStart (cause : Nat) (b : Bridge) : Bridge := (b.abandonDoze).startWake cause

-- Base service, and the end of start-up ----------------------------------------------------------------------------------------

/-- Segments of instance 0 that the BAR sizes are taken from at the diagnostic hold (R203, R365): as they are to be after start-up. -/
def Bridge.bootSegs (b : Bridge) : Nat :=
  let of := fun (x : Inst) => (x.pendingGrant.getD x.grant).segs
  if b.pwr.keepMaps then of (b.inst 0)
  else if b.boot.jloc.isEmpty then b.boot.board.inst0.segs
  else match b.image with
    | some i => of (Tbl.get {} 0 i.inst)
    | none => 0

/-- LEVEL leaves 0 (R203, R204, R508): the time it took, and the sizes taken then. After the diagnostic hold the BAR sizes keep the
values taken (R365). -/
def Bridge.leaveZero (segs : Nat) (b : Bridge) : Bridge :=
  let ms := (b.glb.time - b.pwr.startAt) / 1500000
  let b := b.modPwr (fun p => { p with bootMs := Nat.min 4095 ms, levelDue := false })
  if b.boot.heldAt then b else b.modPort (fun p => { p with bar2Log := windowLog segs })

/-- Start-up stops in base service (R22, R492). -/
def Bridge.stopStart (cause : Nat) (b : Bridge) : Bridge :=
  let segs := if cause = 7 then b.bootSegs else (b.inst 0).grant.segs
  let b := ((b.leaveZero segs).baseService cause).modPwr (fun p => { p with levelDue := false })
  let b := { b with jrn := { b.jrn with replaying := false }, boot := { b.boot with heldAt := decide (cause = 7) } }
  if cause = 1 then b.modGlb (fun g => { g with tampered := true }) else b

/-- LEVEL takes 2 or 3 at the first stride in which every admitted sled's map state is loaded (R26, R491 step 7). -/
def Bridge.levelUp (b : Bridge) : Bridge :=
  if b.pwr.levelDue && channels.all (fun n => (b.chan n).acc.mapLoaded) then
    let b := b.leaveZero (b.inst 0).grant.segs
    let b := { b with boot := { b.boot with heldAt := false } }
    let b := (b.modHerd (fun h => { h with running := true })).modScan (fun s => { s with stopped := b.herd.fenced })
    b.modGlb (fun g => { g with level := if b.lossy then 3 else 2, baseCause := 0 })
  else b

-- Start-up ---------------------------------------------------------------------------------------------------------------------

/-- Every map that HBM held is gone. The entries of the write-combining buffers stay where `keep` says so, to drain once the maps stand again
(R94). -/
def Bridge.clearMaps (keep : Bool) (b : Bridge) : Bridge :=
  let b := b.each channels (fun n b =>
    let b := b.each ((b.chan n).acc.wcb.filter (fun e => e.sealed)) (fun e b => b.reopen n e.ln)
    ((b.modAcc n (fun a => { a with mapLoaded := false, cached := [], wcb := if keep then a.wcb.map (fun e => { e with offered := false }) else [] })).modHc n
      (fun _ => {})).modSch n (Sched.drop (fun _ => true)))
  let b := b.modHerd (fun h => { h with
    dir := [], heat := [], samples := [], sampledAt := [], retireWait := [], copies := [], exc := [], desc := [], ext := [], freeing := [] })
  b.modTen (fun t => { t with seg := [], inst := [(0, { state := .live })] })

/-- Where copy `k` of the journal goes at the first start-up (R435): the board's channel, or the lowest eligible one, sleds that report
PERSIST first. -/
def Bridge.placeCopy (k : Nat) (b : Bridge) : Bridge :=
  let named := if k = 0 then b.boot.board.journal.1 else b.boot.board.journal.2
  let able := channels.filter (fun n => b.eligibleCopy n)
  let pick := match named with
    | some n => if b.eligibleCopy n then some n else (able.find? (fun n => (b.chan n).ll.id.persist)).or able.head?
    | none => (able.find? (fun n => (b.chan n).ll.id.persist)).or able.head?
  match pick with
  | some n => (b.copyExts n true).standCopy k n
  | none => b

/-- Instance 0 takes its resources from the board configuration file (R319); where they cannot be given yet, they are pending until
PERST_N. Its key is generated (log entry 36). -/
def Bridge.firstInstance (b : Bridge) : Bridge :=
  let g := b.boot.board.inst0
  let b := match b.layout 0 {} g with
    | some b => (b.publish 0).modInst 0 (fun x => { x with grant := { g with rd := g.rd.full, wr := g.wr.full }, pendingGrant := none })
    | none => b.modInst 0 (fun x => { x with
        grant := { g with plain := 0, mirrored := 0, rd := g.rd.full, wr := g.wr.full }, pendingGrant := some g })
  let k := b.knl.nextGen
  let b := b.modKnl (fun x => { (x.sealKey 0 k) with nextGen := k + 1 })
  b.modInst 0 (fun x => { x with gen := k, keyValid := true, switched := b.stride })

/-- Steps 4 to 6 of a first start-up (R435, R456, R491): nothing to replay; the copies are placed where a sled can take them. -/
def Bridge.firstStart (b : Bridge) : Bridge :=
  if b.knl.latch then b.stopStart 1
  else if b.knl.lost then b.stopStart 3
  else
    let b := ((b.clearMaps true).placeCopy 0).placeCopy 1
    let b := { b with jrn := { b.jrn with seq := 0, ckptSeq := 0, lastEnd := 0, replaying := false }, image := none }
    let b := b.firstInstance
    let b := b.each channels (fun n b =>
      (b.modAcc n (fun a => { a with mapLoaded := true })).toSvc n (if (b.chan n).svc.present then .present else .empty))
    b.modPwr (fun p => { p with levelDue := true })

/-- Start-up goes on from where the diagnostic hold stops it: steps 4 and on (R365, R491-R493). -/
def Bridge.loadMaps (b : Bridge) : Bridge :=
  if b.pwr.keepMaps then { b with jrn := { b.jrn with replaying := true } }
  else if b.boot.jloc.isEmpty then b.firstStart
  else
    let b := { b with jrn := { b.jrn with replaying := true } }
    b.each (Tbl.vals b.boot.jloc) (fun c b =>
      if (b.chan c.1).svc.present then doChannelEnable c.1 ((b.emit (.pin (.pwren c.1) true))) else b)

/-- Steps 2 and 3 of start-up (R491, R492): the image, then HBM, the cores and the tenancy unit tested, and the sizes of R203 taken;
the diagnostic hold stops it there. A core or stack that fails alone is fenced (R16, R23); what a fence has out of service passes no test
(R22, R398). With no core at all the bridge does not enumerate (R21). -/
def Bridge.startUp (hbms cores : Nat) (tenancy : Bool) (b : Bridge) : Bridge :=
  let b := b.modPwr (fun p => { p with started := true, startAt := b.glb.time, state := 1, prev := 1, unfit := false, passed := (hbms, cores, tenancy) })
  let b := (b.ensureKek).bootImage
  let b := if b.pwr.keepMaps then b else b.modHerd (fun h => { h with frames := (11534336, 11534336) })
  let count := fun (m out k : Nat) => popCount (packBits (fun j => bitOf m j && !bitOf out j) k) k
  let good := count cores b.glb.coreFenced 5
  if good = 0 then b.modPwr (fun p => { p with unfit := true })
  else if b.boot.rom then b.stopStart 2
  else if b.glb.stackFenced = 3 || !b.pwr.keepMaps && decide (count hbms b.glb.stackFenced 2 = 0) then b.stopStart 4
  else if good = 1 then b.stopStart 5
  else if !tenancy || b.ten.fenced then b.stopStart 6
  else
    let b := b.each ((List.range 5).filter (fun k => !bitOf cores k)) (fun k b => b.fenceCore k 2 0)
    let b := if b.pwr.keepMaps then b else b.each ((List.range 2).filter (fun s => !bitOf hbms s)) (fun s b => b.fenceStack s 11 0)
    if b.boot.hold then b.stopStart 7 else b.loadMaps

/-- START_UP: 1 ms after power-on reset ends (R488, R491). -/
def doStartUp (hbms cores : Nat) (tenancy : Bool) (board : Board) (b : Bridge) : Bridge :=
  if b.pwr.started || b.pwr.dead then b
  else
    let b := b.modPwr (fun p => { p with por := false, failLow := false, keepMaps := false })
    let b := { b with boot := { b.boot with board := board } }
    let b := (b.modHerd (fun h => { h with holdup := board.holdup })).modFuses Fuses.load
    let b := b.each channels (fun n b => b.modPhy n (fun p => { p with
      ceiling := Tbl.get 3 n board.ceiling, boardPreset := Tbl.get 1 n board.preset }))
    b.startUp hbms cores tenancy

-- Replay ------------------------------------------------------------------------------------------------------------------------

/-- The settings, fences and maps of an image stand again (R434, R446). -/
def Bridge.loadImage (i : Image) (b : Bridge) : Bridge :=
  let b := b.modHerd (fun h => { h with
    desc := i.desc, exc := i.exc, ext := i.ext, tune := i.tune, reservePct := i.reservePct, persistReq := i.persistReq
    dir := [], heat := [], samples := [], copies := [], freeing := []
    frames := (Nat.min h.frames.1 i.hbm.2.2.1, Nat.min h.frames.2 i.hbm.2.2.2) })
  let fresh := fun (_ : Nat) (x : Inst) =>
    let x := x.clear 63 x
    { x with
      grant := { x.grant with rd := x.grant.rd.full, wr := x.grant.wr.full }, rdRedLast := false, rdRedNow := false, wrRedNow := false
      stopped := [], tagErr := 0, rdBytes := 0, wrBytes := 0 }
  let b := b.modTen (fun t => { t with seg := i.seg, inst := Tbl.mapv fresh i.inst, vfLimitNext := i.vfLimitNext, vfLimit := i.vfLimitNext })
  let b := b.modGlb (fun g => { g with
    shares := i.shares, veto := i.veto, chFenced := g.chFenced ||| i.chFenced, coreFenced := g.coreFenced ||| i.cores.1
    coreActive := packBits (fun k => bitOf i.cores.2.1 k && !bitOf g.coreFenced k || bitOf g.coreActive k && decide (k = 4)) 5
    coreSpare := g.coreSpare || i.cores.2.2
    pcFenced := i.hbm.1.1, pcSpared := i.hbm.1.2, hbmSpare := i.hbm.2.1 })
  let b := b.modPwr (fun p => { p with warnC := i.warnC })
  let b := b.each i.classes (fun c b => b.modFs c.1 c.2.1 (fun s => { s with n := some c.2.2.1, w := some c.2.2.2 }))
  let b := b.each i.links (fun l b =>
    (b.modPhy l.1 (fun p => { p with limit := l.2.1 })).modLl l.1 (fun k => { k with
      vcSet := l.2.2.1, idleEn := l.2.2.2.1, graceUs := l.2.2.2.2 }))
  let b := b.each i.lanes (fun l b =>
    (b.modRtv l.1 (fun r => { r with active := l.2.1, fenced := l.2.2.1 })).modPhy l.1 (fun p => { p with
      txFenced := l.2.2.2.1, rxFenced := l.2.2.2.2 }))
  let b := b.each i.lost (fun l b => b.modSvc l.1 (fun s => { s with lostLines := l.2 }))
  let keep := i.ops.filter (fun o => [0x0307, 0x0702, 0x0704, 0x0708].contains o.op)
  { b with citan := { b.citan with ops := keepOps (b.citan.ops.filter (fun o => !o.running) ++ keep.map (fun o => { o with mute := true })) } }

/-- Extents homed on a sled that was not restored take STATE 3 (R446). -/
def Bridge.notRestored (n : Nat) (b : Bridge) : Bridge :=
  let freeze := fun (_ : Nat) (d : Desc) => if d.valid && decide (d.home.1 = n) then { d with state := 3, gen := (d.gen + 1) % 2 ^ 32 } else d
  (b.modHerd (fun h => { h with desc := Tbl.mapv freeze h.desc })).modJrn (fun j => { j with lastEnd := 3 })

/-- The SLED records decide each position at start-up (R521). A sled whose link is not up yet is checked once it is. -/
def Bridge.sledStart (n : Nat) (b : Bridge) : Bridge :=
  let s := (b.chan n).svc
  match b.image.bind (fun i => Tbl.find n i.sled) with
  | none => b.toSvc n (if s.present then .present else .empty)
  | some (serial, cap, reserve) =>
    let b := b.modSvc n (fun s => { s with admitted := true, serial := serial, capGib := cap, reserve := reserve, phase := 7 })
    if !s.present then b.surprise n
    else
      let b := b.toSvc n .admitted
      if b.chFenced n then b.modSvc n (fun s => { s with phase := 0 }) else doChannelEnable n b

/-- The check of a recorded sled whose link has come up at start-up (R446, R521). -/
def Bridge.sledCheck (n : Nat) (b : Bridge) : Bridge :=
  let s := (b.chan n).svc
  if s.state = .admitted ∧ s.phase = 7 ∧ (b.chan n).ll.state = .up then
    let id := (b.chan n).ll.id
    let b := b.modSvc n (fun s => { s with phase := 0 })
    if id.serial ≠ s.serial then b.surprise n
    else if !id.restored ∧ b.jrn.lastEnd ≠ 2 then b.notRestored n
    else b
  else b

/-- An operation that the journal holds goes on (R362): an evacuation, a removal or an admission. -/
def Bridge.resumeOp (o : Operation) (b : Bridge) : Bridge :=
  let n := o.obj - 65536
  let s := (b.chan n).svc
  if o.op = 0x0702 ∧ s.state = .admitted then (b.toSvc n .evacuating).modSvc n (fun s => { s with phase := 0 })
  else if o.op = 0x0307 ∧ s.state = .admitted ∧ !b.chFenced n then b.modHc n (fun h => { h with evac := true })
  else if o.op = 0x0704 ∧ s.state = .present then (b.toSvc n .admitting).modSvc n (fun s => { s with phase := 0 })
  else if o.op = 0x0708 then b
  else b.endOp o 7 []

/-- Segments refused at replay: their extents take STATE 3 (R447). -/
def Bridge.refuseSegs (segs : List Nat) (b : Bridge) : Bridge :=
  let freeze := fun (_ : Nat) (d : Desc) => if segs.contains (d.ext / 512) then { d with state := 3, gen := (d.gen + 1) % 2 ^ 32 } else d
  let b := b.modHerd (fun h => { h with desc := Tbl.mapv freeze h.desc })
  b.each segs (fun s b => b.info 0x28 (s * 2 ^ 30))

/-- A teardown whose tick had passed completes after the restart (R341). -/
def Bridge.finishTeardowns (b : Bridge) : Bridge :=
  b.each (b.ten.inst.filter (fun e => decide (e.2.state = .tearing) && e.2.tornAt.isSome)) (fun e b =>
    let b := (b.releaseMaps e.1).modInst e.1 Inst.gone
    b.modKnl (Kennel.eraseKey e.1))

/-- A journal copy yields its records: its channel's link is up with the recorded sled (R446, R492). -/
def Bridge.copyReads (b : Bridge) (k : Nat) : Bool :=
  match Tbl.find k b.boot.jloc with
  | some (n, serial) => decide ((b.chan n).ll.state = .up) && decide ((b.chan n).ll.id.serial = serial)
  | none => false

/-- Pending resources of instance 0 take effect at a restart (R319). -/
def Bridge.takePending (b : Bridge) : Bridge :=
  match (b.inst 0).pendingGrant with
  | none => b
  | some g =>
    match b.layout 0 (b.inst 0).grant g with
    | some b => (b.publish 0).modInst 0 (fun x => { x with grant := { g with rd := g.rd.full, wr := g.wr.full }, pendingGrant := none })
    | none => b

/-- JOURNAL_REPLAY: with the journal links up, the newest checkpoint and the groups after it are loaded (R446, R447); without one, or
where neither verifies, start-up stops (R492). `bad`: copies that do not verify, a bit each; `diffs`: differences logged; `refused`: DLA
segments refused. A restart that keeps map state verifies it instead. -/
def doJournalReplay (bad : Nat) (diffs : Nat) (refused : List Nat) (b : Bridge) : Bridge :=
  if !b.jrn.replaying then b
  else if b.pwr.keepMaps then
    let b := (b.finishTeardowns).modJrn (fun j => { j with replaying := false })
    let b := b.takePending
    (b.modTen (fun t => { t with vfLimit := t.vfLimitNext })).modPwr (fun p => { p with levelDue := true })
  else
    let good := [0, 1].filter (fun k => b.copyReads k && !bitOf bad k)
    match b.image with
    | none => b.stopStart 8
    | some i =>
      if good.isEmpty then b.stopStart 8
      else if b.knl.latch then b.stopStart 1
      else if b.knl.lost then b.stopStart 3
      else
        let old := b.jrn
        let b := b.loadImage i
        let last := match i.jrn.ended with
          | some (true, _) => 1
          | _ => 2
        let b := { b with jrn := { i.jrn with
          step := 0, clean := false, doneCh := 0, saved := 0, saves := 0, ended := none, compacting := false, hold := false, replaying := false
          lastEnd := last, records := old.records, ckpts := old.ckpts, heldCount := old.heldCount, budget := (0, 0, false)
          copyDiff := cnt32 old.copyDiff diffs, refused := refused.length } }
        let b := b.each (List.range (Nat.min diffs 65536)) (fun _ b => b.note 0x28 10 0)
        let b := b.each ([0, 1].filter (fun k => !good.contains k && (Tbl.find k b.boot.jloc).isSome)) (fun k b =>
          (b.modJrn (fun j => j.modCopy k (fun c => { c with state := 0, next := none }))).note 0x28 (8 + k) 0)
        let b := (b.refuseSegs refused).finishTeardowns
        let b := b.each channels (fun n b => b.sledStart n)
        let b := b.each channels (fun n b => (b.modAcc n (fun a => { a with mapLoaded := true })).sledCheck n)
        let b := b.each (b.citan.ops.filter (fun o => o.running)) (fun o b => b.resumeOp o)
        let b := (({ (b.unsealKeys) with image := none } : Bridge)).takePending
        b.modPwr (fun p => { p with levelDue := true })

-- Resets ------------------------------------------------------------------------------------------------------------------------

/-- A change that a command of Citan's, or a register of the host's, has prepared: it is lost at PERST_N where its COMMIT is not
written (R362). The others are the engines' own, which PERST_N does not stop. -/
def Change.ofCommand : Change → Bool
  | .copySwitch _ => false
  | .copyEnd _ _ => false
  | .fold _ => false
  | .onAlt _ => false
  | .evacStart _ auto => !auto
  | .sledRecord _ _ _ _ _ _ => false
  | .fenceRecord _ _ _ => false
  | .segRestored _ _ _ => false
  | .rebuilt _ => false
  | .stackRebuilt _ => false
  | _ => true

/-- A change is lost: a creation's resources return, and an instance that was to be torn down lives on (R321, R362, R446). -/
def Bridge.undoChange (c : Change) (b : Bridge) : Bridge :=
  match c with
  | .instCreate i => if (b.inst i).state = .creating then b.abortCreate i else b
  | .instTeardown i => b.modInst i (fun x => if x.state = .tearing ∧ x.tornAt.isNone then { x with state := .live, tearCmd := none } else x)
  | _ => b

/-- The committed groups take effect and the others are lost (R362, R446): every change at power-on reset, those of commands at
PERST_N. -/
def Bridge.settlePrepared (all : Bool) (b : Bridge) : Bridge :=
  let ps := b.citan.prepared
  let goes := fun (p : Prepared) => all || p.change.ofCommand
  let b := { b with citan := { b.citan with prepared := ps.filter (fun p => p.doneAt.isNone && !goes p) } }
  b.each ps (fun p b =>
    if p.doneAt.isSome || !goes p then b
    else if p.awaits && p.committed then b.applyChange p.change
    else b.undoChange p.change)

/-- A firmware-update session ends with its slot FAILED (R362). -/
def Bridge.endSession (b : Bridge) : Bridge :=
  match b.boot.session with
  | none => b
  | some s =>
    let slot := { (b.fwSlot s.slot) with good := false, state := 4 }
    { b with boot := { b.boot with session := none, slots := Tbl.put s.slot slot b.boot.slots } }

/-- The operations that PERST_N ends (R362): a test ends with its unit fenced, which status is open (log entry 4); an unfence ends with
FENCED. -/
def Bridge.perstOps (b : Bridge) : Bridge :=
  let b := b.each (b.citan.ops.filter (fun o => o.running && [0x0105, 0x0106].contains o.op)) (fun o b =>
    let (k, b) := b.freeNat
    b.endOp o (k % 9) [])
  let b := b.each (b.citan.ops.filter (fun o => o.running && decide (o.op = 0x0503))) (fun o b => b.endOp o 7 [])
  b.each (b.citan.ops.filter (fun o => o.running && [0x0A01, 0x0A03].contains o.op)) (fun o b =>
    let (k, b) := b.freeNat
    b.endOp o (k % 9) [])

/-- The interrupt controller as PERST_N leaves it (R433): every source's
configuration, the core ports and groups and ICU_SWSRC at their reset values (R8), and no watched source (R426). -/
def Icu.perst (u : Icu) : Icu :=
  { u with src := Tbl.mapv (fun _ s => { level := s.level }) u.src, swsrc := 0, core := [], group := [], gdis := false, badComplete := false, watched := [] }

/-- Register fields that PERST_N returns to their reset values (R8), and that no chapter keeps. -/
def Bridge.perstRegs (b : Bridge) : Bridge :=
  let b : Bridge := { b with
    glb := { b.glb with scratch := 0, overrun := 0 }
    tlm := { b.tlm with hold := false, latched := none }
    faults := { b.faults with
      lateWr := [], armed := true, pinEn := true, outEn := true, faultEn := false, sel := (0, 0), onSevere := false, cause := 0
      missed := 0, snapTime := 0, snaps := 0, due := 0
      block := Tbl.mapv (fun _ x => { x with snap := [], stamp := 0, src := Tbl.mapv (fun _ s => { s with event := false }) x.src }) b.faults.block } }
  b.each channels (fun n b => b.modPhy n (fun p => { p with lane := Tbl.mapv (fun _ l => { l with prbsCtrl := 0, injOne := false }) p.lane }))

/-- A falling edge of PERST_N takes effect (R215, R362, R490). What waits for the power-loss sequence's end is held no more (R443). -/
def Bridge.perstFalls (b : Bridge) : Bridge :=
  let keep := decide (2 ≤ b.glb.level)
  let b := b.settlePrepared false
  let b := if keep then b else { b with image := if channels.any (fun n => (b.chan n).acc.mapLoaded) then some b.imageOf else b.image }
  let b := (b.hostReset false).haltScans
  let b := (((b.perstOps).endSession).perstCounters).perstRegs
  let b := ((b.modPort (fun p => { p with
    up := false, lstate := 0, modeLatched := false, noMode := false, eq := 0, quiet := 0, intaPaced := false, pmeAck := false })).clkOn).wakeOff
  let b := { b with
    icu := b.icu.perst, faults := { b.faults with forceLock := false, forceWritten := false }
    citan := { b.citan with waits := [] } }
  let b := b.modKnl (fun k => { k with debugOff := false, debugWritten := false })
  let b := b.modJrn (fun j => { j with step := 0, clean := false, saved := 0, ended := none, replaying := false })
  let b := b.each channels (fun n b =>
    let b := b.modSch n (fun s => { s with uncapped := false })
    let b := if (b.phy n).testRate.isSome then (b.modPhy n (fun p => { p with test := 0, testRate := none })).lanesToDetect n else b
    let b := b.modRtv n (fun r => { r with test := 0 })
    if (b.chan n).ll.saved then b.takeDown n else b)
  let b := b.modPwr (fun p => { p with
    held := false, perstDue := false, keepMaps := keep, levelDue := false, rstCause := putBit p.rstCause 1 true
    state := 1, prev := 1, holdOver := false })
  let b := if keep then b else b.clearMaps true
  { (b.modGlb (fun g => { g with level := 0, baseCause := 0 })) with boot := { b.boot with heldAt := false } }

/-- PERST_ASSERT: PERST_N falls (R217, R490, R502): during the power-loss sequence it takes effect after it, and in Doze after the
wake. -/
def doPerstAssert (b : Bridge) : Bridge :=
  let was := b.pwr.perstLow
  let b := b.modPwr (fun p => { p with perstLow := true })
  if was || b.pwr.por || b.pwr.dead || !b.pwr.started then b
  else if b.jrn.step ≠ 0 ∧ !b.pwr.held then b.modPwr (fun p => { p with perstDue := true })
  else if 3 ≤ b.pwr.state ∧ b.pwr.state ≤ 4 then
    (b.modPwr (fun p => { p with wakeThen := putBit p.wakeThen 0 true })).startWake 3
  else (b.abandonDoze).perstFalls

/-- PERST_N rises after a restart (R491-R493): the boot ROM starts from step 2. -/
def Bridge.perstRises (hbms cores : Nat) (tenancy : Bool) (b : Bridge) : Bridge :=
  if b.pwr.started ∧ b.glb.level = 0 ∧ !b.jrn.replaying ∧ !b.pwr.levelDue then b.startUp hbms cores tenancy else b

/-- PERST_N has risen again by the time its fall takes effect: the units are as they last passed their tests (R22). -/
def Bridge.riseAgain (b : Bridge) : Bridge := b.perstRises b.pwr.passed.1 b.pwr.passed.2.1 b.pwr.passed.2.2

/-- PERST_DEASSERT (R490, R493). Where its fall still waits, so does the restart; the first rise after power-on reset only lets the host
port go. -/
def doPerstDeassert (hbms cores : Nat) (tenancy : Bool) (b : Bridge) : Bridge :=
  if !b.pwr.perstLow then b
  else
    let b := b.modPwr (fun p => { p with perstLow := false })
    if b.pwr.por || b.pwr.dead || !b.pwr.started || b.pwr.perstDue || bitOf b.pwr.wakeThen 0 then b
    else b.perstRises hbms cores tenancy

/-- POWER_ON_RESET: everything but the kennel is reset (R453, R488). The sleds keep what the journal holds of the maps; the NOR, the
fuse array and the board's pins stay. `kept`: the kennel's state verifies; else it is a tamper of cause STATE_LOST. -/
def doPowerOnReset (kept : Bool) (b : Bridge) : Bridge :=
  let loaded := channels.any (fun n => (b.chan n).acc.mapLoaded)
  let b := b.settlePrepared true
  let image := if !loaded then b.image else if b.boot.jloc.isEmpty then none else some b.imageOf
  let old := b
  let present := fun (n : Nat) => (old.chan n).svc.present
  let fresh : Bridge := {}
  let boot := { old.boot with slot := 0, rom := false, session := none, heldAt := false, qspiFree := false }
  let boot := ({ fresh with boot := boot }.endSession).boot
  let b : Bridge := { fresh with
    image := image, free := old.free, out := old.out, lands := [], boot := boot
    fuses := { array := old.fuses.array, spare := Tbl.mapv (fun _ s => { s with active := false }) old.fuses.spare }
    pwr := { por := true, perstLow := old.pwr.perstLow, failLow := old.pwr.failLow } }
  let b := b.each (channels.filter present) (fun n b => b.modSvc n (fun s => { s with present := true, state := .present }))
  let k := { old.knl with epoch := (old.knl.epoch + 1) % 256, debugOff := false, debugWritten := false, atWake := [], provision := 0, lost := false }
  if kept then
    let k := (List.range 7).foldl (fun (k : Kennel) s =>
      if bitOf k.active s then k.logTamper (2 ^ 63 + k.timeCopy % 2 ^ 63) s 0 false else k) k
    { b with knl := { k with stateLost := false } }
  else
    let k := { k with
      kekValid := false, kekProv := false, kek := k.kek + 1, latch := true, count := 0, log := [], next := 0, wrapped := false
      tmpEn := 0, epoch := 0, timeCopy := 0, stateLost := true }
    { b with knl := (k.logTamper (2 ^ 63) 7 0 true) }

/-- PLL_LOCK_LOSS: the standby PLL takes over, once; without one the bridge is held in reset (R394, R489). -/
def doPllLockLoss (b : Bridge) : Bridge :=
  if b.pwr.pllSpare then (b.modPwr (fun p => { p with pllSpare := false })).note 0x33 8 0
  else (b.modPwr (fun p => { p with dead := true })).emit (.pin .faultN false)

/-- SUPPLY_FAULT: a supply leaves its limits (R486, R553): the detector fires first where it is watched, then power-on reset follows if
the monitor threshold is crossed. -/
def doSupplyFault (below : Bool) (b : Bridge) : Bridge :=
  let b := if b.pwr.por then b else doTamperFire 4 0 b
  if below then doPowerOnReset true b else b

-- Power loss ------------------------------------------------------------------------------------------------------------------

/-- The 5 s windows of sled positions are abandoned (R522). -/
def Bridge.endWindows (b : Bridge) : Bridge :=
  b.each channels (fun n b =>
    match (b.chan n).svc.state with
    | .admitWait => b.toSvc n (b.chan n).svc.before
    | .removeWait => b.toSvc n .admitted
    | _ => b)

/-- The power-loss sequence begins (R443, R502). -/
def Bridge.powerLoss (b : Bridge) : Bridge := ((b.abandonDoze).endWindows).startPowerLoss

/-- POWER_FAIL: PWR_FAIL_N has been low for 200 ns (R443, R488, R502). In Doze the wake runs first. -/
def doPowerFail (b : Bridge) : Bridge :=
  let b := (b.modPwr (fun p => { p with failLow := true })).level 969 true
  if b.pwr.por || b.pwr.dead || b.pwr.held || decide (b.jrn.step ≠ 0) then b
  else if 3 ≤ b.pwr.state ∧ b.pwr.state ≤ 4 then
    (b.modPwr (fun p => { p with wakeThen := putBit p.wakeThen 1 true })).startWake 4
  else b.powerLoss

/-- THERMAL_TRIP: the comparator fires at 130 degrees: the power-loss sequence runs, and the bridge is held after it (R489, R501,
R502). -/
def doThermalTrip (b : Bridge) : Bridge :=
  if b.pwr.por || b.pwr.dead then b
  else if b.pwr.held then b.modPwr (fun p => { p with dead := true })
  else
    let b := b.modPwr (fun p => { p with tripDue := true })
    if b.jrn.step ≠ 0 then b
    else if 3 ≤ b.pwr.state ∧ b.pwr.state ≤ 4 then
      (b.modPwr (fun p => { p with wakeThen := putBit p.wakeThen 2 true })).startWake 5
    else b.powerLoss

/-- The sequence has ended (R443): the bridge is held, until power-on reset after a trip; a PERST_N that fell meanwhile takes effect
now. -/
def Bridge.plEnd (b : Bridge) : Bridge :=
  if b.jrn.step = 5 ∧ b.jrn.saves = 0 then
    let trip := b.pwr.tripDue
    let b := (b.modJrn (fun j => { j with step := 6 })).modPwr (fun p => { p with held := true, dead := p.dead || trip })
    let b := if trip then b.emit (.pin .faultN false) else b
    if b.pwr.perstDue ∧ !trip then
      let b := b.perstFalls
      if b.pwr.perstLow then b else b.riseAgain
    else b
  else b

/-- WAKE_COMPLETE: 10 us after the wake began the bridge is in Run (R499); tamper events are reported (R462), and what fell meanwhile
takes effect (R502). -/
def doWakeComplete (b : Bridge) : Bridge :=
  if b.pwr.state ≠ 4 then b
  else
    let due := b.pwr.wakeThen
    let b := b.modPwr (fun p => { p with state := p.prev, wakeThen := 0 })
    let b := b.each b.knl.atWake (fun e b => b.reportTamper e.1 e.2)
    let b := b.modKnl (fun k => { k with atWake := [] })
    if bitOf due 1 || bitOf due 2 then
      let b := b.powerLoss
      if bitOf due 0 then b.modPwr (fun p => { p with perstDue := true }) else b
    else if bitOf due 0 then
      let b := b.perstFalls
      if b.pwr.perstLow then b else b.riseAgain
    else b

/-- The first tick after a wake admits the requests that were held (R499). -/
def Bridge.wakeTick (b : Bridge) : Bridge :=
  if b.pwr.holdOver ∧ b.pwr.state ≤ 1 then
    let b := b.modPwr (fun p => { p with holdOver := false })
    b.releaseHeld b.port.held.length
  else b

end Sys2Proof.Machine
end

