-- ==== Sys2Proof/Machine/Tick.lean ====
section
/-! DEFINITION. The stride: its tick, the seal of its plan, the end of its glide, and what passes with time alone (R29-R31, log entry 1). -/

namespace Sys2Proof.Machine

open Sys2Proof

/-- A new FCLK begins at timestamp `t`: a change of PCX_INTA_EN in the one before is evaluated (R244). -/
def Bridge.toTime (t : Nat) (b : Bridge) : Bridge :=
  let b := b.advance t
  b.when b.port.intaDue (fun b => (b.modPort (fun p => { p with intaDue := false })).intaEval)

/-- A policer's buckets are refilled at the tick (R328). -/
def Policer.refill (p : Policer) : Policer := { p with tc := Nat.min (p.tc + p.cir) p.cbs, tp := Nat.min (p.tp + p.pir) p.pbs }

/-- The Leash at the tick (R328), and the books of red requests: an instance that had red reads runs red in the stride that opens
(R151, R348). -/
def Inst.tick (i : Inst) : Inst :=
  let g := i.grant
  let grant := if g.leashOn then { g with rd := g.rd.refill, wr := g.wr.refill } else g
  { i with grant := grant, rdRedLast := i.rdRedNow, rdRedNow := false, wrRedNow := false }

/-- Every Leash at the tick; an instance whose scans are throttled in the stride is counted (R151, R182). -/
def Bridge.leashTick (b : Bridge) : Bridge :=
  let red := (b.ten.inst.filter (fun e => e.2.rdRedNow)).length
  (b.modTen (fun t => { t with inst := Tbl.mapv (fun _ i => i.tick) t.inst })).modScan (fun s => { s with throttle := cnt32 s.throttle red })

/-- A channel's capacity at the tick (R32, R64): that of its link, kept while it is paused. -/
def Bridge.capNow (b : Bridge) (n : Nat) : Nat :=
  let c := b.chan n
  if decide (c.ll.state = .up) && decide (c.phy.state = .active) && !b.chFenced n then capOf c.phy.rate c.phy.width
  else if c.ll.state = .paused then c.sch.c else 0

/-- The channel is the source or a destination of an evacuation (R127): its own sled's, or one that has an extent in progress, or a granule under
way, to or from it. -/
def Bridge.evacuates (b : Bridge) (n : Nat) : Bool :=
  (b.chan n).herd.evac || b.herd.desc.any (fun e => e.2.valid && e.2.evac.any (fun d => decide (d.1 = n)))
    || b.herd.copies.any (fun e => decide (e.2.cause = .evacuation) && (decide (e.2.dstCh = n) || decide (b.homeCh (b.resChOf e.2.gran) e.2.gran = n)))

/-- The dirty ceilings of the stride (R127, R135-R137): each channel that comes to be over its ceiling is an event. -/
def Bridge.ceilings (b : Bridge) : Bridge :=
  let b := b.each channels (fun n b =>
    let was := (b.chan n).herd.isOver
    let b := b.modHc n (fun h => { h with ceil := b.dirtyCeil n })
    let now := b.overCeil n
    let fast := now || b.evacuates n
    let b := (b.modHc n (fun h => { h with isOver := now, raised := fast })).countCeil n
    b.when (now && !was) (·.note 0x25 12 0))
  b.when (channels.any b.overCeil) (·.modHerd (fun h => { h with overStrides := cnt32 h.overStrides 1 }))

/-- Inbound use is averaged over 1,024 strides (R115). -/
def Bridge.inbound (n : Nat) (b : Bridge) : Bridge :=
  let use := (b.chan n).sch.inbUse
  let last := decide (b.stride % 1024 = 0)
  b.modHc n (fun h =>
    if last then { h with inbAvg := h.inbSum + use, inbSum := 0 } else { h with inbSum := h.inbSum + use })

/-- Lines of host reads that were set aside are asked for again on the channel their segment resolves on now (R97, R303). -/
def Bridge.reissueHeld (b : Bridge) : Bridge :=
  b.each b.port.reads (fun e b =>
    b.each ((List.range e.2.lines.length).zip e.2.lines) (fun x b =>
      if x.2.done.isSome || x.2.ch.isSome then b
      else match b.segOfLine x.2.ln with
        | some (_, s) =>
          if s.valid && !b.chFenced s.chan then b.reissue e.1 x.1 s.chan else b.linePoison e.1 x.1
        | none => b.linePoison e.1 x.1))

/-- Lane errors are charged afresh in each stride (R264). -/
def Phy.tick (p : Phy) : Phy := { p with lane := Tbl.mapv (fun _ l => { l with charged := 0 }) p.lane }

/-- Rounds of coalescing groups count the ticks (R423). -/
def Icu.tick (u : Icu) : Icu := { u with group := Tbl.mapv (fun _ g => if g.round then { g with ticks := g.ticks + 1 } else g) u.group }

/-- What the tick does in each channel (R31, R35, R89, R92, R235): the books of the stride that ends close, and the new one is planned.
In Doze no unit is scheduled (R497). Entries wait while the channel's maps are not loaded (R94). -/
def Bridge.channelTick (n : Nat) (b : Bridge) : Bridge :=
  let load := b.devLoad n
  let b := b.inbound n
  let b := b.modSch n (fun s => { s with devload := load })
  let b := (b.modAcc n (fun a => { a with waited := false })).modPhy n Phy.tick
  let b := b.modLl n (fun l => { l with msyncDue := l.msyncDue || decide (b.stride % 64 = 0) })
  b.planChannel n |>.when (b.chan n).acc.mapLoaded (fun b => b.offerAll n)

/-- Translation-cache entries that a tick's changes touch are invalid: those whose descriptor is another than before, its NEAR_COUNT among its
fields (R72, R78). -/
def Bridge.dropStale (was b : Bridge) : Bridge :=
  let same : Nat → Nat → Bool := fun n idx =>
    let key := n * 2 ^ 22 + idx
    decide (Tbl.find key was.herd.desc = Tbl.find key b.herd.desc)
      && (Tbl.find key b.herd.desc).all (fun d => decide (was.nearCount n d.ext = b.nearCount n d.ext))
  b.each channels (fun n b => b.modAcc n (fun a => { a with cached := a.cached.filter (fun e => same n e.1) }))

/-- The first half of a tick (R31): heat, switch-overs, demotions, folds, and evacuations that have stopped. -/
def Bridge.tickMaps (b : Bridge) : Bridge :=
  let b := b.modFuses (fun f => { f with due := f.due || decide (b.stride % 2 ^ 20 = 0) })
  let b := (b.modKnl (fun k => { k with timeCopy := b.glb.time })).decayTick.applySamples
  let c := ((b.applyPrepared).applyDemotions).prepareFolds
  b.dropStale (c.each channels (fun n b => b.evacStopped n))

/-- The second half of a tick (R31): the Leash, ceilings, and the channels' plans. -/
def Bridge.tickPlans (b : Bridge) : Bridge :=
  let b := b.each channels (fun n b => b.modSch n (fun s => { s with c := b.capNow n }))
  let b := (b.leashTick).ceilings
  let doze := decide (3 ≤ b.pwr.state) && decide (b.pwr.state ≤ 4)
  b.when (!doze) (fun b => (b.each channels (fun n b => b.channelTick n)).waitTick)

/-- Rounds of coalescing groups at a tick. -/
def Bridge.icuTick (b : Bridge) : Bridge := { b with icu := b.icu.tick }

/-- The tick that opens a stride (R31): switches take effect, the Leash refills, ceilings and plans are taken. -/
def Bridge.tick (b : Bridge) : Bridge :=
  let b := b.modGlb (fun g => { g with sealedNow := false, glideDone := false })
  if b.heldAll then b
  else ((((((b.icuTick.tickMaps).tickPlans).reissueHeld).wakeTick.journalTick).plBudget).levelUp).modPort HostPort.trafficTick

/-- The results of a change at the end of the glide: PERSIST_SET reports the channels over their ceilings (R371). -/
def Bridge.glideResults (p : Prepared) (b : Bridge) : List Byte :=
  match p.change with
  | .persist _ => leBytes 2 (packBits b.overCeil 16)
  | _ => p.results

/-- What the tick makes due and the table has rows for, where no command has asked for it: leaks, ageing, heat decay, resynchronisations,
the fuses read again, rounds of coalescing groups (R47, R110, R294, R386, R414, R423, R478). -/
def Bridge.tickDue (b : Bridge) : Bridge :=
  if b.heldAll then b
  else
    let b := doFuseReverify <| doHeatDecay (b.each channels (fun n b => doMsyncStart n (doYellowAgeing n b))).leakAll
    b.each (Tbl.keys b.icu.group) (fun g b =>
      let x := b.icu.grp g
      if x.round ∧ x.timeTh ≤ x.ticks then doIcuGroupTimeExpiry g b else b)

/-- FCLK 32: the plan is sealed, and what the tick made due is done by then (R31, R39). -/
def Bridge.sealPlan (b : Bridge) : Bridge :=
  let b := b.modGlb (fun g => { g with sealedNow := true })
  if b.heldAll then b else b.tickDue.each channels (fun n b => b.sealChannel n)

/-- Some unit admitted and not finished may still use a location (R119). -/
def Bridge.locBusy (b : Bridge) (l : Loc) : Bool := channels.any (fun n => (b.chan n).sch.running.any (fun r => r.places.any (fun p => decide (p.2 = l))))

/-- Locations reserved since a tick are freed, but those which a unit in overrun still uses (R119). -/
def Bridge.freeIdle (b : Bridge) : Bridge :=
  let idle := b.herd.freeing.filter (fun e => !b.locBusy e.1)
  (b.modHerd (fun h => { h with freeing := h.freeing.filter (fun e => !idle.contains e) })).each idle (fun e b => b.freeLoc e.1 e.2)

/-- FCLK 128: the glide ends (R31, R56, R119, R339): locations reserved since the tick are freed, and commands whose change took effect at
it are answered. -/
def Bridge.endGlide (b : Bridge) : Bridge :=
  let b := b.modGlb (fun g => { g with glideDone := true })
  if b.heldAll then b
  else
    let b := b.freeIdle
    let done := b.citan.prepared.filter (fun p => p.doneAt.isSome)
    let b := { b with citan := { b.citan with prepared := b.citan.prepared.filter (fun p => p.doneAt.isNone) } }
    b.each done (fun p b =>
      match p.cmd, p.doneAt with
      | some r, some s => b.respond r 0 0 s (b.glideResults p)
      | _, _ => b)

/-- The seal and the glide's end, where the stride that ends has not come to them. -/
def Bridge.catchUp (b : Bridge) : Bridge :=
  let b := if b.glb.sealedNow then b else b.sealPlan
  if b.glb.glideDone then b else b.endGlide

/-- STRIDE_TICK: the stride counter advances (R11, R31). -/
def doStrideTick (b : Bridge) : Bridge :=
  let b := b.catchUp
  (b.toTime ((b.glb.time / strideLen + 1) * strideLen)).tick

/-- The timestamp comes to FCLK `k` of the stride, unless it is past it. -/
def Bridge.toFclk (k : Nat) (b : Bridge) : Bridge :=
  let t := b.glb.time / strideLen * strideLen + k
  if b.glb.time < t then b.toTime t else b

/-- PLAN_SEAL: FCLK 32 of the stride; once in a stride (R31, R39). -/
def doPlanSeal (b : Bridge) : Bridge := if b.glb.sealedNow then b else (b.toFclk 32).sealPlan

/-- GLIDE_END: FCLK 128 of the stride, after the seal; once in a stride (R31, R56). -/
def doGlideEnd (b : Bridge) : Bridge := if b.glb.glideDone then b else ((doPlanSeal b).toFclk 128).endGlide

/-- One FCLK passes with no command (log entry 1): the tick, the seal and the glide's end come in their FCLK. -/
def Bridge.idle (b : Bridge) : Bridge :=
  let t := (b.glb.time + 1) % 2 ^ 64
  if t % strideLen = 0 then (doStrideTick b).tickDue
  else
    let b := b.toTime t
    if t % strideLen = 32 && !b.glb.sealedNow then b.sealPlan
    else if t % strideLen = 128 && !b.glb.glideDone then b.endGlide
    else b

end Sys2Proof.Machine
end

