-- ==== Sys2Proof/Machine/Flags.lean ====
section
/-! DEFINITION. The status words that registers and responses show: bits packed from the state (R26, R28, R273, R313, R524). -/

namespace Sys2Proof.Machine

open Sys2Proof

/-- A mask with a bit for each channel. -/
def channelMask (f : Nat → Bool) : Nat := packBits f 16

/-- GLB_ID of stepping A0 (R25). -/
def glbId : Nat := 0x71601000

/-- GLB_SERVICE (R26). -/
def Bridge.glbService (b : Bridge) : Nat :=
  packWord [(0, 3, b.glb.level), (8, 8, b.glb.baseCause), flagAt 16 (b.glb.tampered || decide (b.glb.baseCause = 1))]

/-- GLB_BOOT (R26). -/
def Bridge.glbBoot (b : Bridge) : Nat := packWord [(0, 2, b.boot.slot), flagAt 2 b.boot.rom]

/-- GLB_UNIT_FENCED (R28). -/
def Bridge.glbUnitFenced (b : Bridge) : Nat :=
  packWord [(0, 16, b.glb.chFenced), (16, 5, b.glb.coreFenced), (21, 2, b.glb.stackFenced), flagAt 23 b.herd.fenced,
    flagAt 24 (b.copyLost 0), flagAt 25 (b.copyLost 1), flagAt 26 b.icu.fenced,
    flagAt 27 b.ten.fenced, flagAt 28 b.knl.lost, flagAt 29 b.tlm.fenced]

/-- A channel uses its spare lane in at least one direction (R28). -/
def Phy.spareIn (p : Phy) : Bool := bitOf p.outMap 4 || bitOf p.inMap 4

/-- GLB_SPARE_USE (R28). -/
def Bridge.glbSpareUse (b : Bridge) : Nat :=
  packWord [(0, 16, channelMask (fun n => (b.chan n).phy.spareIn)), flagAt 16 b.glb.coreSpare]

/-- GLB_SPARE_HBM (R28). -/
def Bridge.glbSpareHbm (b : Bridge) : Nat :=
  packWord [(0, 16, channelMask (fun n => bitOf (b.chan n).rtv.active 4)), (16, 2, b.glb.hbmSpare.1), (18, 2, b.glb.hbmSpare.2)]

/-- The code of a training state (R273). -/
def PhyState.code : PhyState → Nat
  | .disabled => 0
  | .detect => 1
  | .sync => 2
  | .offer => 3
  | .confirm => 4
  | .rateSwitch => 5
  | .equalize => 6
  | .align => 7
  | .active => 8
  | .fastRetrain => 9
  | .eidle => 10
  | .exit => 11
  | .test => 12
  | .down => 13

/-- The code of a link-layer state (R313). -/
def LlState.code : LlState → Nat
  | .down => 0
  | .init => 1
  | .up => 2
  | .paused => 3
  | .grace => 4
  | .flush => 5

/-- CHn_HTL_SLED_ID0 (R313). -/
def SledId.word0 (i : SledId) : Nat := packWord [(0, 16, i.vendor), (16, 16, i.product)]

/-- CHn_HTL_SLED_ID1 (R313). -/
def SledId.word1 (i : SledId) : Nat :=
  packWord [(0, 8, i.revision), (8, 14, i.capGib), flagAt 22 i.persist, flagAt 23 i.restored, flagAt 24 i.selfRefresh, flagAt 25 i.energyLow]

/-- CHn_HTL_SLED_ID2 (R313). -/
def SledId.word2 (i : SledId) : Nat := packWord [(0, 16, i.saveMs), (16, 16, i.rev)]

/-- The pins of a position as SLED_STATUS and CHn_SVC_STATUS show them (R376): PRSNT_N low, PWREN high, power LED lit, attention LED
lit, attention LED blinking. -/
def Service.pinBits (s : Service) : Nat :=
  packWord [flagAt 0 s.present, flagAt 1 s.state.powered, flagAt 2 (decide (s.state.led ≠ 0)), flagAt 3 s.attnLit]

/-- The serial number in fuse words 0 and 1 (R199, R476). -/
def Bridge.serial (b : Bridge) : Nat := b.fuse 0 + 2 ^ 32 * b.fuse 1

end Sys2Proof.Machine
end

