-- ==== Sys2Proof/Machine/Citan.lean ====
section
/-! DEFINITION. Taking a posted Citan command: the checks that every command meets, in the order the rules give them, and its
answer (R350-R360). -/

namespace Sys2Proof.Machine

open Sys2Proof

/-- A command as its slot's buffer gives it (R350). -/
structure Cmd where
  /-- R330, R350: where it stands, its opcode and TAG -/
  ref : CmdRef
  /-- R350: LENGTH -/
  len : Nat
  /-- R329: the 256 bytes of the command buffer -/
  bytes : List Byte

/-- The field of `n` bytes at a command-buffer offset (R4, R350). -/
def Cmd.u (c : Cmd) (off n : Nat) : Nat := fieldAt off n c.bytes

/-- The command in a slot (R350). -/
def Bridge.cmdOf (b : Bridge) (fn slot : Nat) : Cmd :=
  let bytes := bufBytes ((b.mbx fn).slot slot).cmd
  { ref := b.slotRef fn slot, len := fieldAt 2 2 bytes, bytes := bytes }

/-- A status that ends a command, with DETAIL and the result bytes that go with it (R351, R352). -/
abbrev Answer := Nat × Nat × List Byte

/-- INVALID at an offset where a field is bad (R352). -/
def badAt (off : Nat) (bad : Bool) : Option Answer := if bad then some (2, off, []) else none

/-- INVALID at the first byte of a reserved range that is not 0 (R350). -/
def Cmd.reserved (c : Cmd) (off n : Nat) : Option Answer := (nonZeroFrom off n c.bytes).map (fun o => (2, o, []))

/-- A status without results where a condition of the objects holds (R352). -/
def failIf (bad : Bool) (status : Nat) : Option Answer := if bad then some (status, 0, []) else none

/-- The first check that fails. -/
def firstBad : List (Option Answer) → Option Answer
  | [] => none
  | some r :: _ => some r
  | none :: t => firstBad t

/-- The caller classes (R353). -/
inductive Caller where
  | any | own | manager
  deriving DecidableEq, Repr

/-- The commands of a group are numbered from 1 (R364-R380). -/
def groupSize (g : Nat) : Nat :=
  match g with
  | 1 => 10
  | 2 => 9
  | 3 => 8
  | 4 => 2
  | 5 => 6
  | 6 => 3
  | 7 => 8
  | 8 => 2
  | 9 => 3
  | 10 => 6
  | _ => 0

/-- An opcode that names a command (R350, R352). -/
def knownOp (op : Nat) : Bool := decide (1 ≤ op % 256) && decide (op % 256 ≤ groupSize (op / 256))

/-- What a function's mailbox serves in the present service state (R354). -/
def Bridge.serves (b : Bridge) (fn op : Nat) : Bool :=
  if fn ≠ 0 ∧ (b.boot.rom ∨ b.glb.level = 1) then false
  else if b.boot.rom then decide (op = 0x101) || decide (op = 0x102) || decide (op = 0x103) || decide (op = 0x109)
  else if b.glb.level = 1 then decide (op / 256 = 1)
  else if fn ≠ 0 ∧ (b.inst fn).state ≠ .live then decide (op = 0x101) || decide (op = 0x102)
  else true

/-- Resident firmware, or the boot ROM's handler, serves mailboxes: LEVEL has left 0, no power-loss sequence runs, and the bridge is
in Run or still entering Doze (R354, R443, R496). -/
def Bridge.citanServes (b : Bridge) : Bool :=
  decide (1 ≤ b.glb.level) && !b.heldAll && decide (b.pwr.state ≤ 2) && decide (b.jrn.step = 0) && !b.pwr.perstLow

/-- The function visited at a place of the round: PF0, VF1 to VF127, PF0 again, VF128 to VF255 (R355). -/
def visitFn (p : Nat) : Nat := if p = 128 then 0 else if p < 128 then p else p - 1

/-- The next place of the round whose function has a command posted (R355). -/
def Bridge.turn (b : Bridge) : Option Nat :=
  ((List.range 257).map (fun k => (b.citan.visit + k) % 257)).find? (fun p =>
    (List.range 8).any (fun k => decide (((b.mbx (visitFn p)).slot k).state = .posted)))

/-- The function of that place is visited (R355). -/
def Bridge.visited (b : Bridge) : Bridge :=
  match b.turn with
  | some p => { b with citan := { b.citan with visit := (p + 1) % 257 } }
  | none => b

/-- It is a function's turn, and a slot holds its oldest posted command (R330, R355). -/
def Bridge.nextPosted (b : Bridge) (fn slot : Nat) : Bool :=
  let m := b.mbx fn
  let s := m.slot slot
  decide (s.state = .posted) && (List.range 8).all (fun k => decide ((m.slot k).state ≠ .posted) || decide (s.order ≤ (m.slot k).order))
    && b.turn.any (fun p => decide (visitFn p = fn))

/-- The checks that come before a command's own, in the order of R352. -/
def Bridge.commonCheck (c : Cmd) (cls : Caller) (lenOk : Bool) (b : Bridge) : Option Answer :=
  firstBad [
    failIf (!b.serves c.ref.fn c.ref.op) 3,
    badAt 0 (!knownOp c.ref.op),
    failIf (match cls with
      | .any => false
      | .own => decide (c.ref.fn ≠ 0) && decide (c.u 16 1 ≠ c.ref.fn)
      | .manager => decide (c.ref.fn ≠ 0)) 3,
    badAt 2 (!lenOk),
    c.reserved 8 8,
    badAt 4 (b.citan.ops.any (fun o => o.running && decide (o.fn = c.ref.fn) && decide (o.tag = c.ref.tag)))]

/-- Resident firmware takes the oldest posted command of the function whose turn it is, where it is the row's own or has no row, and the first check
that fails answers it; else it acts (R352, R355). -/
def Bridge.citanRun (op : Nat) (cls : Caller) (lenOk : Cmd → Bool) (check : Cmd → Bridge → Option Answer)
    (act : Cmd → Bridge → Bridge) (fn slot : Nat) (b : Bridge) : Bridge :=
  let c := b.cmdOf fn slot
  if b.citanServes && b.nextPosted fn slot && (decide (c.ref.op = op) || !knownOp c.ref.op) then
    let b := b.visited
    match b.commonCheck c cls (lenOk c) with
    | some r => b.respond c.ref r.1 r.2.1 0 r.2.2
    | none =>
      match check c b with
      | some r => b.respond c.ref r.1 r.2.1 0 r.2.2
      | none => act c b
  else b

/-- A command that changes nothing at a tick completes with OK (R351). -/
def Bridge.ok (c : Cmd) (results : List Byte) (b : Bridge) : Bridge := b.respond c.ref 0 0 0 results

/-- A command's change is prepared for the next tick, and answered when it has taken effect (R31, R339, R439). -/
def Bridge.atTick (c : Cmd) (ch : Change) (records : Nat) (results : List Byte) (b : Bridge) : Bridge :=
  let b := b.taken c.ref
  { b with citan := { b.citan with prepared := b.citan.prepared ++
      [{ change := ch, records := records, awaits := decide (records ≠ 0), cmd := some c.ref, results := results }] } }


/-- A command's parameters (R351). -/
def Cmd.params (c : Cmd) : List Byte := bytesAt 16 c.len c.bytes

/-- A setting is journaled: the parameters of the last accepted command (R434, R438). -/
def Bridge.logSetting (c : Cmd) (b : Bridge) : Bridge :=
  (b.modJrn (fun j => { j with settings := Tbl.put c.ref.op c.params j.settings })).logGroup (settingRecs c.ref.op c.params)

/-- A setting's change takes effect at the next tick whatever the journal's records of it do (R40, R131, R132, R438). -/
def Bridge.settingAtTick (c : Cmd) (ch : Change) (b : Bridge) : Bridge := (b.logSetting c).atTick c ch 0 []

/-- A command of groups 0x02, 0x03, 0x05 and 0x07 that would journal a change is BUSY while the journal holds changes back (R442), and
FENCED once both journal copies are lost (R23). -/
def Bridge.jrnChecks (b : Bridge) : List (Option Answer) :=
  [failIf (!b.boot.jloc.isEmpty && decide ((b.jrn.at 0).state ≠ 1) && decide ((b.jrn.at 1).state ≠ 1)) 7, failIf b.jrn.hold 1]

/-- An operation cannot begin: 16 run already, or one runs on the object (R360). -/
def Bridge.opBusy (obj : Nat) (b : Bridge) : Bool :=
  decide (16 ≤ (b.citan.ops.filter (fun o => o.running)).length) || b.citan.ops.any (fun o => o.running && decide (o.obj = obj))

/-- An operation begins (R360). -/
def Bridge.beginOp (c : Cmd) (obj progress : Nat) (b : Bridge) : Bridge :=
  { b with citan := { b.citan with ops := b.citan.ops ++
      [{ fn := c.ref.fn, tag := c.ref.tag, op := c.ref.op, obj := obj, progress := progress }] } }

/-- An operation begins in the stride that runs, and its command completes (R360). -/
def Bridge.startOp (c : Cmd) (obj progress : Nat) (b : Bridge) : Bridge :=
  (b.beginOp c obj progress).respond c.ref 0 0 b.stride []

/-- The object of an operation on a unit (R360). -/
def unitObj (kind unit sub : Nat) : Nat := if kind = 1 then 65536 + unit else kind * 65536 + unit * 256 + sub

/-- An instance that a manager's command cannot name now: BUSY while it is being torn down or created (R363, R368). -/
def Bridge.instBusy (i : Nat) (b : Bridge) : Bool := decide ((b.inst i).state = .tearing) || decide ((b.inst i).state = .creating)

/-- COMMAND_TIMEOUT: a command that has not completed within its bound completes with TIMEOUT (R358): a posted or taken one. What it
has prepared still takes effect (R359). -/
def doCommandTimeout (fn slot : Nat) (b : Bridge) : Bridge :=
  let r := b.slotRef fn slot
  let b := b.respond r 8 0 0 []
  { b with citan := { b.citan with
    waits := b.citan.waits.filter (fun w => decide (w.1 ≠ r)),
    prepared := b.citan.prepared.map (fun p => if p.cmd = some r then { p with cmd := none } else p) } }

end Sys2Proof.Machine
end

