-- ==== Sys2Proof/Machine/Group1.lean ====
section
/-! DEFINITION. Citan group 0x01: identity and diagnostics (R364, R365), with the ends of lane tests and self-tests (R271, R504,
R505). -/

namespace Sys2Proof.Machine

open Sys2Proof

/-- IDENTIFY (R364). -/
def doIdentify (fn slot : Nat) (b : Bridge) : Bridge :=
  b.citanRun 0x101 .any (fun c => decide (c.len = 0)) (fun _ _ => none)
    (fun c b => b.ok c (leBytes 2 0x100 ++ leBytes 1 b.boot.slot ++ leBytes 1 b.glb.level
      ++ leBytes 4 (if b.boot.rom then 0 else (b.fwSlot b.boot.slot).version) ++ leBytes 4 glbId ++ leBytes 8 b.serial
      ++ leBytes 1 b.glb.baseCause ++ leBytes 1 (popCount b.glb.coreActive 5) ++ leBytes 1 c.ref.fn ++ leBytes 1 0)) fn slot

/-- ECHO (R364). -/
def doEcho (fn slot : Nat) (b : Bridge) : Bridge :=
  b.citanRun 0x102 .any (fun c => decide (c.len ≤ 232)) (fun _ _ => none)
    (fun c b => b.ok c (bytesAt 16 c.len c.bytes)) fn slot

/-- A channel's summary in SERVICE_REPORT (R364). -/
def Bridge.channelSummary (b : Bridge) (n : Nat) : Nat :=
  let c := b.chan n
  packWord [(0, 3, c.ll.state.code), flagAt 3 c.svc.present, flagAt 4 c.svc.admitted, flagAt 5 c.herd.evac, flagAt 6 (b.chFenced n),
    flagAt 7 c.ll.id.persist]

/-- SERVICE_REPORT (R364). -/
def doServiceReport (fn slot : Nat) (b : Bridge) : Bridge :=
  b.citanRun 0x103 .manager (fun c => decide (c.len = 0)) (fun _ _ => none)
    (fun c b => b.ok c (leBytes 4 b.glbUnitFenced ++ leBytes 4 b.glbSpareUse ++ leBytes 4 b.glbSpareHbm ++ leBytes 4 b.glb.veto
      ++ channels.flatMap (fun n => leBytes 2 (b.channelSummary n)))) fn slot

/-- Segments of a channel whose mirror is not whole (R520). -/
def Bridge.degradedOn (b : Bridge) (n : Nat) : Nat :=
  (b.ten.seg.filter (fun e => e.2.valid && e.2.mirrored && e.2.degraded && decide (e.2.res.1 = n))).length

/-- PROGRESS of a running operation, as its command states (R364, R369, R372, R376, R380). -/
def Bridge.progressOf (b : Bridge) (o : Operation) : Nat :=
  let n := o.obj % 65536
  if o.op = 0x307 then b.evacLeft n
  else if o.op = 0x702 then (b.evacExts n).length
  else if o.op = 0x708 then b.degradedOn n
  else o.progress

/-- OP_STATUS (R364): the running operation of that TAG, or the one that ended last. -/
def doOpStatus (fn slot : Nat) (b : Bridge) : Bridge :=
  b.citanRun 0x104 .any (fun c => decide (c.len = 4)) (fun _ _ => none)
    (fun c b =>
      let mine := b.citan.ops.filter (fun o => decide (o.tag = c.u 16 4) && (decide (c.ref.fn = 0) || decide (o.fn = c.ref.fn)))
      let op := match mine.find? (fun o => o.running) with
        | some o => some o
        | none => mine.getLast?
      b.ok c (match op with
        | none => leBytes 16 0
        | some o =>
          if o.running then leBytes 1 1 ++ leBytes 1 0 ++ leBytes 2 o.op ++ leBytes 4 (b.progressOf o) ++ leBytes 8 0
          else leBytes 1 2 ++ leBytes 1 o.status ++ leBytes 2 o.op ++ leBytes 4 0 ++ leBytes 8 o.endStride)) fn slot

/-- A channel is under a lane test, an admission, or an operation that holds it (R352, R360). -/
def Bridge.lanesBusy (b : Bridge) (n : Nat) : Bool :=
  (b.phy n).testRate.isSome || b.chanBusy n || decide ((b.chan n).svc.state = .admitting)

/-- LANE_TEST (R271, R364, R365): the channel's lanes train towards TEST at the commanded rate. -/
def doLaneTest (fn slot : Nat) (b : Bridge) : Bridge :=
  b.citanRun 0x105 .manager (fun c => decide (c.len = 8))
    (fun c b =>
      let n := c.u 16 1
      firstBad [badAt 16 (decide (16 ≤ n)), badAt 17 (decide (8 ≤ c.u 17 1)), badAt 18 (decide (4 ≤ c.u 18 1)), c.reserved 19 1,
        badAt 20 (decide (c.u 20 2 = 0) || decide (1000 < c.u 20 2)), c.reserved 22 2,
        failIf ((!b.chFenced n && (b.chan n).svc.admitted) || b.lanesBusy n) 1])
    (fun c b =>
      let n := c.u 16 1
      let b := (b.taken c.ref).modPhy n (fun p => { (p.allLanes (fun l => { l with testBase := (l.prbsBits, l.prbsErr) })) with
        attempt := 0, fail := 0, test := c.u 17 1, testRate := some (c.u 18 1) })
      let b := (b.lanesToDetect n).linkFalls n
      { b with citan := { b.citan with waits := b.citan.waits ++ [(c.ref, 2 ^ n)] } }) fn slot

/-- The results of a lane test (R364): what the checkers counted since it began. -/
def Phy.testResults (p : Phy) (fail : Nat) : List Byte :=
  [0, 1, 2, 3, 4].flatMap (fun k =>
    let l := p.ln k
    leBytes 8 (l.prbsBits - l.testBase.1) ++ leBytes 4 (l.prbsErr - l.testBase.2) ++ leBytes 1 (b2n l.prbsLock) ++ leBytes 3 0) ++ leBytes 1 fail

/-- A lane test is over: its command is answered. -/
def Bridge.endLaneTest (n fail : Nat) (b : Bridge) : Bridge :=
  let results := (b.phy n).testResults fail
  let mine := b.citan.waits.filter (fun w => decide (w.1.op = 0x105 ∧ w.2 = 2 ^ n))
  let b := { b with citan := { b.citan with waits := b.citan.waits.filter (fun w => !decide (w.1.op = 0x105 ∧ w.2 = 2 ^ n)) } }
  let b := b.modPhy n (fun p => { p with test := 0, testRate := none })
  b.each mine (fun w b => b.respond w.1 0 0 0 results)

/-- LANE_TEST_DURATION_EXPIRY: DURATION_MS has passed in TEST (R260, R271): the lanes idle and return to DETECT. The bits and
mismatches that each lane's checker has counted since it last locked come with it. A confirm set whose TEST field was 0 leaves the
lanes in ACTIVE. -/
def doLaneTestDurationExpiry (n : Nat) (counts : List (Nat × Nat)) (b : Bridge) : Bridge :=
  let p := b.phy n
  if p.testRate.isSome && (decide (p.state = .test) || (decide (p.test = 0) && decide (p.state = .active))) then
    let b := b.each [0, 1, 2, 3, 4] (fun k b =>
      let x := (counts[k]?).getD (0, 0)
      b.modLane n k (fun l => if l.prbsLock then { l with prbsBits := (l.prbsBits + x.1) % 2 ^ 64, prbsErr := cnt32 l.prbsErr x.2 } else l))
    let b := b.endLaneTest n 0
    let b := (b.emit (.lanes n .nothing)).modPhy n (fun p => { p with attempt := 0 })
    (b.lanesToDetect n).linkFalls n
  else b

/-- Lane tests whose training has failed three times are answered with its failure code (R260, R364). -/
def Bridge.testFailures (b : Bridge) : Bridge :=
  b.each (channels.filter (fun n => (b.phy n).testRate.isSome && decide ((b.phy n).state = .down))) (fun n b =>
    b.endLaneTest n (b.phy n).fail)

/-- The unit of a self-test is fenced or evacuated (R59, R365): a spare that is not in service counts as fenced (R504). A channel is
evacuated that has no sled admitted and resolves nothing. -/
def Bridge.testable (kind unit sub : Nat) (b : Bridge) : Bool :=
  match kind with
  | 1 => b.chFenced unit
      || (!(b.chan unit).svc.admitted && b.ten.seg.all (fun e => decide (e.2.res.1 ≠ unit) && decide (e.2.alt.1 ≠ unit || !e.2.mirrored)))
  | 2 => bitOf (b.chan unit).rtv.fenced sub || !bitOf (b.chan unit).rtv.active sub
  | _ =>
    let used := if unit = 0 then b.glb.hbmSpare.1 else b.glb.hbmSpare.2
    b.glb.pcFenced.contains (unit * 64 + sub) || b.glb.pcSpared.contains (unit * 64 + sub) || bitOf b.glb.stackFenced unit
      || decide (32 + used ≤ sub)

/-- A kind's unit and part are in range (R364, R372): channel, retriever lane, pseudo-channel, musher core, HTL lane. -/
def unitChecks (c : Cmd) (kinds : Nat) : List (Option Answer) :=
  let k := c.u 16 1
  let u := c.u 17 1
  let s := c.u 18 1
  [badAt 16 (decide (k = 0) || decide (kinds < k)),
   badAt 17 (match k with
    | 3 => decide (2 ≤ u)
    | 4 => decide (5 ≤ u)
    | _ => decide (16 ≤ u)),
   badAt 18 (match k with
    | 2 => decide (5 ≤ s)
    | 3 => decide (34 ≤ s)
    | 5 => decide (16 ≤ s) || decide (5 ≤ s % 8)
    | _ => decide (s ≠ 0))]

/-- SELF_TEST (R59, R364, R365, R504). -/
def doSelfTest (fn slot : Nat) (b : Bridge) : Bridge :=
  b.citanRun 0x106 .manager (fun c => decide (c.len = 4))
    (fun c b => firstBad (unitChecks c 3 ++ [badAt 19 (decide (c.u 19 1 = 0) || decide (2 < c.u 19 1)),
      failIf (!b.testable (c.u 16 1) (c.u 17 1) (c.u 18 1) || b.opBusy (unitObj (c.u 16 1) (c.u 17 1) (c.u 18 1))) 1]))
    (fun c b =>
      let kind := c.u 16 1
      let steps := if c.u 19 1 = 1 then (if kind = 1 then 3 else 1) else (if kind = 1 then 7 else 3)
      let b := if kind = 2 then b.modRtv (c.u 17 1) (fun r => { r with test := putBit r.test (c.u 18 1) true }) else b
      b.startOp c (unitObj kind (c.u 17 1) (c.u 18 1)) steps) fn slot

/-- SELF_TEST_END (R504, R505): RESULT goes into OPERATION_DONE; a failure is a FATAL event of the unit's own source. The unit stays
as it was: a pseudo-channel that failed is out of service already. -/
def doSelfTestEnd (kind unit sub result : Nat) (b : Bridge) : Bridge :=
  match b.opOn 0x106 (unitObj kind unit sub) with
  | none => b
  | some o =>
    let b := if kind = 2 then b.modRtv unit (fun r => { r with test := putBit r.test sub false }) else b
    let b := b.endOp o 0 (leBytes 4 result)
    if result % 2 ^ 32 = 0 then b
    else
      match kind with
      | 1 => b.note unit 3 result
      | 2 => b.note unit (5 + sub) result
      | _ =>
        let due := b.faults.react
        (b.note (0x25 + unit) 10 result).modFlt (fun f => { f with react := due })

/-- DIAG_HOLD (R365). -/
def doDiagHold (fn slot : Nat) (b : Bridge) : Bridge :=
  b.citanRun 0x107 .manager (fun c => decide (c.len = 1)) (fun c _ => badAt 16 (decide (2 ≤ c.u 16 1)))
    (fun c b => ({ b with boot := { b.boot with hold := decide (c.u 16 1 = 1) } }).ok c []) fn slot

/-- DIAG_RELEASE (R365): start-up goes on from where the hold stopped it. -/
def doDiagRelease (fn slot : Nat) (b : Bridge) : Bridge :=
  b.citanRun 0x108 .manager (fun c => decide (c.len = 0))
    (fun _ b => badAt 0 (!b.boot.heldAt || b.jrn.replaying || b.pwr.levelDue))
    (fun c b => (({ b with boot := { b.boot with hold := false } }).ok c []).loadMaps) fn slot

/-- A tamper-log entry's 12 bytes (R463). -/
def TamperEntry.bytes (e : TamperEntry) : List Byte :=
  leBytes 8 e.time ++ leBytes 1 e.epoch ++ leBytes 1 e.cause ++ leBytes 2 e.detail

/-- The tamper log, oldest first; an empty entry reads zeros (R463). -/
def Kennel.logBytes (k : Kennel) : List Byte :=
  let first := if k.wrapped then k.next else 0
  (List.range 16).flatMap (fun j =>
    match Tbl.find ((first + j) % 16) k.log with
    | some e => e.bytes
    | none => leBytes 12 0)

/-- TAMPER_REPORT (R364, R463). -/
def doTamperReport (fn slot : Nat) (b : Bridge) : Bridge :=
  b.citanRun 0x109 .manager (fun c => decide (c.len = 0)) (fun _ _ => none)
    (fun c b => b.ok c (leBytes 1 (b2n b.knl.latch) ++ leBytes 1 0 ++ leBytes 2 b.knl.count ++ b.knl.logBytes)) fn slot

/-- MAC of AUTH is HMAC-SHA-384 under RELEASE_KEY, fuse words 37-44, over AUTH's bytes 0-15 (R464). -/
def Cmd.macGood (c : Cmd) (b : Bridge) : Bool :=
  decide ((bytesAt 32 48 c.bytes).map (fun x => x.toNat)
    = hmac384 ((List.range 8).flatMap (fun k => natBytes 4 (b.fuse (37 + k)))) ((bytesAt 16 16 c.bytes).map (fun x => x.toNat)))

/-- TAMPER_RELEASE (R365, R464, R465): AUTH names the tamper counter and the serial number, and its MAC is checked once a release key
is programmed. -/
def doTamperRelease (fn slot : Nat) (b : Bridge) : Bridge :=
  b.citanRun 0x10A .manager (fun c => decide (c.len = 64))
    (fun c b => firstBad [badAt 16 (decide (c.u 16 2 ≠ b.knl.count)), c.reserved 18 6, badAt 16 (decide (c.u 24 8 ≠ b.serial)),
      badAt 16 (bitOf (b.fuse 3) 3 && !c.macGood b), failIf b.knl.lost 7, failIf (decide (b.knl.active ≠ 0)) 6])
    (fun c b =>
      let b := b.modKnl (fun k => { k with latch := false })
      (if b.glb.level = 1 then b else b.ensureKek.level 931 true).ok c []) fn slot

end Sys2Proof.Machine
end

