-- ==== Sys2Proof/Machine/Group2.lean ====
section
/-! DEFINITION. Citan group 0x02: instances (R317-R321, R366-R368). -/

namespace Sys2Proof.Machine

open Sys2Proof

/-- One direction of a Leash profile at a command-buffer offset (R367). -/
def Cmd.policer (c : Cmd) (off : Nat) (aware : Bool) (overhead : Nat) : Policer :=
  { aware := aware, overhead := overhead, cir := c.u off 4, cbs := c.u (off + 4) 4, pir := c.u (off + 8) 4, pbs := c.u (off + 12) 4 }

/-- The resources at bytes 18-75 of INST_CREATE and INST0_SET (R367). -/
def Cmd.grant (c : Cmd) : Grant :=
  let f := c.u 40 1
  { weight := c.u 18 1, rings := c.u 19 1, vectors := c.u 20 1, pre := c.u 21 1, chMask := c.u 22 2
    plain := c.u 24 4, mirrored := c.u 28 4, firstDpa := c.u 32 4, quota := c.u 36 4
    leashOn := bitOf f 0, rfc4115 := bitOf f 1
    rd := c.policer 44 (bitOf f 2) (c.u 41 1), wr := c.policer 60 (bitOf f 3) (c.u 42 1) }

/-- The checks of one direction of a Leash profile (R326): each at the lower offset of the fields it relates (R351). -/
def Cmd.policerChecks (c : Cmd) (off : Nat) (rfc4115 : Bool) : List (Option Answer) :=
  let cir := c.u off 4
  let cbs := c.u (off + 4) 4
  let pir := c.u (off + 8) 4
  let pbs := c.u (off + 12) 4
  [badAt off (decide (cbs < cir) || (!rfc4115 && decide (pir < cir))), badAt (off + 4) (decide (cbs < 4352)),
    badAt (off + 8) (decide (pbs < pir)), badAt (off + 12) (decide (pbs < 4352))]

/-- The checks of a Leash profile (R326, R367). -/
def Cmd.leashChecks (c : Cmd) : List (Option Answer) :=
  let f := c.u 40 1
  [badAt 40 (decide (16 ≤ f)), c.reserved 43 1]
    ++ (if bitOf f 0 then c.policerChecks 44 (bitOf f 1) ++ c.policerChecks 60 (bitOf f 1) else [])

/-- A DPA range overlaps that of another instance, one it is to have after a restart among them (R67, R319, R320). -/
def Bridge.dpaTaken (b : Bridge) (i first n : Nat) : Bool :=
  let hits : Grant → Bool := fun g => decide (first < g.firstDpa + g.segs) && decide (g.firstDpa < first + n)
  b.ten.inst.any (fun e => decide (e.1 ≠ i) && decide (e.2.state ≠ .none) && (hits e.2.grant || e.2.pendingGrant.any hits))
    || (decide (i ≠ 0) && b.citan.prepared.any (fun p => match p.change with
      | .inst0 g => p.doneAt.isNone && hits g
      | _ => false))

/-- The field checks of resources, in ascending order of DETAIL (R317, R320, R351, R367). -/
def Cmd.grantChecks (c : Cmd) (i : Nat) (b : Bridge) : List (Option Answer) :=
  let g := c.grant
  let range := decide (g.firstDpa < 131072) && (decide (131072 < g.firstDpa + g.segs) || b.dpaTaken i g.firstDpa g.segs)
  [badAt 18 (decide (g.weight = 0)), badAt 19 (decide (g.rings = 0) || decide (8 < g.rings)),
    badAt 20 (decide (g.vectors = 0) || decide (64 < g.vectors)), badAt 21 (decide (2 < g.pre)), badAt 22 (decide (g.chMask = 0)),
    badAt 24 ((decide (i ≠ 0) && decide (g.segs = 0)) || range), badAt 32 (decide (131072 ≤ g.firstDpa)),
    badAt 36 (decide (23068672 < g.quota))] ++ c.leashChecks

/-- Near-tier quotas of every instance but one that is not in NONE (R320). -/
def Bridge.quotaSum (b : Bridge) (but : Nat) : Nat :=
  (b.ten.inst.map (fun e => if e.1 ≠ but ∧ e.2.state ≠ .none then e.2.grant.quota else 0)).foldl (· + ·) 0

/-- MSI-X vectors that instances other than 0 hold (R241). -/
def Bridge.vectorSum (b : Bridge) : Nat :=
  (b.ten.inst.map (fun e => if e.1 ≠ 0 ∧ e.2.state ≠ .none then e.2.grant.vectors else 0)).foldl (· + ·) 0

/-- A pool lacks what an instance asks for (R320): `i` with the resources `old` asks for `g`. -/
def Bridge.poolsLack (i : Nat) (old g : Grant) (b : Bridge) : Bool :=
  let live := channels.filter (fun n => bitOf g.chMask n && !b.chFenced n)
  live.isEmpty || (decide (0 < g.mirrored) && decide (live.length < 2))
    || decide (b.herd.frames.1 + b.herd.frames.2 < b.quotaSum i + g.quota)
    || (decide (i ≠ 0) && decide (1984 < b.vectorSum + g.vectors))
    || (decide (i ≠ 0) && !b.port.cxl && decide (b.ten.vfLimit < windowLog g.segs))
    || (b.layout i old g).isNone

/-- The kennel reports a tamper (R320, R462). -/
def Bridge.tamperSet (b : Bridge) : Bool := b.knl.latch

/-- The key that an import unwraps to (R323, R460): none where VERSION or INSTANCE does not match, where no party outside knows a
generated KEK, or where RFC 3394's integrity check fails. -/
def Cmd.unwrapped (c : Cmd) (b : Bridge) : Option (BitVec 512) :=
  if c.u 80 2 = 1 ∧ c.u 82 1 = c.u 16 1 ∧ b.knl.kekProv = true then
    (keyUnwrap (natBytes 32 b.knl.kekBits.toNat) ((bytesAt 88 72 c.bytes).map (fun x => x.toNat))).map (fun l => BitVec.ofNat 512 (bytesNat l))
  else none

/-- An import's wrapped key is refused. -/
def Cmd.unwrapFails (c : Cmd) (b : Bridge) : Bool := decide (c.u 17 1 = 1) && (c.unwrapped b).isNone

/-- The kennel takes a new key for an instance, generated or imported, and seals it (R323, R458). -/
def Cmd.newKey (c : Cmd) (i : Nat) (b : Bridge) : Bridge :=
  let given := if c.u 17 1 = 1 then c.unwrapped b else none
  b.modKnl (fun k =>
    { (k.sealKey i k.nextGen) with
      nextGen := k.nextGen + 1, imported := match given with
        | some v => Tbl.put k.nextGen v k.imported
        | none => k.imported })

/-- The checks of KEY_SOURCE and WRAPPED_KEY as fields (R323, R367, R460). -/
def Cmd.keyChecks (c : Cmd) : List (Option Answer) :=
  [badAt 80 (decide (c.u 17 1 = 0) && (nonZeroFrom 80 80 c.bytes).isSome),
    if c.u 17 1 = 1 then c.reserved 83 5 else none]

/-- INST_CREATE (R320, R321, R366, R367): the instance enters CREATING with its resources reserved and its key sealed, and is switched
in once its records are written. -/
def doInstCreate (fn slot : Nat) (b : Bridge) : Bridge :=
  b.citanRun 0x201 .manager (fun c => decide (c.len = 144))
    (fun c b =>
      let i := c.u 16 1
      let st := (b.inst i).state
      firstBad ([badAt 16 (decide (i = 0) || decide (st = .live) || decide (st = .creating)), failIf (decide (st = .tearing)) 1,
        badAt 17 (decide (1 < c.u 17 1))] ++ c.grantChecks i b ++ [c.reserved 76 4] ++ c.keyChecks
        ++ [failIf b.tamperSet 6, failIf b.knl.lost 7] ++ b.jrnChecks
        ++ [failIf (b.poolsLack i {} c.grant) 4, badAt 80 (c.unwrapFails b)]))
    (fun c b =>
      let i := c.u 16 1
      let g := c.grant
      let gen := b.knl.nextGen
      let b := (b.layout i {} g).getD b
      let b := b.modInst i (fun x => { state := .creating, grant := x.grant.counting g, gen := gen, imported := decide (c.u 17 1 = 1), tagErr := x.tagErr })
      let b := c.newKey i b
      let b := { b with scan := { b.scan with done := Tbl.del i b.scan.done, rowsOf := Tbl.del i b.scan.rowsOf } }
      let p := ceilDiv g.plain 512
      let m := ceilDiv g.mirrored 512
      b.atTick c (.instCreate i) (g.plain + 2 * g.mirrored + g.segs + 6)
        (leBytes 4 p ++ leBytes 4 m ++ leBytes 1 (windowLog g.segs) ++ leBytes 3 0)) fn slot

/-- INST_TEARDOWN (R340, R366, R368). -/
def doInstTeardown (fn slot : Nat) (b : Bridge) : Bridge :=
  b.citanRun 0x202 .manager (fun c => decide (c.len = 1))
    (fun c b =>
      let i := c.u 16 1
      firstBad ([badAt 16 (decide (i = 0) || decide ((b.inst i).state = .none)), failIf (b.instBusy i) 1] ++ b.jrnChecks))
    (fun c b =>
      let i := c.u 16 1
      let b := ((b.taken c.ref).beginTeardown i (c.ref.fn, c.ref.slot, c.ref.order))
      b.prepare (.instTeardown i) ((b.inst i).grant.segs + 6)) fn slot

/-- Granules that an instance has pinned (R131). -/
def Bridge.pinnedOf (b : Bridge) (i : Nat) : Nat :=
  512 * (b.herd.desc.filter (fun e => e.2.valid && decide (e.2.inst = i) && e.2.pinNear
    && !(e.2.mirror && decide (e.2.part.1 < e.2.home.1)))).length

/-- RESOURCES of INST_QUERY (R367): instance 0 reports 64 vectors (R368). -/
def Grant.resourceBytes (g : Grant) (i resident pinned : Nat) : List Byte :=
  leBytes 1 g.weight ++ leBytes 1 g.rings ++ leBytes 1 (if i = 0 then 64 else g.vectors) ++ leBytes 1 g.pre ++ leBytes 2 g.chMask
    ++ leBytes 4 g.plain ++ leBytes 4 g.mirrored ++ leBytes 4 g.firstDpa ++ leBytes 4 g.quota ++ leBytes 4 resident ++ leBytes 4 pinned

/-- INST_QUERY (R319, R366-R368). -/
def doInstQuery (fn slot : Nat) (b : Bridge) : Bridge :=
  b.citanRun 0x203 .own (fun c => decide (c.len = 1)) (fun _ _ => none)
    (fun c b =>
      let i := c.u 16 1
      let x := b.inst i
      let res := fun (g : Grant) => g.resourceBytes i (b.residentOf i) (b.pinnedOf i)
      b.ok c (if x.state = .none then leBytes 106 0
        else leBytes 1 x.state.code
          ++ leBytes 1 (packWord [flagAt 0 x.keyValid, flagAt 1 (decide (x.grant.mirrored ≠ 0)), flagAt 2 x.pendingGrant.isSome])
          ++ res x.grant ++ x.grant.leashBytes ++ leBytes 8 x.switched
          ++ (if i = 0 then res (x.pendingGrant.getD x.grant) else leBytes 30 0))) fn slot

/-- An instance that a command of the manager must find whole (R363, R368): in NONE it is no such object, and while it is being
created or torn down it is BUSY. -/
def Bridge.wholeInst (i : Nat) (b : Bridge) : Option Answer × Option Answer :=
  (badAt 16 (decide ((b.inst i).state = .none)), failIf (b.instBusy i) 1)

/-- SEG_READ (R71, R366, R368). -/
def doSegRead (fn slot : Nat) (b : Bridge) : Bridge :=
  b.citanRun 0x204 .manager (fun c => decide (c.len = 9))
    (fun c b =>
      let i := c.u 16 1
      let n := c.u 24 1
      firstBad [(b.wholeInst i).1, c.reserved 17 3,
        badAt 20 (decide ((b.inst i).state = .live) && decide ((b.inst i).grant.segs < c.u 20 4 + n)),
        badAt 24 (decide (n = 0) || decide (28 < n)), (b.wholeInst i).2])
    (fun c b => b.ok c ((List.range (c.u 24 1)).flatMap (fun k =>
      leBytes 8 (match b.segAt (c.u 16 1) (c.u 20 4 + k) with
        | some e => e.word
        | none => 0)))) fn slot

/-- INST0_SET (R319, R366, R368): checked as INST_CREATE checks its request, against the pools with what instance 0 holds. -/
def doInst0Set (fn slot : Nat) (b : Bridge) : Bridge :=
  b.citanRun 0x205 .manager (fun c => decide (c.len = 60))
    (fun c b => firstBad ([badAt 16 (decide (c.u 16 1 ≠ 0)), badAt 17 (decide (c.u 17 1 ≠ 0))] ++ c.grantChecks 0 b
      ++ [failIf b.tamperSet 6, failIf b.knl.lost 7] ++ b.jrnChecks ++ [failIf (b.poolsLack 0 (b.inst 0).grant c.grant) 4]))
    (fun c b => b.settingAtTick c (.inst0 c.grant)) fn slot

/-- VF_WINDOW_LIMIT (R204, R366, R368): refused, in PCI Express mode, below some instance's window. -/
def doVfWindowLimit (fn slot : Nat) (b : Bridge) : Bridge :=
  b.citanRun 0x206 .manager (fun c => decide (c.len = 1))
    (fun c b =>
      let l := c.u 16 1
      let isOver := b.ten.inst.find? (fun e => decide (e.1 ≠ 0) && decide (e.2.state ≠ .none) && decide (l < windowLog e.2.grant.segs))
      firstBad ([badAt 16 (decide (l < 30) || decide (47 < l))] ++ b.jrnChecks ++ [
        match isOver with
        | some e => if b.port.cxl then none else some (4, 0, leBytes 1 e.1)
        | none => none]))
    (fun c b => b.settingAtTick c (.vfLimit (c.u 16 1))) fn slot

/-- PRECOLOUR_SET (R327, R366, R368). -/
def doPrecolourSet (fn slot : Nat) (b : Bridge) : Bridge :=
  b.citanRun 0x207 .manager (fun c => decide (c.len = 12))
    (fun c b =>
      let i := c.u 16 1
      firstBad ([badAt 16 (decide (i = 0)), (b.wholeInst i).1, badAt 17 (decide (2 < c.u 17 1)), c.reserved 18 2,
        badAt 20 (decide ((b.inst i).state = .live) && decide ((b.inst i).grant.segs < c.u 20 4 + c.u 24 4)),
        badAt 24 (decide (c.u 24 4 = 0)), (b.wholeInst i).2] ++ b.jrnChecks))
    (fun c b => b.settingAtTick c (.precolour (c.u 16 1) (c.u 20 4) (c.u 24 4) (c.u 17 1))) fn slot

/-- SEM_ACCESS (R335, R366): bit 0 is taken as 1. -/
def doSemAccess (fn slot : Nat) (b : Bridge) : Bridge :=
  b.citanRun 0x208 .manager (fun c => decide (c.len = 40))
    (fun c _ => firstBad [badAt 16 (decide (64 ≤ c.u 16 1)), c.reserved 17 7])
    (fun c b => b.atTick c (.semAccess (c.u 16 1) (BitVec.ofNat 256 (c.u 24 32) ||| 1)) 0 []) fn slot

/-- SEM_RELEASE (R337, R366): reports the semaphores that were held. -/
def doSemRelease (fn slot : Nat) (b : Bridge) : Bridge :=
  b.citanRun 0x209 .manager (fun c => decide (c.len = 8)) (fun _ _ => none)
    (fun c b => b.atTick c (.semRelease (c.u 16 8)) 0 []) fn slot

end Sys2Proof.Machine
end

