-- ==== Sys2Proof/Machine/Group3.lean ====
section
/-! DEFINITION. Citan group 0x03: placement (R369, R370). -/

namespace Sys2Proof.Machine

open Sys2Proof

/-- Extents of a range that are allocated to an instance (R318, R369). -/
def Bridge.allocIn (b : Bridge) (i first count : Nat) : Nat :=
  (b.ten.seg.map (fun s =>
    if s.1 / 131072 = i ∧ s.2.valid then
      let lo := s.1 % 131072 * 512
      Nat.min (lo + s.2.extents) (first + count) - Nat.max lo first
    else 0)).foldl (· + ·) 0

/-- The descriptors of a range's extents, one of each mirrored extent (R369). -/
def Bridge.extentsIn (b : Bridge) (i first count : Nat) : List Desc :=
  ((b.descsOf i first count).map Prod.snd).filter (fun d => !(d.mirror && decide (d.part.1 < d.home.1)))

/-- A descriptor's hints once the changes prepared so far have taken effect (R130, R131). -/
def Bridge.hintsNext (b : Bridge) (key : Nat) (d : Desc) : Desc :=
  b.citan.prepared.foldl (fun d p => match p.change with
    | .hints i first count set change =>
      if p.doneAt.isNone ∧ (b.descsOf i first count).any (fun e => decide (e.1 = key)) then d.hint set change else d
    | _ => d) d

/-- The state with every hint prepared so far in place. -/
def Bridge.withHints (b : Bridge) : Bridge := b.modHerd (fun h => { h with desc := Tbl.mapv b.hintsNext h.desc })

/-- Hints that may not stand together (R130). -/
def Desc.hintClash (d : Desc) : Bool := d.keepFar && (d.pinNear || d.noMigrate)

/-- HINT_SET (R130, R131, R369, R370). The byte that no field of the table takes is reserved. -/
def doHintSet (fn slot : Nat) (b : Bridge) : Bridge :=
  b.citanRun 0x301 .own (fun c => decide (c.len = 12))
    (fun c b =>
      let i := c.u 16 1
      let set := c.u 17 1
      let chg := c.u 18 1
      let first := c.u 20 4
      let n := c.u 24 4
      let later := b.withHints
      let xs := (later.extentsIn i first n).map (Desc.hint set chg)
      let pins := (xs.filter (fun d => d.pinNear)).length
      let held := ((later.extentsIn i first n).filter (fun d => d.pinNear)).length
      firstBad ([badAt 16 (decide ((b.inst i).state = .none)),
        badAt 17 (decide (8 ≤ set) || (bitOf (set % 8) 1 && bitOf chg 1 && (bitOf set 0 && bitOf chg 0 || bitOf set 2 && bitOf chg 2))),
        badAt 18 (decide (8 ≤ chg)), c.reserved 19 1, badAt 24 (decide (n = 0) || decide (65536 < n)), failIf (b.instBusy i) 1,
        badAt 20 (decide (b.allocIn i first n < n)), badAt 17 (xs.any Desc.hintClash)] ++ b.jrnChecks
        ++ [failIf (decide (held < pins) && decide ((b.inst i).grant.quota < later.pinnedOf i + 512 * (pins - held))) 4]))
    (fun c b => b.atTick c (.hints (c.u 16 1) (c.u 20 4) (c.u 24 4) (c.u 17 1) (c.u 18 1)) 0 []) fn slot

/-- PLACE_QUERY (R369). -/
def doPlaceQuery (fn slot : Nat) (b : Bridge) : Bridge :=
  b.citanRun 0x302 .own (fun c => decide (c.len = 12))
    (fun c b => firstBad [badAt 16 (decide ((b.inst (c.u 16 1)).state = .none)), c.reserved 17 3,
      badAt 24 (decide (c.u 24 4 = 0) || decide (65536 < c.u 24 4)), failIf (b.instBusy (c.u 16 1)) 1])
    (fun c b =>
      let i := c.u 16 1
      let xs := b.extentsIn i (c.u 20 4) (c.u 24 4)
      let dir := fun (p : Desc → Bool) (e : Nat × DirEntry) => decide (e.2.shown ≠ .filling) && xs.any (fun d => p d && decide (d.ext = e.1 / 512))
      let count := fun (p : Desc → Bool) => (b.herd.dir.filter (dir p)).length
      let pinned := xs.filter (fun d => d.pinNear)
      b.ok c (leBytes 4 (b.allocIn i (c.u 20 4) (c.u 24 4)) ++ leBytes 4 pinned.length
        ++ leBytes 4 (xs.filter (fun d => d.keepFar)).length ++ leBytes 4 (xs.filter (fun d => d.noMigrate)).length
        ++ leBytes 8 (count (fun _ => true))
        ++ leBytes 8 (b.herd.dir.filter (fun e => dir (fun _ => true) e && (decide (e.2.shown = .dirty) || decide (e.2.shown = .writingBack)))).length
        ++ leBytes 8 (512 * pinned.length - count (fun d => d.pinNear)) ++ leBytes 8 (count (fun d => d.keepFar))
        ++ leBytes 4 (b.herd.copies.filter (fun x => xs.any (fun d => decide (d.ext = x.2.gran / 512)))).length)) fn slot

/-- The tunables that a TUNE_SET asks for, over those in force or on their way (R132, R356, R369). -/
def Cmd.tune (c : Cmd) (t : Tune) : Tune :=
  let v := fun (k old : Nat) => if bitOf (c.u 16 2) k then c.u (18 + k) 1 else old
  { sampleShift := v 0 t.sampleShift, decayPeriod := v 1 t.decayPeriod, decayShift := v 2 t.decayShift, promote := v 3 t.promote
    demote := v 4 t.demote, migBudget := v 5 t.migBudget, evacBudget := v 6 t.evacBudget, balEnable := v 7 t.balEnable
    balSpread := v 8 t.balSpread, autoEvac := v 9 t.autoEvac, dirtyCeil := v 10 t.dirtyCeil }

/-- The tunables in force once the changes prepared so far have taken effect. -/
def Bridge.tuneNext (b : Bridge) : Tune :=
  b.citan.prepared.foldl (fun t p => match p.change with
    | .tune u => if p.doneAt.isNone then u else t
    | _ => t) b.herd.tune

/-- The range of each tunable (R132). -/
def tuneRange : List (Nat × Nat) :=
  [(0, 8), (0, 20), (1, 7), (1, 255), (0, 254), (0, 32), (4, 32), (0, 1), (5, 50), (0, 1), (0, 88)]

/-- TUNE_SET (R132, R369, R370). -/
def doTuneSet (fn slot : Nat) (b : Bridge) : Bridge :=
  b.citanRun 0x303 .manager (fun c => decide (c.len = 14))
    (fun c b =>
      let t := c.tune b.tuneNext
      let bad := fun (k lo hi : Nat) => bitOf (c.u 16 2) k && (decide (c.u (18 + k) 1 < lo) || decide (hi < c.u (18 + k) 1))
      let fields := (List.range 11).zip tuneRange
      firstBad ([badAt 16 (decide (2048 ≤ c.u 16 2)), badAt 18 (!bad 3 1 255 && !bad 4 0 254 && decide (t.promote ≤ t.demote))]
        ++ fields.map (fun f => badAt (18 + f.1) (bad f.1 f.2.1 f.2.2)) ++ [c.reserved 29 1] ++ b.jrnChecks))
    (fun c b => b.settingAtTick c (.tune (c.tune b.tuneNext))) fn slot

/-- SHARES_SET (R40, R351, R369). -/
def doSharesSet (fn slot : Nat) (b : Bridge) : Bridge :=
  b.citanRun 0x304 .manager (fun c => decide (c.len = 3))
    (fun c b => firstBad ([badAt 16 (decide (64 < c.u 16 1) || decide (96 < c.u 16 1 + c.u 17 1 + c.u 18 1)), badAt 17 (decide (64 < c.u 17 1)),
      badAt 18 (decide (c.u 18 1 = 0) || decide (64 < c.u 18 1))] ++ b.jrnChecks))
    (fun c b => b.settingAtTick c (.shares (c.u 16 1) (c.u 17 1) (c.u 18 1))) fn slot

/-- RESERVE_SET (R20, R369). -/
def doReserveSet (fn slot : Nat) (b : Bridge) : Bridge :=
  b.citanRun 0x305 .manager (fun c => decide (c.len = 1))
    (fun c b => firstBad (badAt 16 (decide (10 < c.u 16 1)) :: b.jrnChecks))
    (fun c b => b.settingAtTick c (.reserve (c.u 16 1))) fn slot

/-- PERSIST_SET (R133, R369, R370). -/
def doPersistSet (fn slot : Nat) (b : Bridge) : Bridge :=
  b.citanRun 0x306 .manager (fun c => decide (c.len = 1))
    (fun c b =>
      let on := decide (c.u 16 1 = 1)
      let lack := channelMask (fun n => (b.chan n).svc.admitted && !(b.chan n).ll.id.persist)
      firstBad ([badAt 16 (decide (1 < c.u 16 1) || (on && (decide (b.herd.holdup < 2000) || decide (100000 < b.herd.holdup))))] ++ b.jrnChecks
        ++ [if on && decide (lack ≠ 0) then some (4, 0, leBytes 2 lack) else none]))
    (fun c b => b.settingAtTick c (.persist (decide (c.u 16 1 = 1)))) fn slot

/-- A removal is under way at a position, or an evacuation of its sled (R363, R370). -/
def Bridge.evacBusy (b : Bridge) (n : Nat) : Bool :=
  (b.chan n).herd.evac || b.pendingOn (fun c => decide (c = .evacStart n true) || decide (c = .evacStart n false))
    || decide ((b.chan n).svc.state = .removeWait) || decide ((b.chan n).svc.state = .evacuating)
    || decide ((b.chan n).svc.state = .poweringOff)

/-- EVACUATE (R124, R125, R369, R370). -/
def doEvacuate (fn slot : Nat) (b : Bridge) : Bridge :=
  b.citanRun 0x307 .manager (fun c => decide (c.len = 1))
    (fun c b =>
      let n := c.u 16 1
      firstBad ([badAt 16 (decide (16 ≤ n)), failIf (b.chFenced n || !b.herderOn) 7, failIf (b.evacBusy n || b.opBusy (65536 + n)) 1] ++ b.jrnChecks
        ++ [if b.evacRoom n < b.evacLeft n then some (4, 0, leBytes 8 (b.evacLeft n) ++ leBytes 8 (b.evacRoom n)) else none]))
    (fun c b => (b.beginOp c (65536 + c.u 16 1) 0).atTick c (.evacStart (c.u 16 1) false) 0 []) fn slot

/-- EVAC_STOP (R369, R370): a removal's own evacuation is stopped by SLED_ABORT (R516). -/
def doEvacStop (fn slot : Nat) (b : Bridge) : Bridge :=
  b.citanRun 0x308 .manager (fun c => decide (c.len = 1))
    (fun c b =>
      let n := c.u 16 1
      firstBad ([badAt 16 (decide (16 ≤ n)), failIf (decide ((b.chan n).svc.state = .evacuating)) 1,
        failIf (!(b.chan n).herd.evac) 5] ++ b.jrnChecks))
    (fun c b => b.atTick c (.evacStop (c.u 16 1)) 0 []) fn slot

end Sys2Proof.Machine
end

