-- ==== Sys2Proof/Machine/Group4.lean ====
section
/-! DEFINITION. Citan group 0x04: scan control (R155, R156, R371). -/

namespace Sys2Proof.Machine

open Sys2Proof

/-- The fields that both commands of the group share (R371). -/
def Cmd.ringChecks (c : Cmd) (b : Bridge) : List (Option Answer) :=
  let i := c.u 16 1
  [badAt 16 (decide ((b.inst i).state = .none)), badAt 17 (decide ((b.inst i).state ≠ .none) && decide ((b.inst i).grant.rings ≤ c.u 17 1))]

/-- A cancellation's outcome (R156): status, pieces dropped and still running, and the state after. -/
def Bridge.cancelOne (i k index tag : Nat) (b : Bridge) : Nat × Nat × Nat × Bridge :=
  let r := b.ring i k
  match b.scan.job.find? (fun e => decide (e.2.fn = i ∧ e.2.ring = k ∧ e.2.index = index)) with
  | some (id, j) =>
    if j.program.tag ≠ tag then (2, 0, 0, b)
    else
      let (n, left, b') := b.cancelJob id
      if n = 0 then (5, 0, left, b) else (0, n, left, b')
  | none =>
    let fetching := b.scan.fetch.find? (fun e => decide (e.2.fn = i ∧ e.2.ring = k ∧ e.2.index = index))
    let mark := b.modRing i k (fun r => { r with marks := r.marks.filter (fun m => decide (m.1 ≠ index)) ++ [(index, tag)] })
    match fetching with
    | some (_, f) =>
      (match f.desc with
        | .read _ => if f.program.tag = tag then (0, 0, 0, mark) else (2, 0, 0, b)
        | _ => (0, 0, 0, mark))
    | none =>
      if (index + 65536 - r.head) % 65536 < (r.tail + 65536 - r.head) % 65536 then (0, 0, 0, mark)
      else if Tbl.find index r.tags = some tag then (5, 0, 0, b)
      else (2, 0, 0, b)

/-- The results of a cancellation (R371). -/
def cancelResults (t dropped running : Nat) : List Byte := leBytes 8 t ++ leBytes 4 dropped ++ leBytes 4 running

/-- JOB_CANCEL (R155, R156, R371). -/
def doJobCancel (fn slot : Nat) (b : Bridge) : Bridge :=
  b.citanRun 0x401 .own (fun c => decide (c.len = 8))
    (fun c b => firstBad (c.ringChecks b ++ [badAt 17 (!(b.ring (c.u 16 1) (c.u 17 1)).recent (c.u 18 2)
        || decide ((b.cancelOne (c.u 16 1) (c.u 17 1) (c.u 18 2) (c.u 20 4)).1 = 2)), failIf (b.instBusy (c.u 16 1)) 1]))
    (fun c b =>
      let (st, n, left, b) := b.cancelOne (c.u 16 1) (c.u 17 1) (c.u 18 2) (c.u 20 4)
      let b := b.modScan (fun s => if st = 0 then { s with cancelOk := cnt32 s.cancelOk 1 } else { s with cancelLate := cnt32 s.cancelLate 1 })
      b.respond c.ref st 0 0 (cancelResults b.glb.time n left)) fn slot

/-- RING_CANCEL (R371): every accepted job of a ring at one moment. -/
def doRingCancel (fn slot : Nat) (b : Bridge) : Bridge :=
  b.citanRun 0x402 .own (fun c => decide (c.len = 4))
    (fun c b => firstBad (c.ringChecks b ++ [c.reserved 18 2, failIf (b.instBusy (c.u 16 1)) 1]))
    (fun c b =>
      let mine := b.scan.job.filter (fun e => decide (e.2.fn = c.u 16 1 ∧ e.2.ring = c.u 17 1))
      let (jobs, n, left, b) := mine.foldl (fun (a : Nat × Nat × Nat × Bridge) e =>
        let (k, r, b') := a.2.2.2.cancelJob e.1
        if k = 0 then (a.1, a.2.1, a.2.2.1 + r, a.2.2.2) else (a.1 + 1, a.2.1 + k, a.2.2.1 + r, b')) (0, 0, 0, b)
      let st := if jobs = 0 then 5 else 0
      let b := b.modScan (fun s => if st = 0 then { s with cancelOk := cnt32 s.cancelOk 1 } else { s with cancelLate := cnt32 s.cancelLate 1 })
      b.respond c.ref st 0 0 (cancelResults b.glb.time n left ++ leBytes 4 jobs)) fn slot

end Sys2Proof.Machine
end

