-- ==== Sys2Proof/Machine/Group5.lean ====
section
/-! DEFINITION. Citan group 0x05: faults (R372, R373), with the end of a channel's drain before its fence (R397) and the steps of an
unfence (R399). -/

namespace Sys2Proof.Machine

open Sys2Proof

/-- VETO_SET (R18, R372). -/
def doVetoSet (fn slot : Nat) (b : Bridge) : Bridge :=
  b.citanRun 0x501 .manager (fun c => decide (c.len = 1)) (fun c b => firstBad (badAt 16 (decide (64 ≤ c.u 16 1)) :: b.jrnChecks))
    (fun c b => b.settingAtTick c (.veto (c.u 16 1))) fn slot

/-- An HTL lane named by SUB counts as fenced: by command, or failed by fault (R373). -/
def Phy.laneOut (p : Phy) (sub : Nat) : Bool :=
  if sub / 8 = 0 then bitOf p.txFenced (sub % 8) || bitOf p.txFailed (sub % 8) else bitOf p.rxFenced (sub % 8) || bitOf p.rxFailed (sub % 8)

/-- A unit is fenced, by fault or by command (R373). -/
def Bridge.unitFenced (kind unit sub : Nat) (b : Bridge) : Bool :=
  match kind with
  | 1 => b.chFenced unit
  | 2 => bitOf (b.chan unit).rtv.fenced sub
  | 3 => b.glb.pcFenced.contains (unit * 64 + sub) || b.glb.pcSpared.contains (unit * 64 + sub)
  | 4 => bitOf b.glb.coreFenced unit
  | _ => (b.phy unit).laneOut sub

/-- A channel resolves or homes an allocated extent that is not mirrored (R373). -/
def Bridge.holdsPlain (b : Bridge) (n : Nat) : Bool :=
  b.ten.seg.any (fun e => e.2.valid && !e.2.mirrored && decide (e.2.res.1 = n)) || decide (b.evacLeft n ≠ 0)

/-- An HTL lane is fenced by command (R261, R373): out of its map by a fast retrain, or marked failed where it is unmapped. -/
def Bridge.fenceHtlLane (n sub : Nat) (b : Bridge) : Bridge :=
  let out := decide (sub / 8 = 0)
  let k := sub % 8
  let b := b.modPhy n (fun p => if out then { p with txFenced := putBit p.txFenced k true } else { p with rxFenced := putBit p.rxFenced k true })
  let (due, b) := b.markLane n out k
  let b := (b.logWrite n 0 5 false 0 none sub).prepare (.fenceRecord 5 n sub) 2
  if due then b.startRetrain n else b

/-- The drain that comes before a command fence (R397): the channel's buffer and the entries of others whose location lies on its
sled are offered. -/
def Bridge.drainForFence (n : Nat) (b : Bridge) : Bridge :=
  b.each ((b.fencedEntries n).filter (fun e => !e.2.offered)) (fun e b => b.offerEntry e.1 e.2)

/-- UNIT_FENCE (R372, R373, R397, R398). -/
def doUnitFence (fn slot : Nat) (b : Bridge) : Bridge :=
  b.citanRun 0x502 .manager (fun c => decide (c.len = 4))
    (fun c b =>
      let kind := c.u 16 1
      let unit := c.u 17 1
      let sub := c.u 18 1
      firstBad (unitChecks c 5 ++ [badAt 19 (decide (2 ≤ c.u 19 1)),
        failIf (decide (kind = 1) && decide (c.u 19 1 = 0) && b.holdsPlain unit) 1,
        failIf (decide (kind = 4) && bitOf b.glb.coreActive unit && decide (popCount b.glb.coreActive 5 ≤ 1)) 4,
        failIf (b.unitFenced kind unit sub) 5,
        failIf (b.citan.ops.any (fun o => o.running && decide (o.obj = unitObj kind unit sub))
          || b.citan.waits.any (fun w => decide (w.1.op = 0x502 ∧ kind = 1 ∧ w.2 = 2 ^ unit))) 1] ++ b.jrnChecks))
    (fun c b =>
      let unit := c.u 17 1
      let sub := c.u 18 1
      match c.u 16 1 with
      | 1 =>
        let b := (b.taken c.ref).drainForFence unit
        { b with citan := { b.citan with waits := b.citan.waits ++ [(c.ref, 2 ^ unit)] } }
      | 2 => (b.rtvLaneFails unit sub 0).ok c []
      | 3 => (b.fencePc unit sub 0 sub).ok c []
      | 4 => (b.fenceCore unit 0 unit).ok c []
      | _ => (b.fenceHtlLane unit sub).ok c []) fn slot

/-- FENCE_DRAIN_DONE: the drain of a command fence is over, or has had its time, and the channel is fenced (R397). -/
def doFenceDrainDone (n : Nat) (b : Bridge) : Bridge :=
  let mine : CmdRef × Nat → Bool := fun w => decide (w.1.op = 0x502 ∧ w.2 = 2 ^ n)
  let ws := b.citan.waits.filter mine
  if ws.isEmpty then b
  else
    let b := { b with citan := { b.citan with waits := b.citan.waits.filter (fun w => !mine w) } }
    b.fenceChannel n 0 0 |>.each ws (fun w b => b.respond w.1 0 0 0 [])

/-- A channel's own source is still severe (R373, R388). -/
def Bridge.channelSevere (b : Bridge) (n : Nat) : Bool :=
  [2, 3, 26].any (fun s => (b.faults.source n s).severe) || [2, 3, 8].any (fun s => (b.faults.source (16 + n) s).severe)

/-- UNIT_UNFENCE (R18, R372, R373, R399): a channel's link is trained and initialised fresh where its sled is there; the fence of any
unit lifts at a tick. -/
def doUnitUnfence (fn slot : Nat) (b : Bridge) : Bridge :=
  b.citanRun 0x503 .manager (fun c => decide (c.len = 4))
    (fun c b =>
      let obj := unitObj (c.u 16 1) (c.u 17 1) (c.u 18 1)
      firstBad (unitChecks c 5 ++ [c.reserved 19 1, failIf (!b.unitFenced (c.u 16 1) (c.u 17 1) (c.u 18 1)) 5, failIf (b.opBusy obj) 1] ++ b.jrnChecks))
    (fun c b =>
      let kind := c.u 16 1
      let unit := c.u 17 1
      let sub := c.u 18 1
      let obj := unitObj kind unit sub
      let b := b.startOp c obj 1
      let fin := fun (status : Nat) (b : Bridge) =>
        match b.opOn 0x503 obj with
        | some o => b.endOp o status []
        | none => b
      match kind with
      | 1 =>
        if b.channelSevere unit then fin 7 b
        else if (b.chan unit).svc.present then doChannelEnable unit (b.linkOff unit)
        else b.prepare (.unfence 1 unit 0) 2
      | 5 =>
        let k := sub % 8
        fin 0 (b.modPhy unit (fun p => if sub / 8 = 0 then { p with txFenced := putBit p.txFenced k false }
          else { p with rxFenced := putBit p.rxFenced k false }))
      | _ => b.prepare (.unfence kind unit sub) 2) fn slot

/-- Unfences of channels go on (R373, R399): with the link up the fence lifts at the next tick, and a link that does not come up ends
the operation FENCED. -/
def Bridge.unfenceSteps (b : Bridge) : Bridge :=
  b.each (channels.filter (fun n => (b.opOn 0x503 (65536 + n)).isSome && b.chFenced n)) (fun n b =>
    if b.pendingOn (fun c => decide (c = .unfence 1 n 0)) then b
    else if (b.chan n).ll.state = .up then b.prepare (.unfence 1 n 0) 2
    else if (b.phy n).state = .down ∨ !(b.chan n).svc.present then
      match b.opOn 0x503 (65536 + n) with
      | some o => b.endOp o 7 []
      | none => b
    else b)

/-- A fault-log entry's 32 bytes (R401). -/
def LogEntry.bytes (e : LogEntry) : List Byte :=
  leBytes 8 e.seq ++ leBytes 8 e.time ++ leBytes 2 e.block ++ leBytes 1 e.src ++ leBytes 1 (packWord [(0, 3, e.kind), flagAt 3 e.forced])
    ++ leBytes 2 e.suppressed ++ leBytes 2 (match e.inst with
      | some i => i % 256 + 256
      | none => 0) ++ leBytes 8 e.detail

/-- LOG_READ (R372, R401). -/
def doLogRead (fn slot : Nat) (b : Bridge) : Bridge :=
  b.citanRun 0x504 .manager (fun c => decide (c.len = 9))
    (fun c _ => badAt 24 (decide (c.u 24 1 = 0) || decide (6 < c.u 24 1)))
    (fun c b =>
      let from_ := c.u 16 8
      let es := (b.faults.log.filter (fun e => decide (from_ ≤ e.seq))).take (c.u 24 1)
      let next := b.faults.nextSeq
      let first := (es.head?.map (fun e => e.seq)).getD next
      let oldest := (b.faults.log.head?.map (fun e => e.seq)).getD next
      b.ok c (leBytes 8 first ++ leBytes 8 next ++ leBytes 1 es.length ++ leBytes 1 (b2n (decide (from_ < oldest))) ++ leBytes 6 0
        ++ es.flatMap LogEntry.bytes)) fn slot

/-- CLASSIFY_SET (R372, R386). -/
def doClassifySet (fn slot : Nat) (b : Bridge) : Bridge :=
  b.citanRun 0x505 .manager (fun c => decide (c.len = 8))
    (fun c b => firstBad ([badAt 16 (decide (0x37 < c.u 16 2)),
      badAt 18 (match faultKind (c.u 16 2) (c.u 18 1) with
        | some .corrected => false
        | some .error => false
        | _ => true),
      badAt 19 (decide (c.u 19 1 = 0)), badAt 20 (decide (c.u 20 4 = 0) || decide (1048576 < c.u 20 4))] ++ b.jrnChecks))
    (fun c b => b.settingAtTick c (.classify (c.u 16 2) (c.u 18 1) (c.u 19 1) (c.u 20 4))) fn slot

/-- The severe state of one source is cleared (R387, R401): logged where something changes. -/
def Bridge.clearSource (k s : Nat) (b : Bridge) : Bridge :=
  let x := b.faults.source k s
  if x.severe || decide (x.level ≠ 0) then (b.modFs k s (fun x => { x with severe := false, level := 0 })).logWrite k s 7 false 0 none 0 else b

/-- FAULT_CLEAR (R372, R386, R387, R401). -/
def doFaultClear (fn slot : Nat) (b : Bridge) : Bridge :=
  b.citanRun 0x506 .manager (fun c => decide (c.len = 4))
    (fun c _ => firstBad [badAt 16 (decide (0x37 < c.u 16 2)),
      badAt 18 (decide (c.u 18 1 ≠ 0xFF) && (faultKind (c.u 16 2) (c.u 18 1)).isNone), c.reserved 19 1])
    (fun c b =>
      let k := c.u 16 2
      let srcs := if c.u 18 1 = 0xFF then (List.range 32).filter (fun s => (faultKind k s).isSome) else [c.u 18 1]
      (b.each srcs (fun s b => b.clearSource k s)).ok c []) fn slot

end Sys2Proof.Machine
end

