-- ==== Sys2Proof/Machine/Group6.lean ====
section
/-! DEFINITION. Citan group 0x06: security (R374, R375, R456, R474, R479). -/

namespace Sys2Proof.Machine

open Sys2Proof

/-- KEY_CHANGE (R324, R374, R375): the new key is sealed before its switch tick (R458). -/
def doKeyChange (fn slot : Nat) (b : Bridge) : Bridge :=
  b.citanRun 0x601 .manager (fun c => decide (c.len = 144))
    (fun c b => firstBad ([badAt 16 (decide ((b.inst (c.u 16 1)).state = .none)), badAt 17 (decide (1 < c.u 17 1)), c.reserved 18 62,
      failIf (b.instBusy (c.u 16 1) || b.keyOp) 1, failIf b.tamperSet 6, failIf b.knl.lost 7] ++ c.keyChecks
      ++ [badAt 80 (c.unwrapFails b)]))
    (fun c b =>
      let i := c.u 16 1
      let gen := b.knl.nextGen
      let b := c.newKey i b
      b.atTick c (.keyChange i gen (decide (c.u 17 1 = 1))) 0 []) fn slot

/-- The spare words are tried in ascending order: one that fails verification is marked used (R479). -/
def Fuses.takeSpare (w : Nat) (bad : Nat) : List Nat → Fuses → Bool × Fuses
  | [], f => (false, f)
  | k :: t, f =>
    if (Tbl.get {} k f.spare).used then Fuses.takeSpare w bad t f
    else if bitOf bad k then Fuses.takeSpare w bad t { f with spare := Tbl.put k { target := 128, used := true } f.spare }
    else (true, { f with spare := Tbl.put k { target := w, used := true } f.spare })

/-- FUSE_SPARE (R374, R375, R479): `bad` names the spare words that fail verification. -/
def doFuseSpare (fn slot : Nat) (bad : Nat) (b : Bridge) : Bridge :=
  b.citanRun 0x602 .manager (fun c => decide (c.len = 2))
    (fun c b => badAt 16 (decide (128 ≤ c.u 16 2) || !b.fuses.marginal.getLsbD (c.u 16 2)))
    (fun c b =>
      let (ok, f) := b.fuses.takeSpare (c.u 16 2) bad (List.range 16)
      ({ b with fuses := f }).respond c.ref (if ok then 0 else 4) 0 0 []) fn slot

/-- A section of the image is refused (R474). -/
def Bridge.sectionRefused (img : ProvImage) (b : Bridge) : Bool :=
  let ownerSet := bitOf (b.fuse 3) 2
  (img.owner.isSome && ownerSet) || (img.owner.isNone && !ownerSet) || (img.release.isSome && bitOf (b.fuse 3) 3)

/-- Program a run of fuse words (R475, R480). -/
def Fuses.programAll (first : Nat) (ws : List Nat) (f : Fuses) : Fuses :=
  ((List.range ws.length).zip ws).foldl (fun f e => f.program (first + e.1) e.2) f

/-- A provisioned KEK takes the place of the present one, and every sealed record is sealed again (R456). -/
def Kennel.installKek (v : BitVec 256) (k : Kennel) : Kennel :=
  let new := k.kek + 1
  { k with kekValid := true, kekProv := true, kek := new, kekBits := v
           store := Tbl.mapv (fun _ r => if r.isKey && k.kekValid && decide (r.kek = k.kek) then { r with kek := new, gen := r.gen + 1 } else r) k.store }

/-- A verified image is applied, its sections in ascending type order (R474). -/
def Bridge.applyImage (img : ProvImage) (b : Bridge) : Bridge :=
  let b := match img.owner with
    | some ws => b.modFuses (fun f => (f.programAll 4 (ws.take 12)).program 3 4)
    | none => b
  let b := match img.release with
    | some ws => b.modFuses (fun f => (f.programAll 37 (ws.take 8)).program 3 8)
    | none => b
  let b := b.modFuses (fun f => (f.program 3 (img.debug % 4)).program 24 (img.revoke % 16))
  let b := match img.tamper with
    | some m => b.modKnl (fun k => { k with tmpEn := m % 16 })
    | none => b
  match img.kek with
  | some v => (b.modKnl (Kennel.installKek v)).level 931 true
  | none => b

/-- PROVISION (R374, R375, R474): chunks in sequence; the last one applies an image that verifies (`good`) and none of whose sections
is refused. `img` is what the image says. -/
def doProvision (fn slot : Nat) (good : Bool) (img : ProvImage) (b : Bridge) : Bridge :=
  b.citanRun 0x603 .manager (fun c => decide (c.len = 8 + c.u 19 1))
    (fun c b => if c.u 16 2 ≠ b.knl.provision then none
      else firstBad [badAt 18 (decide (1 < c.u 18 1)), badAt 19 (decide (c.u 19 1 = 0) || decide (216 < c.u 19 1)), c.reserved 20 4])
    (fun c b =>
      if c.u 16 2 ≠ b.knl.provision then (b.modKnl (fun k => { k with provision := 0 })).respond c.ref 2 16 0 []
      else if c.u 18 1 = 0 then (b.modKnl (fun k => { k with provision := (k.provision + 1) % 65536 })).ok c []
      else
        let b := b.modKnl (fun k => { k with provision := 0 })
        if !good || b.sectionRefused img then b.respond c.ref 2 24 0 []
        else if img.kek.isSome && b.tamperSet then b.respond c.ref 6 0 0 []
        else if img.kek.isSome && b.knl.lost then b.respond c.ref 7 0 0 []
        else (b.applyImage img).ok c []) fn slot

end Sys2Proof.Machine
end

