-- ==== Sys2Proof/Machine/Group7.lean ====
section
/-! DEFINITION. Citan group 0x07: service and hot-plug (R376, R377, R512, R515, R516, R520), with the commands that wait for links. -/

namespace Sys2Proof.Machine

open Sys2Proof

/-- SLED_STATUS (R376). -/
def doSledStatus (fn slot : Nat) (b : Bridge) : Bridge :=
  b.citanRun 0x701 .manager (fun c => decide (c.len = 1)) (fun c _ => badAt 16 (decide (16 ≤ c.u 16 1)))
    (fun c b =>
      let n := c.u 16 1
      let x := b.chan n
      let homed := (b.herd.desc.filter (fun e => e.2.valid && decide (e.2.home.1 = n))).length
      b.ok c (leBytes 1 x.svc.pinBits ++ leBytes 1 x.svc.state.code ++ leBytes 1 x.phy.state.code ++ leBytes 1 x.ll.state.code
        ++ leBytes 4 x.ll.id.word0 ++ leBytes 4 x.ll.id.word1 ++ leBytes 4 x.ll.id.word2 ++ leBytes 8 x.ll.id.serial ++ leBytes 4 0
        ++ leBytes 4 homed ++ leBytes 4 (b.reserveLeft n))) fn slot

/-- SLED_REMOVE (R376, R377, R515): as a press of the button. Where no sled is admitted there is none to remove. -/
def doSledRemove (fn slot : Nat) (b : Bridge) : Bridge :=
  b.citanRun 0x702 .manager (fun c => decide (c.len = 1))
    (fun c b =>
      let n := c.u 16 1
      let st := (b.chan n).svc.state
      let none? := [SvcState.empty, .present, .ready, .failed, .lost].contains st
      firstBad ([badAt 16 (decide (16 ≤ n) || none?), failIf (b.chFenced n || !b.herderOn) 7,
        failIf (decide (st ≠ .admitted) || b.evacBusy n || b.opBusy (65536 + n)) 1] ++ b.jrnChecks))
    (fun c b => (b.startOp c (65536 + c.u 16 1) 0).toSvc (c.u 16 1) .removeWait) fn slot

/-- SLED_ABORT (R376, R516): in REMOVE_WAIT, or in EVACUATING before the SLED record is journaled. -/
def doSledAbort (fn slot : Nat) (b : Bridge) : Bridge :=
  b.citanRun 0x703 .manager (fun c => decide (c.len = 1))
    (fun c b =>
      let s := (b.chan (c.u 16 1)).svc
      firstBad [badAt 16 (decide (16 ≤ c.u 16 1)),
        failIf (!(decide (s.state = .removeWait) || (decide (s.state = .evacuating) && decide (s.phase < 2)))) 5])
    (fun c b =>
      let n := c.u 16 1
      let b := { b with citan := { b.citan with prepared := b.citan.prepared.filter (fun p => decide (p.change ≠ Change.evacStart n false)) } }
      let b := if (b.chan n).herd.evac then b.prepare (.evacStop n) 2 else b
      ((b.modSvc n (fun s => { s with aborts := cnt32 s.aborts 1 })).endRemoval n 2 0 .admitted).ok c []) fn slot

/-- The checks of SLED_ADMIT on a channel whose sled is admitted already: it builds the missing journal copy (R436). -/
def Bridge.copyChecks (n : Nat) (b : Bridge) : List (Option Answer) :=
  [badAt 16 (decide ((b.jrn.at 0).state = 1) && decide ((b.jrn.at 1).state = 1)), failIf (b.opBusy (65536 + n) || b.jrn.compacting) 1,
    failIf ([0, 1].all (fun k => decide ((b.jrn.at k).state ≠ 0))) 1, failIf (!b.eligibleCopy n) 4]

/-- SLED_ADMIT (R376, R377, R436, R512): a present sled, or one whose admission failed, enters ADMITTING at once; one that is admitted
takes the missing journal copy. -/
def doSledAdmit (fn slot : Nat) (b : Bridge) : Bridge :=
  b.citanRun 0x704 .manager (fun c => decide (c.len = 1))
    (fun c b =>
      let n := c.u 16 1
      let st := (b.chan n).svc.state
      if n < 16 ∧ st = .admitted then firstBad (b.copyChecks n)
      else
        firstBad ([badAt 16 (decide (16 ≤ n) || [SvcState.empty, .ready, .lost].contains st),
          failIf (!(decide (st = .present) || decide (st = .failed)) || b.opBusy (65536 + n) || (b.phy n).testRate.isSome) 1] ++ b.jrnChecks))
    (fun c b =>
      let n := c.u 16 1
      let b := b.startOp c (65536 + n) 0
      if (b.chan n).svc.state = .admitted then b.buildCopy (if (b.jrn.at 0).state = 0 then 0 else 1) n
      else b.toSvc n .admitting) fn slot

/-- The field that names channels by a mask (R376). -/
def Cmd.maskCheck (c : Cmd) : Option Answer := badAt 16 (decide (c.u 16 2 = 0))

/-- A command waits for some channels of a mask (R377). -/
def Bridge.waitFor (c : Cmd) (mask : Nat) (b : Bridge) : Bridge :=
  let b := b.taken c.ref
  { b with citan := { b.citan with waits := b.citan.waits ++ [(c.ref, mask)] } }

/-- LINK_RATE_LIMIT (R250, R299, R376, R377): with NOW a speed change starts on each channel above the limit. -/
def doLinkRateLimit (fn slot : Nat) (b : Bridge) : Bridge :=
  b.citanRun 0x705 .manager (fun c => decide (c.len = 4))
    (fun c b => firstBad ([c.maskCheck, badAt 18 (decide (3 < c.u 18 1)), badAt 19 (decide (1 < c.u 19 1))] ++ b.jrnChecks))
    (fun c b =>
      let chs := setBits (c.u 16 2) 16
      let b := (b.logSetting c).each chs (fun n b => b.modPhy n (fun p => { p with limit := c.u 18 1 }))
      if c.u 19 1 = 0 then b.ok c []
      else
        let above := chs.filter (fun n => decide (c.u 18 1 < (b.phy n).rate))
        (b.each above (fun n b => doRateChangeStart n b)).waitFor c (channelMask (fun n => above.contains n))) fn slot

/-- LINK_PARAMS (R290, R300, R302, R376, R377). -/
def doLinkParams (fn slot : Nat) (b : Bridge) : Bridge :=
  b.citanRun 0x706 .manager (fun c => decide (c.len = 6))
    (fun c b =>
      let v := c.u 18 1
      let g := c.u 20 2
      firstBad ([c.maskCheck, badAt 18 (decide (v = 1) || decide (8 < v)), badAt 19 (decide (1 < c.u 19 1) && decide (c.u 19 1 ≠ 255)),
        badAt 20 (decide (g ≠ 0) && (decide (g < 10) || decide (10000 < g)))] ++ b.jrnChecks))
    (fun c b =>
      let v := c.u 18 1
      let g := c.u 20 2
      let b := (b.logSetting c).each (setBits (c.u 16 2) 16) (fun n b => b.modLl n (fun l => { l with
        vcSet := if v = 0 then l.vcSet else v - 1, graceUs := if g = 0 then l.graceUs else g }))
      if c.u 19 1 = 255 then b.ok c [] else b.atTick c (.linkIdle (c.u 16 2) (c.u 19 1)) 0 []) fn slot

/-- LINK_TRAIN (R260, R376, R377). -/
def doLinkTrain (fn slot : Nat) (b : Bridge) : Bridge :=
  b.citanRun 0x707 .manager (fun c => decide (c.len = 4))
    (fun c b => firstBad [c.maskCheck, c.reserved 18 2, failIf ((setBits (c.u 16 2) 16).any (fun n => decide ((b.phy n).state ≠ .down))) 1])
    (fun c b =>
      (b.each (setBits (c.u 16 2) 16) (fun n b => (b.modPhy n (fun p => { p with attempt := 0 })).lanesToDetect n)).waitFor c (c.u 16 2)) fn slot

/-- A running speed change of a channel has ended (R299, R377). -/
def Bridge.rateSettled (b : Bridge) (n : Nat) : Bool :=
  (b.chan n).ll.rateReq.isNone && !(b.phy n).rateWait && !([PhyState.rateSwitch, .equalize, .align].contains (b.phy n).state)

/-- A channel's training by command has ended (R377). -/
def Bridge.trainSettled (b : Bridge) (n : Nat) : Bool :=
  decide ((b.chan n).ll.state = .up) || decide ((b.phy n).state = .down) || decide ((b.phy n).state = .disabled)

/-- Commands that wait for links complete (R377). -/
def Bridge.linkWaits (b : Bridge) : Bridge :=
  let isOver : Bridge → CmdRef × Nat → Bool := fun b w =>
    let chs := setBits w.2 16
    if w.1.op = 0x705 then chs.all b.rateSettled
    else if w.1.op = 0x707 then chs.all b.trainSettled
    else false
  let ready := b.citan.waits.filter (isOver b)
  let b := { b with citan := { b.citan with waits := b.citan.waits.filter (fun w => !ready.contains w) } }
  b.each ready (fun w b => b.respond w.1 0 0 0
    (if w.1.op = 0x707 then leBytes 2 (channelMask (fun n => (w.2).testBit n && decide ((b.chan n).ll.state = .up))) else []))

/-- MIRROR_RESTORE (R376, R377, R520): with no degraded segment on the channel it ends at once. -/
def doMirrorRestore (fn slot : Nat) (b : Bridge) : Bridge :=
  b.citanRun 0x708 .manager (fun c => decide (c.len = 1))
    (fun c b =>
      let n := c.u 16 1
      firstBad ([badAt 16 (decide (16 ≤ n)), failIf (b.chFenced n || !(b.chan n).svc.admitted || !b.herderOn) 7, failIf (b.opBusy (65536 + n)) 1]
        ++ b.jrnChecks))
    (fun c b =>
      let n := c.u 16 1
      let b := b.startOp c (65536 + n) 0
      match b.opOn 0x708 (65536 + n) with
      | some o => if b.degradedOn n = 0 then b.endOp o 0 [] else b
      | none => b) fn slot

/-- MIRROR_SEGMENT_RESTORED: the last extent of a segment has been copied from its partner; ON_ALT clears at the next tick (R520). -/
def doMirrorSegmentRestored (n i idx : Nat) (b : Bridge) : Bridge :=
  match b.opOn 0x708 (65536 + n), Tbl.find (i * 131072 + idx) b.ten.seg with
  | some _, some e =>
    if e.valid && e.mirrored && e.degraded && decide (e.res.1 = n) && !b.chFenced n && !b.chFenced e.alt.1
        && !b.pendingOn (fun c => decide (c = .segRestored n i idx)) then b.prepare (.segRestored n i idx) 2
    else b
  | _, _ => b

/-- A restore whose channel is fenced ends FENCED (R352). -/
def Bridge.restoreFails (b : Bridge) : Bridge :=
  b.each (channels.filter (fun n => b.chFenced n)) (fun n b =>
    match b.opOn 0x708 (65536 + n) with
    | some o => b.endOp o 7 []
    | none => b)

end Sys2Proof.Machine
end

