-- ==== Sys2Proof/Machine/GroupA.lean ====
section
/-! DEFINITION. Citan groups 0x08, 0x09 and 0x0A: power (R378, R426), telemetry (R379) and firmware update (R380, R381, R469-R472). -/

namespace Sys2Proof.Machine

open Sys2Proof

-- Group 0x08 ------------------------------------------------------------------------------------------------------------------

/-- An operation that keeps the bridge out of Doze runs (R378). -/
def Bridge.dozeBusy (b : Bridge) : Bool :=
  b.citan.ops.any (fun o => o.running && [1, 3, 5, 7, 10].contains (o.op / 256))

/-- POWER_SET (R60, R378, R494-R496): Idle gating turns at the next tick; the response to a Doze request is written before its entry
begins. -/
def doPowerSet (fn slot : Nat) (b : Bridge) : Bridge :=
  b.citanRun 0x801 .manager (fun c => decide (c.len = 1))
    (fun c b => firstBad [badAt 16 (decide (2 < c.u 16 1)),
      failIf (decide (c.u 16 1 = 2) && b.icu.fenced) 7, failIf (decide (c.u 16 1 = 2) && b.dozeBusy) 1])
    (fun c b => if c.u 16 1 = 2 then (b.ok c []).enterDoze else b.atTick c (.power (c.u 16 1)) 0 []) fn slot

/-- The sources that WHISTLE_SET names (R378). -/
def Cmd.sources (c : Cmd) : List Nat := (List.range (c.u 16 1)).map (fun k => c.u (20 + 2 * k) 2)

/-- The first source that is out of range or repeats an earlier one (R378). -/
def Cmd.sourceCheck (c : Cmd) : Option Answer :=
  match (List.range (c.u 16 1)).find? (fun k =>
      let s := c.u (20 + 2 * k) 2
      decide (1021 < s) || (c.sources.take k).contains s) with
  | some k => badAt (20 + 2 * k) true
  | none => none

/-- WHISTLE_SET (R378, R426). -/
def doWhistleSet (fn slot : Nat) (b : Bridge) : Bridge :=
  b.citanRun 0x802 .manager (fun c => decide (c.len = 4 + 2 * c.u 16 1))
    (fun c _ => firstBad [badAt 16 (decide (32 < c.u 16 1)), c.reserved 17 3, c.sourceCheck])
    (fun c b => b.settingAtTick c (.whistle c.sources)) fn slot

-- Group 0x09 ------------------------------------------------------------------------------------------------------------------

/-- A sensor's reading as 16 bits (R536). -/
def Bridge.sensorBits (b : Bridge) (k : Nat) : Nat := ((Tbl.get ((0 : Int), false) k b.tlm.sensor).1 % 65536).toNat

/-- The hottest die sensor's reading and its number (R527, R536). -/
def Bridge.hottest (b : Bridge) : Nat × Nat :=
  match b.tjMax with
  | some (t, k) => ((t % 65536).toNat, k)
  | none => (0, 0)

/-- Package power in mW (R528). -/
def Bridge.powerMw (b : Bridge) : Nat := ((List.range 7).map (fun r => Tbl.get 0 r b.tlm.rail)).foldl (· + ·) 0

/-- Energy in mJ (R528). -/
def Bridge.energyMj (b : Bridge) : Nat := b.tlm.energy / 10 ^ 9

/-- TLM_SNAPSHOT (R379). -/
def doTlmSnapshot (fn slot : Nat) (b : Bridge) : Bridge :=
  b.citanRun 0x901 .manager (fun c => decide (c.len = 0)) (fun _ _ => none)
    (fun c b => b.ok c (leBytes 2 b.hottest.1 ++ leBytes 2 (b.sensorBits 13) ++ leBytes 2 (b.sensorBits 14) ++ leBytes 2 0
      ++ leBytes 4 b.powerMw ++ leBytes 8 b.energyMj)) fn slot

/-- Dirty granules of an instance (R379). -/
def Bridge.dirtyOf (b : Bridge) (i : Nat) : Nat := (b.herd.dir.filter (fun e => e.2.counts && decide (e.2.inst = i))).length

/-- INST_STATS (R326, R379). -/
def doInstStats (fn slot : Nat) (b : Bridge) : Bridge :=
  b.citanRun 0x902 .own (fun c => decide (c.len = 1)) (fun c b => badAt 16 (decide ((b.inst (c.u 16 1)).state = .none)))
    (fun c b =>
      let i := c.u 16 1
      b.ok c (leBytes 8 (b.inst i).rdBytes ++ leBytes 8 (b.inst i).wrBytes ++ leBytes 8 (Tbl.get 0 i b.scan.done)
        ++ leBytes 8 (Tbl.get 0 i b.scan.rowsOf) ++ leBytes 4 (b.residentOf i) ++ leBytes 4 (b.dirtyOf i))) fn slot

/-- THERMAL_SET (R379, R501). -/
def doThermalSet (fn slot : Nat) (b : Bridge) : Bridge :=
  b.citanRun 0x903 .manager (fun c => decide (c.len = 2)) (fun c _ => badAt 16 (decide (115 < c.u 16 2)))
    (fun c b => b.settingAtTick c (.thermal (c.u 16 2))) fn slot

-- Group 0x0A ------------------------------------------------------------------------------------------------------------------

/-- Change a slot of the NOR. -/
def Bridge.modSlot (k : Nat) (f : FwSlot → FwSlot) (b : Bridge) : Bridge :=
  { b with boot := { b.boot with slots := Tbl.put k (f (b.fwSlot k)) b.boot.slots } }

/-- The open session. -/
def Bridge.putSession (s : Option FwSession) (b : Bridge) : Bridge := { b with boot := { b.boot with session := s } }

/-- S (R467), in bytes. -/
def Bridge.slotSize (b : Bridge) : Nat := Nat.min 30 ((b.boot.norMiB - 1) / 2) * 2 ^ 20

/-- The object of a firmware-update operation (R360). -/
def fwObj (slot : Nat) : Nat := 16 * 65536 + slot

/-- FW_BEGIN (R380, R381, R467): a session opens, and the other slot is erased. The number of sectors is open (log entry 4). -/
def doFwBegin (fn slot : Nat) (b : Bridge) : Bridge :=
  b.citanRun 0xA01 .manager (fun c => decide (c.len = 8))
    (fun c b => firstBad [badAt 16 (decide (c.u 16 1 = 0) || decide (2 < c.u 16 1) || decide (c.u 16 1 = b.boot.slot)), c.reserved 17 3,
      badAt 20 (decide (c.u 20 4 = 0) || decide (31457280 < c.u 20 4)),
      failIf (b.boot.session.isSome || b.opBusy (fwObj (c.u 16 1))) 1, failIf (decide (b.slotSize < c.u 20 4)) 4])
    (fun c b =>
      let (k, b) := b.freeNat
      let b := (b.putSession (some { slot := c.u 16 1, size := c.u 20 4 })).modSlot (c.u 16 1) (fun _ => { state := 1 })
      b.startOp c (fwObj (c.u 16 1)) (k % 2 ^ 32)) fn slot

/-- FW_ERASE_COMPLETE: the erase that FW_BEGIN started finishes (R360, R380). -/
def doFwEraseComplete (b : Bridge) : Bridge :=
  match b.boot.session with
  | none => b
  | some s =>
    if s.erased then b
    else
      let b := b.putSession (some { s with erased := true })
      match b.opOn 0xA01 (fwObj s.slot) with
      | some o => b.endOp o 0 []
      | none => b

/-- A range meets bytes already written (R381). -/
def FwSession.overlaps (s : FwSession) (first last : Nat) : Bool := s.written.any (fun r => decide (r.1 < last) && decide (first < r.2))

/-- The ranges written with one more, in ascending order. -/
def insertRange (r : Nat × Nat) : List (Nat × Nat) → List (Nat × Nat)
  | [] => [r]
  | x :: t => if r.1 < x.1 then r :: x :: t else x :: insertRange r t

/-- Bytes written (R381). -/
def FwSession.bytes (s : FwSession) : Nat := (s.written.map (fun r => r.2 - r.1)).foldl (· + ·) 0

/-- A session takes a run of image bytes, and keeps those of the header (R381, R468). -/
def FwSession.take (off : Nat) (data : List Byte) (s : FwSession) : FwSession :=
  { s with written := insertRange (off, off + data.length) s.written
           header := ((List.range data.length).zip data).foldl
             (fun h e => if off + e.1 < 256 then Tbl.put (off + e.1) e.2 h else h) s.header }

/-- FW_DATA (R380, R381). While the slot is being erased or verified it is BUSY. -/
def doFwData (fn slot : Nat) (b : Bridge) : Bridge :=
  b.citanRun 0xA02 .manager (fun c => decide (c.len = 8 + c.u 20 2))
    (fun c b =>
      let off := c.u 16 4
      let n := c.u 20 2
      match b.boot.session with
      | none => badAt 16 true
      | some s => firstBad [badAt 16 (decide (off % 8 ≠ 0) || decide (s.size ≤ off) || s.overlaps off (off + n)),
          badAt 20 (decide (n = 0) || decide (216 < n) || decide (s.size < off + n)), c.reserved 22 2, failIf (!s.erased || s.verifying) 1])
    (fun c b =>
      match b.boot.session with
      | none => b
      | some s =>
        let s := s.take (c.u 16 4) (bytesAt 24 (c.u 20 2) c.bytes)
        let b := b.putSession (some s)
        (b.modSlot s.slot (fun x => { x with state := if s.bytes = s.size then 2 else 1 })).ok c []) fn slot

/-- FW_VERIFY (R380, R381). Without a session it is answered as FW_DATA is. -/
def doFwVerify (fn slot : Nat) (b : Bridge) : Bridge :=
  b.citanRun 0xA03 .manager (fun c => decide (c.len = 0))
    (fun _ b =>
      match b.boot.session with
      | none => badAt 16 true
      | some s => failIf (!s.erased || s.verifying || b.opBusy (fwObj s.slot)) 1)
    (fun c b =>
      match b.boot.session with
      | none => b
      | some s => (b.putSession (some { s with verifying := true })).startOp c (fwObj s.slot) 0) fn slot

/-- A field of the image header that a session has written (R468). -/
def FwSession.field (s : FwSession) (off n : Nat) : Nat := leNat ((List.range n).map (fun i => Tbl.get 0xFF (off + i) s.header))

/-- The slot after its verification (R468, R469): the first check that fails gives RESULT. `good` says whether the key's hash and the
signature verify. -/
def FwSession.verified (good : Bool) (s : FwSession) (b : Bridge) : FwSlot :=
  let key := s.field 14 1
  let head := decide (s.field 0 4 = 0x3716A0B5) && decide (s.field 4 2 = 0x7160) && decide (s.field 6 2 = 1)
  let r := if s.bytes ≠ s.size then 3 else if !head then 4
    else if decide (3 < key) || bitOf (b.fuse 24) key || !good then 1
    else if s.field 12 2 < b.rollback then 2 else 0
  { good := decide (r = 0) || decide (r = 2), version := s.field 8 4, rollback := s.field 12 2, keyIndex := key
    state := if r = 0 then 3 else 4, result := r }

/-- FW_VERIFY_COMPLETE: the slot is verified or FAILED, and the session is closed (R381, R469). -/
def doFwVerifyComplete (good : Bool) (b : Bridge) : Bridge :=
  match b.boot.session with
  | none => b
  | some s =>
    if !s.verifying then b
    else
      let x := s.verified good b
      let b := (b.putSession none).modSlot s.slot (fun _ => x)
      match b.opOn 0xA03 (fwObj s.slot) with
      | some o => b.endOp o 0 (leBytes 1 x.result)
      | none => b

/-- FW_ACTIVATE (R381, R470, R471): both copies of the boot select record are written. -/
def doFwActivate (fn slot : Nat) (b : Bridge) : Bridge :=
  b.citanRun 0xA04 .manager (fun c => decide (c.len = 1))
    (fun c b => badAt 16 (decide (c.u 16 1 = 0) || decide (2 < c.u 16 1) || decide ((b.fwSlot (c.u 16 1)).state ≠ 3)))
    (fun c b => ({ b with boot := { b.boot with next := some (c.u 16 1), seq := (b.boot.seq + 2) % 2 ^ 32 } }).ok c []) fn slot

/-- The rollback counter's fuses take a value: bits 0 to VALUE - 1 of words 16 to 23 (R472). -/
def Fuses.rollTo (value : Nat) (f : Fuses) : Fuses :=
  (List.range 8).foldl (fun f k => f.program (16 + k) (2 ^ Nat.min 32 (value - 32 * k) - 1)) f

/-- ROLLBACK_COMMIT (R381, R472). -/
def doRollbackCommit (fn slot : Nat) (b : Bridge) : Bridge :=
  b.citanRun 0xA05 .manager (fun c => decide (c.len = 2))
    (fun c b => firstBad [badAt 16 (decide ((b.fwSlot b.boot.slot).rollback < c.u 16 2)), failIf (decide (c.u 16 2 ≤ b.rollback)) 5,
      failIf (decide (256 < c.u 16 2)) 4])
    (fun c b => (b.modFuses (fun f => f.rollTo (c.u 16 2))).ok c []) fn slot

/-- FW_STATUS (R380). Where no copy of the record is valid, slot A is tried first (R471). -/
def doFwStatus (fn slot : Nat) (b : Bridge) : Bridge :=
  b.citanRun 0xA06 .manager (fun c => decide (c.len = 0)) (fun _ _ => none)
    (fun c b => b.ok c (leBytes 1 b.boot.slot ++ leBytes 1 (b.boot.next.getD 1) ++ leBytes 1 (b.fwSlot 1).state ++ leBytes 1 (b.fwSlot 2).state
      ++ leBytes 4 (b.fwSlot 1).version ++ leBytes 4 (b.fwSlot 2).version ++ leBytes 2 b.rollback
      ++ leBytes 1 (if b.boot.session.isSome then 1 else 0))) fn slot

-- The side interfaces -----------------------------------------------------------------------------------------------------------

/-- MCTP_PACKET_RECEIVE: a packet on SMBus, which resident firmware then handles (R414); a fenced SMBus function takes
none (R23, R388). -/
def doMctpPacketReceive (b : Bridge) : Bridge := if bitOf b.glb.sideFenced 0 then b else b.level 975 true

/-- UART_RECEIVE (R414). -/
def doUartReceive (b : Bridge) : Bridge := if bitOf b.glb.sideFenced 1 then b else b.level 976 true

end Sys2Proof.Machine
end

