-- ==== Sys2Proof/Machine/Registers.lean ====
section
/-! DEFINITION. The register view (R4-R7, R24-R28, and the register tables of every chapter): what each register reads. -/

namespace Sys2Proof.Machine

open Sys2Proof

/-- A register as it reads: its offset in its block, whether it is the LO half of a pair that is read as R27 states, and its value (of
the pair, for such a half). -/
structure Reg where
  /-- R24: offset -/
  off : Nat
  /-- R27: LO half of a 64-bit value that a read latches -/
  pair : Bool
  /-- R5: value -/
  value : Nat
  deriving DecidableEq, Repr

/-- A 32-bit register. -/
def r32 (off value : Nat) : Reg := { off := off, pair := false, value := value }

/-- A 64-bit value in a LO and HI pair (R27). -/
def r64 (off value : Nat) : Reg := { off := off, pair := true, value := value }

/-- Two 32-bit registers that hold the halves of a value, neither of which latches the other. -/
def rHalves (off value : Nat) : List Reg := [r32 off value, r32 (off + 4) (value / 2 ^ 32)]

/-- What a 4-byte read finds at an offset (R27): a register, or the HI half of a pair. -/
inductive RegHit where
  | word (value : Nat)
  | lo (value : Nat)
  | hi (value : Nat)
  deriving DecidableEq, Repr

/-- The register at an offset of a block. -/
def regAt (off : Nat) : List Reg → Option RegHit
  | [] => none
  | r :: t =>
    if r.off = off then some (if r.pair then .lo r.value else .word r.value)
    else if r.pair && decide (r.off + 4 = off) then some (.hi r.value)
    else regAt off t

/-- The LATE_WR bit of a register block (R7). -/
def Bridge.late (b : Bridge) (n : Nat) : Nat := b2n (Tbl.get false n b.faults.lateWr)

/-- A signed number as a field of 8 bits (R273). -/
def byteOf (i : Int) : Nat := (i % 256).toNat

-- Global and scheduler registers ------------------------------------------------------------------------------------------------

/-- The global block (R25, R26, R28). -/
def Bridge.glbRegs (b : Bridge) : List Reg :=
  [r32 0x00 glbId, r32 0x04 b.glbService, r32 0x08 b.glbBoot, r64 0x10 b.stride, r64 0x18 b.glb.time, r32 0x20 b.glbUnitFenced,
    r32 0x24 b.glbSpareUse, r32 0x28 b.glbSpareHbm, r32 0x2C b.glb.veto, r32 0x30 (b.late 0), r32 0x40 b.glb.scratch.toNat]

/-- STR_PHASE (R62). -/
def Bridge.strPhase (b : Bridge) : Nat :=
  packWord [(0, 11, b.phase), flagAt 11 (decide (b.phase < 128)), flagAt 12 (decide (32 ≤ b.phase))]

/-- The scheduler globals (R61, R62). -/
def Bridge.strRegs (b : Bridge) : List Reg :=
  [r32 0x00 b.strPhase, r32 0x04 (packWord [(0, 8, b.glb.shares.1), (8, 8, b.glb.shares.2.1), (16, 8, b.glb.shares.2.2)]),
    r32 0x08 0x20302004, r32 0x0C b.glb.overrun, r32 0x10 (b.late 1)]

/-- CHn_SCH_CAP (R64): C reads 0 while the link is down. -/
def Channel.capWord (c : Channel) : Nat :=
  let k := if c.phy.width = 0 then 0 else c.sch.c
  packWord [(0, 10, k), (10, 6, linkOvh k), (16, 11, engCap)]

/-- CHn_SCH_CARRY (R64). -/
def Sched.carryWord (s : Sched) : Nat := packWord [(0, 8, s.headAtTick), (8, 8, s.carry.inb), (16, 8, s.carry.out), (24, 8, s.carry.eng)]

/-- CHn_SCH_STATUS (R64). -/
def Sched.statusWord (s : Sched) : Nat := packWord [flagAt 0 s.flip, flagAt 1 s.paused, flagAt 2 s.gated, (4, 6, s.closed)]

/-- A channel's scheduler registers (R63, R64). -/
def Bridge.schRegs (b : Bridge) (n : Nat) : List Reg :=
  let c := b.chan n
  let s := c.sch
  [r32 0x00 c.capWord, r32 0x04 (s.rtt % 65536), r32 0x08 (packWord [(0, 8, s.shown.1), (8, 8, s.shown.2.1), (16, 8, s.shown.2.2)]),
    r32 0x0C s.carryWord, r32 0x10 s.statusWord, r32 0x14 (b.late (32 + 8 * n)), r32 0x1C (s.ceil % 1024)]
    ++ (List.range 6).map (fun k => r64 (0x40 + 8 * k) (Tbl.get 0 (k + 1) s.lines))
    ++ [r32 0x80 s.defers, r32 0x84 s.ovhs, r32 0x88 s.reds, r32 0x8C s.aged, r32 0x90 s.withdraws, r32 0x94 s.overruns, r32 0x98 s.flips]

/-- CHn_XLT_STATUS (R104): a frozen descriptor is one that resident firmware rebuilds. -/
def Bridge.xltStatus (b : Bridge) (n : Nat) : Nat :=
  packWord [flagAt 0 (b.chan n).acc.mapLoaded,
    flagAt 1 (b.herd.desc.any (fun e => decide (e.1 / 2 ^ 22 = n) && e.2.valid && decide (e.2.state = 3))),
    flagAt 2 (b.ten.seg.any (fun e => e.2.valid && e.2.mirrored && e.2.onAlt && decide (e.2.alt.1 = n)))]

/-- CHn_WCB_STATUS (R104). -/
def Access.wcbStatus (a : Access) : Nat :=
  packWord [(0, 7, a.wcb.length), (8, 7, (a.wcb.filter (fun e => !e.sealed)).length), (16, 7, a.high)]

/-- A channel's translation, write-combining and line-protection registers, by offset in the channel's block (R103, R104). DLA is the
address of the line. -/
def Bridge.accRegs (b : Bridge) (n : Nat) : List Reg :=
  let a := (b.chan n).acc
  [r32 0x1000 (b.xltStatus n), r32 0x1004 (b.late (33 + 8 * n)), r64 0x1010 a.hit, r64 0x1018 a.miss, r32 0x1020 a.excLookup,
    r32 0x1024 a.dirMiss, r32 0x1028 a.unbacked, r32 0x102C a.tagMismatch, r32 0x1030 a.crcErr, r32 0x1100 a.wcbStatus,
    r64 0x1108 a.writes, r64 0x1110 a.coalesce, r64 0x1118 a.rdmerge, r32 0x1120 a.full, r32 0x1200 a.corr, r32 0x1204 a.uncorr,
    r32 0x1208 a.poisonRd, r32 0x120C a.mirrorFix, r32 0x1210 a.poisonWr,
    r64 0x1218 (packWord [(0, 47, a.last.1), (48, 8, a.last.2), flagAt 63 a.lastValid])]

-- Herder, journal and near tier -----------------------------------------------------------------------------------------------------

/-- Placement is frozen (R140): the Herder is fenced, or both journal copies are lost. -/
def Bridge.frozen (b : Bridge) : Bool := b.herd.fenced || (b.copyLost 0 && b.copyLost 1)

/-- HRD_STATUS (R140). -/
def Bridge.hrdStatus (b : Bridge) : Nat :=
  packWord [flagAt 0 b.herderOn, flagAt 1 b.frozen, flagAt 2 (b.herd.copies.any (fun e => decide (e.2.cause = .relocation)))]

/-- HRD_EVAC (R140). -/
def Bridge.hrdEvac (b : Bridge) : Nat :=
  packWord [(0, 16, channelMask (fun n => (b.chan n).herd.evac)), (16, 16, channelMask (fun n => (b.chan n).herd.evac && (b.chan n).herd.auto))]

/-- HRD_CHn_MOVES (R140). -/
def Bridge.chMoves (b : Bridge) (n : Nat) : Nat :=
  let src := b.herd.copies.filter (fun e => decide (e.2.srcCh = n))
  packWord [(0, 7, src.length), (8, 7, (b.herd.copies.filter (fun e => decide (e.2.dstCh = n))).length),
    (16, 7, (src.map (fun e => popCount e.2.inFlight.toNat 64)).foldl (· + ·) 0)]

/-- The journal engine's registers (R449, R450). -/
def Bridge.jrnRegs (b : Bridge) : List Reg :=
  let j := b.jrn
  let copy := fun k => packWord [(0, 4, (j.at k).ch), (4, 2, (j.at k).state), flagAt 6 (j.at k).volatile, (7, 1, (j.at k).slot),
    (8, 7, j.fill * 100 / jrnRegion), (16, 16, Nat.min 0xFFFF (ceilDiv b.backlog 64))]
  [r32 0x2000 (packWord [(0, 2, j.lastEnd), flagAt 2 j.compacting, flagAt 3 j.hold, flagAt 4 j.replaying]), r32 0x2004 (b.late 3)]
    ++ rHalves 0x2010 j.seq ++ rHalves 0x2018 j.ckptSeq
    ++ [r32 0x2020 (copy 0), r32 0x2024 (copy 1), r32 0x2028 (packWord [(0, 3, j.step), flagAt 3 j.clean, (16, 16, j.saved)]),
      r32 0x202C (packWord [(0, 20, j.budget.1), (20, 4, j.budget.2.1), flagAt 24 j.budget.2.2]), r64 0x2040 j.records, r32 0x2048 j.ckpts,
      r32 0x204C j.heldCount, r32 0x2050 j.copyDiff, r32 0x2054 j.refused]

/-- The Herder's registers (R139, R140), with those of the journal engine. -/
def Bridge.hrdRegs (b : Bridge) : List Reg :=
  let h := b.herd
  let t := h.tune
  [r32 0x00 b.hrdStatus,
    r32 0x04 (packWord [(0, 4, t.sampleShift), (4, 5, t.decayPeriod), (12, 3, t.decayShift), (16, 1, t.balEnable), (24, 8, t.balSpread)]),
    r32 0x08 (packWord [(0, 8, t.promote), (8, 8, t.demote), (16, 6, t.migBudget), (24, 6, t.evacBudget), (30, 1, t.autoEvac)]),
    r32 0x0C b.hrdEvac, r32 0x10 (b.late 2), r64 0x20 h.promotes, r64 0x28 h.demotes, r64 0x30 h.relocates, r64 0x38 h.evacGran,
    r64 0x40 h.pieces, r64 0x48 h.nearPieces, r32 0x60 h.retires, r32 0x64 h.aborts, r32 0x68 h.excFull, r32 0x6C h.heatEvict,
    r32 0x70 h.quotaBlock, r32 0x74 h.drainHeld, r32 0x80 (h.copies.length % 2048)]
    ++ channels.flatMap (fun n =>
      let c := (b.chan n).herd
      [r32 (0x100 + n * 0x10) (b.chMoves n), r32 (0x104 + n * 0x10) (if c.evac then (b.evacExts n).length else 0),
        r32 (0x108 + n * 0x10) (packWord [(0, 6, if c.raised then t.evacBudget else t.migBudget), flagAt 6 c.raised])])
    ++ b.jrnRegs

/-- NTR_STATUS (R142). AT_CEIL shows the ceilings that ticks have taken: none before LEVEL leaves 0. -/
def Bridge.ntrStatus (b : Bridge) : Nat :=
  packWord [(0, 16, channelMask (fun n => decide (b.glb.level ≠ 0) && decide (b.dirtyCount n = (b.chan n).herd.ceil))),
    flagAt 16 b.persistMode, flagAt 17 (channels.any b.overCeil)]

/-- NTR_DEV_DIRTY (R138, R142). -/
def Bridge.devDirty (b : Bridge) : Nat := (channels.map b.dirtyCount).foldl (· + ·) 0

/-- NTR_DEV_CEIL (R142). -/
def Bridge.devCeil (b : Bridge) : Nat := (channels.map (fun n => (b.chan n).herd.ceil)).foldl (· + ·) 0

/-- The near tier's registers (R141, R142). -/
def Bridge.ntrRegs (b : Bridge) : List Reg :=
  let h := b.herd
  [r32 0x00 b.ntrStatus, r32 0x04 (b.freeFrames 0), r32 0x08 (b.freeFrames 1), r32 0x0C (h.holdup % 2 ^ 17), r32 0x10 (b.late 4),
    r32 0x18 b.devDirty, r32 0x1C b.devCeil, r64 0x20 h.wbLines, r64 0x28 h.wtDrain, r32 0x30 h.ceilStrides, r32 0x34 h.overStrides,
    r32 0x38 (h.tune.dirtyCeil % 128)]
    ++ channels.flatMap (fun n =>
      [r32 (0x100 + n * 0x10) (b.dirtyCount n), r32 (0x104 + n * 0x10) (b.chan n).herd.ceil,
        r32 (0x108 + n * 0x10) (h.dir.filter (fun e => decide (e.2.resCh = n) && decide (e.2.state ≠ .filling))).length])

-- Faults --------------------------------------------------------------------------------------------------------------------------

/-- FLT_SEVERE (R407). -/
def Bridge.severeMask (b : Bridge) : Nat := packBits (fun k => b.faults.severeAny k) 56

/-- FLT_STATUS (R408). -/
def Bridge.fltStatus (b : Bridge) : Nat :=
  packWord [flagAt 0 b.faults.faultLow, flagAt 1 b.faults.gasp.isSome, flagAt 2 (b.faults.logGood.1 != b.faults.logGood.2),
    (8, 6, popCount b.severeMask 56)]

/-- The sequence of the oldest entry held (R407): that of the next where none is. -/
def Bridge.logFirst (b : Bridge) : Nat := (b.faults.log.head?.map (fun e => e.seq)).getD b.faults.nextSeq

/-- FLT_LASTGASP (R408). -/
def Bridge.gaspWord (b : Bridge) : Nat :=
  match b.faults.gasp with
  | some (_, k, s, c) => packWord [(0, 8, k), (8, 5, s), (16, 2, c), flagAt 31 true]
  | none => 0

/-- The fault, snapshot and log globals (R407, R408). -/
def Bridge.fltRegs (b : Bridge) : List Reg :=
  let f := b.faults
  [r32 0x00 b.fltStatus, r32 0x04 (b.late 5), r32 0x08 (b2n f.forceLock)] ++ rHalves 0x10 f.nextSeq ++ rHalves 0x18 b.logFirst
    ++ rHalves 0x20 b.severeMask ++ rHalves 0x30 ((f.gasp.map (fun g => g.1)).getD 0)
    ++ [r32 0x38 b.gaspWord,
      r32 0x40 (packWord [flagAt 0 (bitOf f.due 0), flagAt 2 f.armed, flagAt 3 f.pinEn, flagAt 4 f.outEn, flagAt 5 f.faultEn]),
      r32 0x44 (packWord [(0, 8, f.sel.1), (8, 5, f.sel.2), flagAt 16 f.onSevere]), r32 0x48 f.cause, r32 0x4C f.missed]
    ++ rHalves 0x50 f.snapTime ++ [r32 0x58 f.snaps]

/-- The sources of a block that a test accepts, as a mask. -/
def Bridge.sourceMask (b : Bridge) (k : Nat) (p : FaultSrc → Bool) : Nat := packBits (fun s => p (b.faults.source k s)) 32

/-- FLT_FBb_STATUS (R409). -/
def Bridge.fbStatus (b : Bridge) (k : Nat) : Nat :=
  packWord [flagAt 0 (b.faults.severeAny k), flagAt 1 (b.blockFenced k), (8, 5, highestSource k)]

/-- One history entry's registers (R389, R409). -/
def HistEntry.regs (off : Nat) (e : HistEntry) : List Reg :=
  rHalves off e.time ++ [r32 (off + 8) (packWord [(0, 5, e.src), flagAt 5 e.forced, (6, 2, e.kind.code), flagAt 8 true]),
    r32 (off + 12) (e.detail % 2 ^ 32)]

/-- A fault block's view (R409). -/
def Bridge.fbRegs (b : Bridge) (k : Nat) : List Reg :=
  let x := b.faults.blk k
  [r32 0x00 (b.fbStatus k), r32 0x04 (b.sourceMask k (fun s => s.severe)), r32 0x08 (b.sourceMask k (fun s => s.event)),
    r32 0x240 (packWord [(0, 3, x.next), flagAt 3 x.wrapped]), r32 0x2A0 (packWord [(0, 2, x.stamp), flagAt 2 (decide (k < 16) || decide (k = 0x24))])]
    ++ (List.range 32).flatMap (fun s =>
      match faultKind k s with
      | some kind =>
        [r32 (0x40 + s * 4) (b.faults.source k s).count,
          r32 (0xC0 + s * 4) (packWord [(0, 8, (b.faults.nw k s).1), (8, 21, (b.faults.nw k s).2), (29, 2, kind.code)]),
          r32 (0x140 + s * 4) (b.levelNow k s)]
      | none => [])
    ++ (List.range 8).flatMap (fun e => ((Tbl.find e x.hist).map (HistEntry.regs (0x1C0 + e * 0x10))).getD [])
    ++ (List.range 8).map (fun w => r32 (0x280 + w * 4) (Tbl.get 0 w x.snap).toNat)

-- Interrupt controller --------------------------------------------------------------------------------------------------------------

/-- The code of a source's state (R431). -/
def SrcState.code : SrcState → Nat
  | .idle => 0
  | .waiting => 1
  | .pending => 2
  | .inService => 3

/-- A mask of 32 sources from `32 w` on (R430). -/
def Bridge.srcMask (b : Bridge) (w : Nat) (p : Nat → Source → Bool) : Nat :=
  packBits (fun i => decide (32 * w + i < 1022) && p (32 * w + i) (b.icu.source (32 * w + i))) 32

/-- ICU_STATUS (R431). -/
def Bridge.icuStatus (b : Bridge) : Nat :=
  packWord [flagAt 0 b.icu.gdis, flagAt 1 (decide (b.pwr.state = 3)), flagAt 2 b.icu.fenced,
    (8, 10, (b.icu.src.filter (fun e => decide (e.2.state = .pending))).length)]

/-- ICU_Ck_STATE (R431). -/
def Bridge.coreState (b : Bridge) (k : Nat) : Nat :=
  let p := b.icu.port k
  packWord [(0, 10, p.last), (12, 4, p.threshold), flagAt 16 (b.coreLine k), flagAt 17 p.withdrawn, flagAt 18 p.taken,
    (20, 11, (b.icu.held k).length)]

/-- ICU_GRPg (R431). -/
def Bridge.grpWord (b : Bridge) (g : Nat) : Nat :=
  let x := b.icu.grp g
  packWord [(0, 8, x.countTh), (8, 12, x.timeTh), (20, 8, x.countNow), flagAt 28 x.round]

/-- ICU_SRCi (R431). -/
def Source.word (s : Source) : Nat :=
  packWord [(0, 4, s.prio), (4, 5, s.target), (9, 5, s.group), flagAt 14 s.enable, (16, 8, s.events), (24, 2, s.state.code),
    (26, 3, if s.state = .inService then s.core else 0)]

/-- The interrupt controller's registers (R430, R431). -/
def Bridge.icuReg (b : Bridge) (off : Nat) : Option RegHit :=
  let u := b.icu
  let w := off / 4
  if off < 0x40 then
    regAt off ([r32 0x00 b.icuStatus, r32 0x04 (b.late 6), r32 0x0C (b2n u.badComplete), r32 0x10 u.watched.length,
      r32 0x14 (match u.whCause with
        | some i => packWord [(0, 10, i), flagAt 31 true]
        | none => 0)] ++ rHalves 0x18 u.whTime ++ [r32 0x20 u.wakes, r32 0x24 u.aborts])
  else if off < 0x54 then some (.word (b.coreState (w - 16)))
  else if off < 0x80 then none
  else if off < 0x100 then some (.word (b.grpWord (w - 32)))
  else if off < 0x180 then some (.word (b.srcMask (w - 64) (fun _ s => s.level)))
  else if off < 0x200 then some (.word (b.srcMask (w - 96) (fun _ s => decide (s.state = .pending))))
  else if off < 0x280 then some (.word (b.srcMask (w - 128) (fun _ s => decide (s.state = .inService))))
  else if off < 0x300 then some (.word (b.srcMask (w - 160) (fun i _ => u.watched.contains i)))
  else if off = 0x300 then some (.word u.swsrc)
  else if 0x1000 ≤ off ∧ w - 1024 < 1022 then some (.word (u.source (w - 1024)).word)
  else none

-- Tenancy --------------------------------------------------------------------------------------------------------------------------

/-- TEN_STATUS (R347). -/
def Bridge.tenStatus (b : Bridge) : Nat :=
  packWord [(0, 9, (b.ten.inst.filter (fun e => decide (e.2.state = .live))).length),
    flagAt 9 (b.ten.inst.any (fun e => decide (e.2.state = .creating) || decide (e.2.state = .tearing))), flagAt 10 b.ten.keysLost]

/-- TEN_INSTn (R347): instance 0 shows nothing but TAG_ERR outside full and degraded service. -/
def Bridge.instWord (b : Bridge) (i : Nat) : Nat :=
  let x := b.inst i
  if x.state = .none || (decide (i = 0) && decide (b.glb.level < 2)) then packWord [(24, 8, x.tagErr)]
  else packWord [(0, 2, x.state.code), flagAt 2 x.keyValid, flagAt 3 (decide (x.grant.mirrored ≠ 0)),
    (8, 7, if i = 0 then 64 else x.grant.vectors), (16, 8, x.grant.weight), (24, 8, x.tagErr)]

/-- TEN_SEMs (R347). -/
def Sem.word (s : Sem) : Nat := packWord [flagAt 0 s.holder.isSome, flagAt 1 s.broken, (8, 8, s.holder.getD 0)]

/-- The Leash of an instance (R348): it reads 0 while the instance is in NONE, and so do its buckets while it is off. -/
def Inst.leashRegs (x : Inst) : List Reg :=
  let g := x.grant
  let r := g.rd
  let w := g.wr
  let bucket := fun v => if g.leashOn then v else 0
  [r32 0x00 (packWord [flagAt 0 g.leashOn, flagAt 1 g.rfc4115, flagAt 2 r.aware, flagAt 3 w.aware, (8, 8, r.overhead), (16, 8, w.overhead)]),
    r32 0x04 (packWord [flagAt 0 x.rdRedLast, flagAt 1 x.rdRedNow, flagAt 2 x.wrRedNow]), r32 0x08 r.cir, r32 0x0C r.cbs, r32 0x10 r.pir,
    r32 0x14 r.pbs, r32 0x18 w.cir, r32 0x1C w.cbs, r32 0x20 w.pir, r32 0x24 w.pbs, r32 0x28 (bucket r.tc), r32 0x2C (bucket r.tp),
    r32 0x30 (bucket w.tc), r32 0x34 (bucket w.tp), r64 0x40 r.green, r64 0x48 r.yellow, r64 0x50 r.red, r64 0x58 w.green, r64 0x60 w.yellow,
    r64 0x68 w.red]

/-- The tenancy registers (R346-R348). -/
def Bridge.tenReg (b : Bridge) (off : Nat) : Option RegHit :=
  let t := b.ten
  if off < 0x100 then
    regAt off [r32 0x00 b.tenStatus, r32 0x04 (b.late 7), r32 0x10 t.unbacked, r32 0x14 t.noOwner, r32 0x18 t.semDenied,
      r32 0x1C t.semBadrel, r32 0x20 t.semBroken]
  else if off < 0x120 then
    some (.word (packBits (fun k => decide ((b.inst (32 * (off / 4 - 64) + k)).state = .live)) 32))
  else if 0x1000 ≤ off ∧ off < 0x1400 then some (.word (b.instWord (off / 4 - 1024)))
  else if 0x2000 ≤ off ∧ off < 0x2100 then some (.word (b.semOf (off / 4 - 2048)).word)
  else if 0x10000 ≤ off ∧ off < 0x18000 then
    let x := b.inst ((off - 0x10000) / 0x80)
    if x.state = .none then regAt (off % 0x80) (({} : Inst).leashRegs) else regAt (off % 0x80) x.leashRegs
  else none

-- Kennel and fuses --------------------------------------------------------------------------------------------------------------------

/-- KNL_STATUS (R483). -/
def Bridge.knlStatus (b : Bridge) : Nat :=
  let k := b.knl
  packWord [flagAt 0 k.kekValid, flagAt 1 k.kekProv, flagAt 2 k.latch, flagAt 3 (decide (k.active ≠ 0)), flagAt 4 k.vbatLow, flagAt 5 b.keyOp,
    flagAt 6 k.stateLost, (8, 8, k.epoch)]

/-- FUS_STATUS (R483): programming takes no time here; the spares are known once the shadow is complete. -/
def Fuses.statusWord (f : Fuses) : Nat :=
  packWord [flagAt 0 f.valid, flagAt 1 f.verifying, (8, 8, popCount f.marginal.toNat 128),
    (16, 5, if f.valid then 16 - (f.spare.filter (fun e => e.2.used)).length else 0)]

/-- The kennel and fuse registers (R482, R483); the secret words read 0 (R476). -/
def Bridge.knlReg (b : Bridge) (off : Nat) : Option RegHit :=
  let k := b.knl
  let f := b.fuses
  let i := off / 4
  if off < 0x120 then
    regAt off ([r32 0x00 b.knlStatus, r32 0x04 (b.late 9), r32 0x08 (b2n k.debugOff),
      r32 0x0C (packWord [(0, 16, k.count), (16, 4, k.tmpEn), (24, 7, k.active)]), r32 0x10 (packWord [(0, 4, k.next), flagAt 4 k.wrapped]),
      r32 0x14 (k.vbat % 8192)]
      ++ (List.range 16).flatMap (fun e =>
        match Tbl.find e k.log with
        | some t => rHalves (0x20 + e * 0x10) t.time ++ [r32 (0x28 + e * 0x10) (packWord [(0, 8, t.epoch), (8, 8, t.cause), (16, 16, t.detail)])]
        | none => []))
  else if 0x200 ≤ off ∧ off < 0x260 then some (.word (Tbl.get 0 (i - 128) k.idpub).toNat)
  else if off < 0x1000 then none
  else if off < 0x1080 then
    regAt off [r32 0x1000 f.statusWord, r32 0x1004 (b.late 10), r32 0x1008 f.verifies, r32 0x100C f.diffs,
      r32 0x1010 (match f.last with
        | some (w, u) => packWord [(0, 7, w), flagAt 7 u, flagAt 8 true]
        | none => 0)]
  else if off < 0x1090 then some (.word (f.marginal.toNat / 2 ^ (32 * (i - 0x420)) % 2 ^ 32))
  else if 0x1100 ≤ off ∧ off < 0x1300 then
    let w := i - 0x440
    some (.word (if 25 ≤ w ∧ w ≤ 44 then 0 else b.fuse w))
  else if 0x1300 ≤ off ∧ off < 0x1340 then
    let s := Tbl.get ({} : FuseSpare) (i - 0x4C0) f.spare
    some (.word (packWord [(0, 7, s.target), flagAt 7 s.used, flagAt 8 s.active]))
  else none

-- Mailboxes, rings and semaphore views --------------------------------------------------------------------------------------------------

/-- The code of a slot's state (R344). -/
def SlotState.code : SlotState → Nat
  | .free => 0
  | .posted => 1
  | .running => 2
  | .done => 3

/-- A word of a mailbox (R343, R344). -/
def Mailbox.reg (m : Mailbox) (off : Nat) : Option RegHit :=
  if off < 0x100 then
    regAt off [r32 0x04 (packWord ((List.range 8).map (fun k => (2 * k, 2, (m.slot k).state.code)) ++ [(16, 4, m.waiting.length)])),
      r32 0x08 m.done, r32 0x0C (packWord [flagAt 0 m.dbErr, flagAt 1 m.wrErr, flagAt 2 m.notifyLost]),
      r32 0x10 (packWord [flagAt 0 m.respIrq, flagAt 1 m.notifyIrq]), r32 0x14 (b2n m.lateWr)]
  else if off < 0x200 then some (.word (Tbl.get 0 (off / 4 - 64) m.notify).toNat)
  else if 0x1000 ≤ off ∧ off < 0x2000 then
    let s := m.slot ((off - 0x1000) / 0x200)
    let w := off % 0x200 / 4
    some (.word (if w < 64 then Tbl.get 0 w s.cmd else Tbl.get 0 (w - 64) s.rsp).toNat)
  else none

/-- A ring's registers (R180, R181). -/
def Bridge.ringRegs (b : Bridge) (fn k : Nat) : List Reg :=
  let r := b.ring fn k
  let jobs := b.jobs (fun j => decide (j.fn = fn) && decide (j.ring = k))
  rHalves 0x00 r.base
    ++ [r32 0x08 (packWord [(0, 4, r.sizeLog2), flagAt 8 r.enable]), r32 0x0C (packWord [(0, 16, r.head), (16, 16, r.tail)]),
      r32 0x10 (packWord [flagAt 0 r.dbErr, flagAt 1 r.cfgErr, flagAt 2 r.fetchErr, flagAt 3 r.resultErr,
        flagAt 4 (decide (r.head = r.tail) && !b.scan.job.any (fun e => decide (e.2.fn = fn) && decide (e.2.ring = k))
          && !b.scan.fetch.any (fun e => decide (e.2.fn = fn) && decide (e.2.ring = k))), (8, 8, jobs), (16, 16, r.errIndex)])]

/-- A function's rings (R180, R181); those at or above its count read 0 (R144). -/
def Bridge.ringReg (b : Bridge) (fn off : Nat) : Option RegHit :=
  if off < 0x200 then if off / 0x40 < b.ringCount fn then regAt (off % 0x40) (b.ringRegs fn (off / 0x40)) else none
  else
    regAt off [r32 0x200 (b.late (2048 + fn)),
      r32 0x204 (packWord [(0, 7, b.jobs (fun j => decide (j.fn = fn))), flagAt 8 (b.inst fn).rdRedLast, (16, 4, b.ringCount fn)])]

/-- A function's MSI-X table, and its PBA `pba` bytes on (R202, R206, R221, R242). -/
def Bridge.msixReg (b : Bridge) (fn off pba : Nat) : Option RegHit :=
  if off < 16 * Nat.max 1 (b.vectors fn) then
    let e := (b.func fn).entry (off / 16)
    some (.word (match off / 4 % 4 with
      | 0 => e.addr % 2 ^ 32
      | 1 => e.addr / 2 ^ 32
      | 2 => e.data
      | _ => b2n e.masked))
  else if pba ≤ off ∧ off < pba + 8 then
    some (.word (packBits (fun v => ((b.func fn).entry (32 * ((off - pba) / 4) + v)).pba) 32))
  else none

/-- A function's side of a VF's BAR0, or of PF0's from 0x0080_0000 on (R180, R206, R336, R343), but for SEMs_ACQ, whose read has an effect
(R336). The MSI-X table and PBA of a VF stand there too (R221, R242). -/
def Bridge.sideReg (b : Bridge) (fn off : Nat) : Option RegHit :=
  if off < 0x10000 then (b.mbx fn).reg off
  else if 0x20000 ≤ off ∧ off < 0x30000 then b.ringReg fn (off - 0x20000)
  else if 0x30000 ≤ off ∧ off < 0x30400 then
    if off % 0x10 = 4 then
      let s := b.semOf ((off - 0x30000) / 0x10)
      some (.word (s.view fn s.broken))
    else none
  else if fn ≠ 0 ∧ 0x38000 ≤ off then b.msixReg fn (off - 0x38000) 0x4000
  else none

-- Channel registers of the retriever, lanes, link and sled position -------------------------------------------------------------------

/-- CHn_RTV_LANES (R184). -/
def Rtv.lanesWord (r : Rtv) : Nat :=
  packWord [(0, 5, r.active), (8, 5, r.fenced), (16, 5, r.test), (24, 5, packBits (fun j => (Tbl.find j r.lane).isSome) 5)]

/-- A channel's retriever registers, by offset in the channel's block (R183, R184). -/
def Bridge.rtvRegs (b : Bridge) (n : Nat) : List Reg :=
  let r := (b.chan n).rtv
  [r32 0x2000 r.lanesWord, r32 0x2004 (packWord [(0, 9, r.nearQ.length), (16, 9, r.farQ.length)]), r32 0x2008 r.parked.length,
    r32 0x200C (b.late (34 + 8 * n)), r64 0x2020 r.lines, r64 0x2028 r.rows, r64 0x2030 r.qual, r64 0x2038 r.outBytes, r32 0x2040 r.pieces,
    r32 0x2044 r.restart, r32 0x2048 r.poisonRows, r32 0x204C r.parks, r32 0x2050 r.pageErr]

/-- The dispatcher's registers (R182). -/
def Bridge.dispStatus (b : Bridge) : Nat := packWord [(0, 12, b.jobs (fun _ => true)), flagAt 12 b.scan.stopped]

/-- The dispatcher's registers (R182). -/
def Bridge.dispRegs (b : Bridge) : List Reg :=
  let s := b.scan
  [r32 0x00 b.dispStatus, r32 0x04 (b.late 8), r64 0x10 s.accepted, r32 0x20 s.descErr, r32 0x24 s.fenceWait, r32 0x28 s.throttle,
    r32 0x2C s.cancelOk, r32 0x30 s.cancelLate, r32 0x34 s.ringHold]

/-- CHn_HTL_PHY_STATUS (R273). -/
def Phy.statusWord (p : Phy) : Nat := packWord [(0, 2, p.rate), (2, 2, p.width), (4, 4, p.state.code), (8, 4, p.fail), (12, 2, p.attempt)]

/-- Inbound lane `k` carries keep-alive (R267, R273). -/
def Phy.keepAlive (p : Phy) (k : Nat) : Bool :=
  (decide (p.state = .active) || decide (p.state = .fastRetrain) || decide (p.state = .exit)) && !bitOf p.inMap k && !bitOf p.rxFailed k

/-- Transmitters of lanes that are DISABLED or DOWN show no preset (R273). -/
def Phy.presetOf (p : Phy) (k : Nat) : Nat :=
  if p.state = .disabled || p.state = .down then 0 else (p.ln k).preset

/-- The registers of lane `k` (R272, R273). -/
def Phy.laneRegs (p : Phy) (k : Nat) : List Reg :=
  let l := p.ln k
  let at0 := 0x4100 + k * 0x40
  [r32 at0 (packWord [flagAt 0 l.los, flagAt 1 l.lol, flagAt 2 l.locked, flagAt 3 l.prbsLock, flagAt 4 (decide (p.state = .eidle)),
      flagAt 5 (bitOf p.inMap k), flagAt 6 (p.keepAlive k), (8, 8, byteOf l.freqOff)]),
    r32 (at0 + 0x04) (packWord [(0, 8, byteOf l.cm2), (8, 8, byteOf l.cm1), (16, 8, byteOf l.cp1), (24, 3, p.presetOf k)]),
    r32 (at0 + 0x08) (packWord [(0, 5, l.prbsCtrl), flagAt 5 l.injOne, (6, 5, l.prbsCtrl / 64)]), r32 (at0 + 0x0C) l.err,
    r32 (at0 + 0x10) l.losCnt, r32 (at0 + 0x14) l.lolCnt, r32 (at0 + 0x18) l.prbsErr, r64 (at0 + 0x20) l.prbsBits]

/-- A channel's lane registers, by offset in the channel's block (R272, R273). -/
def Bridge.phyRegs (b : Bridge) (n : Nat) : List Reg :=
  let p := b.phy n
  [r32 0x4000 p.statusWord, r32 0x4004 (packWord [(0, 5, p.outMap), (8, 5, p.inMap)]),
    r32 0x4008 (packWord [(0, 5, p.txFailed), (8, 5, p.rxFailed), flagAt 16 (bitOf p.outMap 4), flagAt 17 (bitOf p.inMap 4)]),
    r32 0x400C (b.late (35 + 8 * n)), r32 0x4014 p.trains, r32 0x4018 p.fastRt, r32 0x401C p.trainFail, r32 0x4020 p.eidleExit]
    ++ (List.range 5).flatMap p.laneRegs

/-- CHn_HTL_LL_STATUS (R313). -/
def Link.statusWord (l : Link) : Nat :=
  packWord [(0, 3, l.state.code), (3, 3, l.vcs), flagAt 6 l.retrying, flagAt 7 l.replaying, flagAt 8 l.resumed, flagAt 9 l.hold,
    (16, 8, l.unacked.length)]

/-- CHn_HTL_LL_SEQ (R313). -/
def Link.seqWord (l : Link) : Nat := packWord [(0, 12, l.txNext), (16, 12, l.exp)]

/-- A channel's link-layer registers, by offset in the channel's block (R312, R313). -/
def Bridge.llRegs (b : Bridge) (n : Nat) : List Reg :=
  let l := (b.chan n).ll
  [r32 0x5000 l.statusWord, r32 0x5004 l.seqWord, r32 0x5008 (packWord [(0, 14, l.graceUs), (16, 3, l.vcSet), flagAt 19 l.idleEn]),
    r32 0x500C (b.late (36 + 8 * n)), r32 0x5014 l.id.word0, r32 0x5018 l.id.word1, r32 0x501C l.id.word2]
    ++ rHalves 0x5020 l.id.serial
    ++ [r32 0x5028 l.gstore.length, r32 0x5040 l.badFlit, r32 0x5044 l.fecUncorr, r32 0x5048 l.replays, r32 0x504C l.retryReqs,
      r32 0x5050 l.replayTo, r32 0x5054 l.linkDowns, r32 0x5058 l.resumes, r32 0x505C l.flushes, r32 0x5060 l.protoErr, r32 0x5064 l.msyncFix,
      r32 0x5068 l.holdPoison, r64 0x5080 l.txFlits, r64 0x5088 l.rxFlits]

/-- CHn_SVC_STATUS (R524). -/
def Service.statusWord (s : Service) : Nat :=
  packWord [(0, 4, s.state.code), flagAt 4 s.present, flagAt 5 s.state.powered, flagAt 6 (decide (s.state.led ≠ 0)), flagAt 7 s.attnLit,
    flagAt 8 (decide (s.state.led = 2)), flagAt 9 s.admitted, (16, 8, s.reason)]

/-- A sled position's registers, by offset in the channel's block (R523, R524). -/
def Bridge.svcRegs (b : Bridge) (n : Nat) : List Reg :=
  let s := (b.chan n).svc
  [r32 0x6000 s.statusWord, r32 0x6004 (b.late (37 + 8 * n)), r32 0x600C s.inserts, r32 0x6010 s.removals, r32 0x6014 s.surprise,
    r32 0x6018 s.aborts, r32 0x601C s.presses]

/-- A channel's block of 512 KiB. -/
def Bridge.chanReg (b : Bridge) (n off : Nat) : Option RegHit :=
  match off / 0x1000 with
  | 0 => regAt off (b.schRegs n)
  | 1 => regAt off (b.accRegs n)
  | 2 => regAt off (b.rtvRegs n)
  | 4 => regAt off (b.phyRegs n)
  | 5 => regAt off (b.llRegs n)
  | 6 => regAt off (b.svcRegs n)
  | _ => none

-- Host port -------------------------------------------------------------------------------------------------------------------------

/-- PCX_LINK (R246). -/
def HostPort.linkWord (p : HostPort) : Nat :=
  packWord [flagAt 0 p.cxl, flagAt 1 p.flit, (2, 3, p.rate), (5, 5, p.width), (10, 5, p.active), flagAt 15 p.reversed, flagAt 16 p.up,
    flagAt 17 p.memActive, (18, 2, p.lstate)]

/-- A held request is a read of the host's. -/
def PortReq.isRead : PortReq → Bool
  | .read _ _ _ _ _ => true
  | .flush _ _ _ => true
  | .cxlRead _ _ _ => true
  | _ => false

/-- PCX_NP_OUT (R246). -/
def HostPort.npWord (p : HostPort) : Nat :=
  packWord [(0, 10, p.outReads.length), (16, 10, p.reads.length + (p.held.filter (fun e => e.2.isRead)).length)]

/-- PCX_INTA_STATUS (R246). -/
def HostPort.intaWord (p : HostPort) : Nat :=
  packWord [flagAt 0 p.intaCond, flagAt 1 p.intaSent, flagAt 2 (Tbl.get {} 0 p.fn).msixEn]

/-- PCX_DEVLOAD (R235, R246). -/
def Bridge.devloads (b : Bridge) : Nat := packWord (channels.map (fun n => (2 * n, 2, (b.chan n).sch.devload)))

/-- The host port's registers (R245, R246). -/
def Bridge.pcxRegs (b : Bridge) : List Reg :=
  let p := b.port
  [r32 0x00 p.linkWord, r32 0x04 (b.late 11), r32 0x0C p.npWord] ++ rHalves 0x10 p.intaPend.toNat ++ rHalves 0x18 p.intaEn.toNat
    ++ [r32 0x20 p.intaWord, r32 0x24 (packWord [(0, 11, 1984 - b.vectorSum), (16, 11, b.vectorSum)]),
      r32 0x28 (packWord [(0, 4, (b.func 0).cplTo), flagAt 4 (b.func 0).cplDis]), r32 0x2C b.devloads, r64 0x100 p.rxWr, r64 0x108 p.rxRd,
      r64 0x110 p.txWr, r64 0x118 p.txRd, r32 0x140 p.ur, r32 0x144 p.poisonTx, r32 0x148 p.poisonRx, r32 0x14C p.cplTimeout, r32 0x150 p.unexp,
      r32 0x154 p.sizeErr, r32 0x158 p.msiSent, r32 0x15C p.intxMsg, r32 0x160 p.linkDown, r32 0x164 p.malformed]

/-- An HDM decoder's registers (R212, R213), at the offsets of CXL 3.1 (log entry 25). -/
def Hdm.regs (off : Nat) (d : Hdm) : List Reg :=
  rHalves off d.base ++ rHalves (off + 0x08) d.size
    ++ [r32 (off + 0x10) (packWord [(0, 4, d.ig), (4, 4, d.iw), flagAt 8 d.lock, flagAt 10 d.committed, flagAt 11 d.err])]
    ++ rHalves (off + 0x14) d.skip

/-- The CXL component registers that hold state (R210, R212, R239): RAS status at 0x1100, and the HDM Decoder Capability at 0x1200 (log
entry 25). -/
def Bridge.cxlRegs (b : Bridge) : List Reg :=
  [r32 0x1100 b.port.ras, r32 0x1200 0x304, r32 0x1204 (packWord [flagAt 1 b.port.hdmEnable])]
    ++ (List.range 8).flatMap (fun i => (Tbl.get ({} : Hdm) i b.port.hdm).regs (0x1210 + 0x20 * i))

-- Telemetry, power and reset ----------------------------------------------------------------------------------------------------------

/-- TLM_STATUS (R529, R536). -/
def Telemetry.statusWord (t : Telemetry) : Nat :=
  packWord [flagAt 0 (t.valid && !t.fenced), flagAt 1 t.fenced, flagAt 2 (t.hold && t.latched.isSome)]

/-- The readings of offsets 0x0010 to 0x012F (R531, R535, R536). -/
def Bridge.readings (b : Bridge) : List Reg :=
  let t := b.tlm
  [r32 0x10 (packWord [(0, 16, b.hottest.1), (16, 4, b.hottest.2)]), r32 0x14 (packWord [(0, 16, b.sensorBits 13), (16, 16, b.sensorBits 14)]),
    r32 0x18 (b.powerMw % 2 ^ 20), r64 0x20 b.energyMj]
    ++ (List.range 15).map (fun s => r32 (0x40 + s * 4) (packWord [(0, 16, b.sensorBits s), flagAt 16 (Tbl.get ((0 : Int), false) s t.sensor).2]))
    ++ (List.range 7).map (fun k => r32 (0x80 + k * 4) (Tbl.get 0 k t.rail))
    ++ [r64 0x100 t.hostRd, r64 0x108 t.hostWr, r64 0x110 t.sledLines, r64 0x118 t.nearLines, r64 0x120 t.scanLines]

/-- A word of the readings, as it stands. -/
def Bridge.readingWord (b : Bridge) (off : Nat) : Nat :=
  match regAt off b.readings with
  | some (.word v) => v % 2 ^ 32
  | some (.lo v) => v % 2 ^ 32
  | some (.hi v) => v / 2 ^ 32 % 2 ^ 32
  | none => 0

/-- The telemetry registers (R531, R535, R536): under HOLD the readings are those of the latch. -/
def Bridge.tlmReg (b : Bridge) (off : Nat) : Option RegHit :=
  let t := b.tlm
  if off < 0x10 then regAt off [r32 0x00 t.statusWord, r32 0x04 (b.late 12), r32 0x08 (packWord [flagAt 1 t.hold])]
  else if off < 0x130 then
    if t.hold then some (.word (Tbl.get 0 (off / 4) (t.latched.getD [])).toNat) else regAt off b.readings
  else none

/-- TLM_PWR_STATE (R508): 5 while the power-loss sequence runs. -/
def Bridge.pwrState (b : Bridge) : Nat :=
  packWord [(0, 3, if 1 ≤ b.jrn.step ∧ b.jrn.step ≤ 5 then 5 else b.pwr.state), flagAt 3 b.pwr.thermHold, (8, 3, b.pwr.wakeCause)]

/-- The power and reset registers (R507, R508). -/
def Bridge.pwrRegs (b : Bridge) : List Reg :=
  let p := b.pwr
  [r32 0x00 b.pwrState, r32 0x04 p.rstCause, r32 0x08 (packWord [(0, 12, p.bootMs), flagAt 12 p.bothSlots]),
    r32 0x0C (packWord [(0, 8, p.warnC), flagAt 8 p.warn, flagAt 9 p.crit]), r32 0x10 (b.late 13), r32 0x18 p.dozes, r32 0x1C p.dozeAborts,
    r32 0x20 p.stCycles]

-- PF0 BAR0 ------------------------------------------------------------------------------------------------------------------------------

/-- The register at an address of PF0 BAR0 (R24). Offsets that no map lists read 0 (R6), and so do write-only registers (R5). -/
def Bridge.pf0Reg (b : Bridge) (a : Nat) : Option RegHit :=
  let off := a % 0x100000
  if 0x1000000 ≤ a ∧ a < 0x1880000 then b.chanReg ((a - 0x1000000) / 0x80000) (a % 0x80000)
  else if 0x800000 ≤ a ∧ a < 0x1000000 then
    if 0x840000 ≤ a ∧ a < 0x850000 then regAt (a - 0x840000) b.dispRegs else b.sideReg 0 (a - 0x800000)
  else
    match a / 0x100000 with
    | 0x0 => regAt off b.glbRegs
    | 0x1 => regAt off b.strRegs
    | 0x2 => regAt off b.hrdRegs
    | 0x3 => regAt off b.ntrRegs
    | 0x4 =>
      if off < 0x10000 then regAt off b.fltRegs
      else if off < 0x1E000 then regAt (off % 0x400) (b.fbRegs ((off - 0x10000) / 0x400))
      else none
    | 0x5 => b.icuReg off
    | 0x6 => b.tenReg off
    | 0x7 => b.knlReg off
    | 0x19 => if 0x80000 ≤ off then if off < 0x90000 then regAt (off - 0x80000) b.cxlRegs else none else regAt off b.pcxRegs
    | 0x1A => if 0x10000 ≤ off then regAt (off - 0x10000) b.pwrRegs else b.tlmReg off
    | _ => none

/-- The firmware-owned working registers (R9, R139, R346, R430), whose contents are resident firmware's. -/
def firmwareOwned (a : Nat) : Bool :=
  (decide (0x201000 ≤ a) && decide (a < 0x202000)) || (decide (0x504000 ≤ a) && decide (a < 0x508000))
    || (decide (0x604000 ≤ a) && decide (a < 0x608000))

end Sys2Proof.Machine
end

