-- ==== Sys2Proof/Machine/RegAccess.lean ====
section
/-! DEFINITION. Register accesses (R5-R7, R27, R220): reads that latch, writes by access code, counter clears, the telemetry latch, and
the snapshot edge (R404, R410). -/

namespace Sys2Proof.Machine

open Sys2Proof

-- Reads -----------------------------------------------------------------------------------------------------------------------------

/-- PF0's BAR4/5 follow its BAR0/1 in the addresses of accesses by PF0 (R202, log entry 86). -/
def bar4At : Nat := 0x2000000

/-- An address in the PBA of `who` (R202, R206). -/
def pbaAt (who a : Nat) : Bool :=
  let p := if who = 0 then bar4At + 0x8000 else 0x3C000
  decide (who < 256) && decide (p ≤ a) && decide (a < p + 8)

/-- The register that `who` finds at an address: a function its own BAR0 (R24, R206), PF0 its BAR4/5 also (R202), a musher core (256
and on) PF0's BAR0. -/
def Bridge.regOf (b : Bridge) (who a : Nat) : Option RegHit :=
  if 1 ≤ who ∧ who < 256 then b.sideReg who a
  else if who = 0 ∧ bar4At ≤ a then b.msixReg 0 (a - bar4At) 0x8000
  else b.pf0Reg a

/-- The latch of a reader for the pair whose LO half is at an address (R27). -/
def Bridge.latchOf (b : Bridge) (who a : Nat) : Nat := (Tbl.get 0 a (b.func who).latch).toNat

/-- The semaphore whose SEMs_ACQ stands at an address (R336). -/
def semAt (who a : Nat) : Option Nat :=
  let off := if 1 ≤ who ∧ who < 256 then a else a - 0x800000
  if (decide (1 ≤ who ∧ who < 256) || decide (0x800000 ≤ a)) && decide (0x30000 ≤ off) && decide (off < 0x30400) && decide (off % 16 = 0)
  then some ((off - 0x30000) / 16) else none

/-- A 4-byte read (R5, R6, R27): the value, and the reader's latch after it. What firmware-owned working registers hold is open (R9, log
entry 4). -/
def Bridge.readWord (who a : Nat) (b : Bridge) : Nat × Bridge :=
  if (who = 0 ∨ 256 ≤ who) ∧ firmwareOwned a then
    let (k, b) := b.freeNat
    (k % 2 ^ 32, b)
  else
    match b.regOf who a with
    | some (.word v) => (v % 2 ^ 32, b)
    | some (.lo v) =>
      (v % 2 ^ 32, b.modFunc who (fun f => { f with latch := Tbl.put a (BitVec.ofNat 32 (v / 2 ^ 32)) f.latch }))
    | some (.hi _) => (b.latchOf who (a - 4), b)
    | none => (0, b)

/-- An access of a form the bridge does not perform (R220). -/
def Bridge.badForm (a : Nat) (b : Bridge) : Bridge :=
  (b.modPort (fun p => { p with sizeErr := cnt32 p.sizeErr 1 })).note 0x24 10 a

/-- A supported form: 4 bytes on a 4-byte boundary, or 8 on an 8-byte boundary (R220). -/
def goodForm (a size : Nat) : Bool := (decide (size = 4) && decide (a % 4 = 0)) || (decide (size = 8) && decide (a % 8 = 0))

/-- LO_REGISTER_READ: a register read by a function, or by a musher core over its own path (R27, R220). An 8-byte read is two 4-byte reads
in one FCLK. A read of SEMs_ACQ acquires (R336). -/
def doLoRegisterRead (who a size : Nat) (b : Bridge) : Bridge :=
  if !goodForm a size then (b.badForm a).emit (.regData 0)
  else
    match semAt who a with
    | some s => doSemAcquireRead (if who < 256 then who else 0) s b
    | none =>
      let (lo, b) := b.readWord who a
      if size = 4 then b.emit (.regData lo)
      else
        let (hi, b) := b.readWord who (a + 4)
        b.emit (.regData (lo + 2 ^ 32 * hi))

-- Counter clears ------------------------------------------------------------------------------------------------------------------------

/-- CLR_LAST (R104). -/
def doEccLastClear (n : Nat) (b : Bridge) : Bridge := b.modAcc n Access.clearLast

/-- CLR_HIGH (R104). -/
def doWcbHighWaterReset (n : Nat) (b : Bridge) : Bridge := b.modAcc n Access.clearHigh

/-- The counter-clear register of a channel's block (R63, R103, R183, R272, R312, R523). -/
def Bridge.clearChannel (n off m : Nat) (b : Bridge) : Bridge :=
  match off with
  | 0x18 => b.clearCh n (Channel.clearSch m)
  | 0x1008 =>
    let b := b.clearCh n (Channel.clearAcc m)
    let b := if bitOf m 16 then doEccLastClear n b else b
    if bitOf m 17 then doWcbHighWaterReset n b else b
  | 0x2010 => b.clearCh n (Channel.clearRtv m)
  | 0x4010 => b.clearCh n (Channel.clearPhy m)
  | 0x5010 => b.clearCh n (Channel.clearLl m)
  | 0x6008 => b.clearCh n (Channel.clearSvc m)
  | _ => b

/-- A write of a counter-clear register (R65, R105, R143, R185, R247, R274, R314, R349, R411, R433, R451, R509, R525, R537). -/
def doCounterClear (a m : Nat) (b : Bridge) : Bridge :=
  if 0x1000000 ≤ a ∧ a < 0x1880000 then b.clearChannel ((a - 0x1000000) / 0x80000) (a % 0x80000) m
  else if 0x410000 ≤ a ∧ a < 0x41E000 ∧ a % 0x400 = 0x10 then b.clearBlk ((a - 0x410000) / 0x400) m
  else
    match a with
    | 0x200014 => b.clearHerd m
    | 0x202008 => b.clearJrn m
    | 0x300014 => b.clearNear m
    | 0x500008 => b.clearIcu m
    | 0x600008 => b.clearTen m
    | 0x600024 => b.clearLeash (m % 256) (m / 256 % 64)
    | 0x840008 => b.clearScan m
    | 0x1900008 => b.clearPort m
    | 0x1A0000C => b.clearTlm m
    | 0x1A10014 => b.clearPwr m
    | _ => b

-- Writes ----------------------------------------------------------------------------------------------------------------------------------

/-- A LATE_WR bit takes a write of 1 (R5, R7). -/
def Bridge.clearLate (n v : Nat) (b : Bridge) : Bridge :=
  if bitOf v 0 then b.modFlt (fun f => { f with lateWr := Tbl.del n f.lateWr }) else b

/-- TELEMETRY_LATCH: every reading of offsets 0x0010 to 0x012F is copied in one FCLK (R531); the line totals as they stood before what the FCLK has
counted or cleared (R532). -/
def doTelemetryLatch (b : Bridge) : Bridge :=
  let m := b.mark.totals
  let was : Bridge := { b with tlm := { b.tlm with
    hostRd := m.hostRd, hostWr := m.hostWr, sledLines := m.sledLines, nearLines := m.nearLines, scanLines := m.scanLines } }
  b.modTlm (fun t => { t with latched := some ((List.range 72).map (fun i => (i + 4, BitVec.ofNat 32 (was.readingWord (4 * (i + 4)))))) })

/-- A write of RTV_RINGk_CTRL (R145, R181). -/
def Bridge.ringCtrl (fn k v : Nat) (b : Bridge) : Bridge :=
  let r := b.ring fn k
  let size := v % 16
  let bad := b.modRing fn k (fun r => { r with cfgErr := true })
  if r.enable && decide (size ≠ r.sizeLog2) then bad
  else
    let b := if size < 4 ∨ 12 < size then bad else b.modRing fn k (fun r => { r with sizeLog2 := size })
    if bitOf v 8 then doRingEnable fn k b else doRingDisable fn k b

/-- A write of half of a ring's BASE (R145, R181). -/
def Bridge.ringBase (fn k base : Nat) (b : Bridge) : Bridge :=
  let r := b.ring fn k
  if r.base = base then b
  else if r.enable then b.modRing fn k (fun r => { r with cfgErr := true })
  else b.modRing fn k (fun r => { r with base := base })

/-- A write of a ring's register (R180, R181). -/
def Bridge.ringWrite (fn k off v : Nat) (b : Bridge) : Bridge :=
  let r := b.ring fn k
  match off with
  | 0x00 => b.ringBase fn k (r.base / 2 ^ 32 * 2 ^ 32 + v / 4096 * 4096)
  | 0x04 => b.ringBase fn k (v * 2 ^ 32 + r.base % 2 ^ 32)
  | 0x08 => b.ringCtrl fn k v
  | 0x10 => b.modRing fn k (fun r => { r with
      dbErr := r.dbErr && !bitOf v 0, cfgErr := r.cfgErr && !bitOf v 1, fetchErr := r.fetchErr && !bitOf v 2, resultErr := r.resultErr && !bitOf v 3 })
  | _ => b

/-- A write of a mailbox register (R343, R344). -/
def Bridge.mbxWrite (fn off v : Nat) (b : Bridge) : Bridge :=
  if 0x1000 ≤ off ∧ off < 0x2000 then
    if off % 0x200 < 0x100 then doMailboxCommandWrite fn ((off - 0x1000) / 0x200) (off % 0x200 / 4) v b else b
  else
    match off with
    | 0x00 => doMailboxDoorbell fn v b
    | 0x08 =>
      let b := doMailboxDoneAck fn v b
      if bitOf v 8 then doNotifyAck fn b else b
    | 0x0C => b.modMbx fn (fun m => { m with
        dbErr := m.dbErr && !bitOf v 0, wrErr := m.wrErr && !bitOf v 1, notifyLost := m.notifyLost && !bitOf v 2 })
    | 0x10 => doMailboxCtrlWrite fn v b
    | 0x14 => if bitOf v 0 then b.modMbx fn (fun m => { m with lateWr := false }) else b
    | _ => b

/-- A write to a function's own registers (R180, R206, R336, R343). -/
def Bridge.sideWrite (fn off v : Nat) (b : Bridge) : Bridge :=
  if off < 0x10000 then b.mbxWrite fn off v
  else if off < 0x20000 then if (off - 0x10000) / 8 < 8 ∧ off % 8 = 0 then doJobDoorbell fn ((off - 0x10000) / 8) (v % 65536) b else b
  else if off < 0x20200 then
    if (off - 0x20000) / 0x40 < b.ringCount fn then b.ringWrite fn ((off - 0x20000) / 0x40) (off % 0x40) v else b
  else if off = 0x20200 then b.clearLate (2048 + fn) v
  else if 0x30000 ≤ off ∧ off < 0x30400 then
    if off % 16 = 8 ∧ bitOf v 0 then doSemReleaseWrite fn ((off - 0x30000) / 16) b else b
  else if fn ≠ 0 ∧ 0x38000 ≤ off ∧ off < 0x38400 then doMsixTableWrite fn ((off - 0x38000) / 16) (off / 4 % 4) v b
  else b

/-- A write to a register of a channel's block (R63, R103, R183, R272, R312, R523). -/
def Bridge.chanWrite (n off v : Nat) (b : Bridge) : Bridge :=
  if 0x4100 ≤ off ∧ off < 0x4240 ∧ off % 0x40 = 8 then
    let k := (off - 0x4100) / 0x40
    let b := b.modLane n k (fun l => { l with prbsCtrl := v % 32 + v / 64 % 32 * 64 })
    if bitOf v 5 then doPrbsInjectOne n k b else b
  else
    match off with
    | 0x14 => b.clearLate (32 + 8 * n) v
    | 0x1004 => b.clearLate (33 + 8 * n) v
    | 0x200C => b.clearLate (34 + 8 * n) v
    | 0x400C => b.clearLate (35 + 8 * n) v
    | 0x500C => b.clearLate (36 + 8 * n) v
    | 0x6004 => b.clearLate (37 + 8 * n) v
    | _ => b.clearChannel n off v

/-- Bits of a 64-bit register's half that a write names. -/
def halfMask (high : Bool) (v : Nat) : BitVec 64 := BitVec.ofNat 64 (if high then v % 2 ^ 32 * 2 ^ 32 else v % 2 ^ 32)

/-- A write to a register of the host port (R210, R212, R243-R245). HDM Decoder Enable stands in Global Control (log entry 25). -/
def Bridge.pcxWrite (off v : Nat) (b : Bridge) : Bridge :=
  let en := b.port.intaEn
  match off with
  | 0x04 => b.clearLate 11 v
  | 0x10 => doIntaPendingClear (halfMask false v) b
  | 0x14 => doIntaPendingClear (halfMask true v) b
  | 0x18 => doIntaEnableWrite ((en &&& halfMask true (2 ^ 32 - 1)) ||| halfMask false v) b
  | 0x1C => doIntaEnableWrite ((en &&& halfMask false (2 ^ 32 - 1)) ||| halfMask true v) b
  | 0x81204 => b.modPort (fun p => { p with hdmEnable := bitOf v 1 })
  | _ => b

/-- A write of FLT_SNAP_CTRL (R408): its RW fields, then REARM, then TRIGGER. -/
def Bridge.snapCtrl (v : Nat) (b : Bridge) : Bridge :=
  let b := b.modFlt (fun f => { f with pinEn := bitOf v 3, outEn := bitOf v 4, faultEn := bitOf v 5 })
  let b := if bitOf v 1 then doSnapshotRearm b else b
  if bitOf v 0 then doSnapshotTrigger b else b

/-- A write to a fault block's view (R409): each force bit raises one event, in ascending order (R390). -/
def Bridge.fbWrite (k off v : Nat) (b : Bridge) : Bridge :=
  match off with
  | 0x0C => b.each (setBits v 32) (fun s b => doFaultForce k s b)
  | 0x10 => b.clearBlk k v
  | _ => b

/-- A write to a fault, snapshot or log global (R407, R408). -/
def Bridge.fltWrite (off v : Nat) (b : Bridge) : Bridge :=
  if 0x10000 ≤ off then if off < 0x1E000 then b.fbWrite ((off - 0x10000) / 0x400) (off % 0x400) v else b
  else
    match off with
    | 0x04 => b.clearLate 5 v
    | 0x08 => b.forceLockWrite (bitOf v 0)
    | 0x40 => b.snapCtrl v
    | 0x44 => b.modFlt (fun f => { f with sel := (v % 256, v / 256 % 32), onSevere := bitOf v 16 })
    | _ => b

/-- A 4-byte write to a register of PF0's BAR0, as its access code states (R5-R7, R24). -/
def Bridge.pf0Write (a v : Nat) (b : Bridge) : Bridge :=
  if 0x1000000 ≤ a ∧ a < 0x1880000 then b.chanWrite ((a - 0x1000000) / 0x80000) (a % 0x80000) v
  else if 0x800000 ≤ a ∧ a < 0x1000000 then
    if a = 0x840004 then b.clearLate 8 v else if 0x840000 ≤ a ∧ a < 0x850000 then doCounterClear a v b else b.sideWrite 0 (a - 0x800000) v
  else if 0x400000 ≤ a ∧ a < 0x500000 then b.fltWrite (a - 0x400000) v
  else if 0x1900000 ≤ a ∧ a < 0x1A00000 ∧ a ≠ 0x1900008 then b.pcxWrite (a - 0x1900000) v
  else
    match a with
    | 0x000030 => b.clearLate 0 v
    | 0x000040 => b.modGlb (fun g => { g with scratch := BitVec.ofNat 32 v })
    | 0x10000C => b.modGlb (fun g => { g with overrun := packBits (fun n => (bitOf g.overrun n && !bitOf v n) || bitOf g.overrunNow n) 16 })
    | 0x100010 => b.clearLate 1 v
    | 0x200010 => b.clearLate 2 v
    | 0x202004 => b.clearLate 3 v
    | 0x300010 => b.clearLate 4 v
    | 0x500004 => b.clearLate 6 v
    | 0x50000C => if bitOf v 0 then { b with icu := { b.icu with badComplete := false } } else b
    | 0x500300 => { b with icu := { b.icu with swsrc := v % 65536 } }
    | 0x600004 => b.clearLate 7 v
    | 0x700004 => b.clearLate 9 v
    | 0x700008 => b.debugLockWrite (bitOf v 0)
    | 0x701004 => b.clearLate 10 v
    | 0x1A00004 => b.clearLate 12 v
    | 0x1A00008 =>
      let b := b.modTlm (fun t => { t with hold := bitOf v 1 })
      if bitOf v 0 then doTelemetryLatch b else b
    | 0x1A10004 => b.modPwr (fun p => { p with rstCause := packBits (fun k => bitOf p.rstCause k && !bitOf v k) 4 })
    | 0x1A10010 => b.clearLate 13 v
    | _ => doCounterClear a v b

/-- A 4-byte write (R5-R7): of a function to its own registers, those of PF0's BAR4/5 among them, or of a musher core to PF0's. -/
def Bridge.writeWord (who a v : Nat) (b : Bridge) : Bridge :=
  if 1 ≤ who ∧ who < 256 then b.sideWrite who a v
  else if who = 0 ∧ bar4At ≤ a ∧ a < bar4At + 0x400 then doMsixTableWrite 0 ((a - bar4At) / 16) (a / 4 % 4) v b
  else if 256 ≤ who ∧ 0x504000 ≤ a ∧ a < 0x508000 then b.programIcu
  else b.pf0Write a v

/-- REGISTER_WRITE (R5-R7, R220): an 8-byte write is two 4-byte writes, the lower half first (R481). A write to a PBA is
discarded, whatever its form (R221). What a write to firmware-owned working registers does is not defined (R9): here it changes nothing
(log entries 15, 121). -/
def doRegisterWrite (who a value size : Nat) (b : Bridge) : Bridge :=
  if pbaAt who a then b
  else if !goodForm a size then b.badForm a
  else if size = 4 then b.writeWord who a (value % 2 ^ 32)
  else (b.writeWord who a (value % 2 ^ 32)).writeWord who (a + 4) (value / 2 ^ 32 % 2 ^ 32)

/-- A poisoned register write is discarded (R237). -/
def doPoisonedWrite (fn : Nat) (b : Bridge) : Bridge := (b.modPort (fun p => { p with poisonRx := cnt32 p.poisonRx 1 })).aerUnc aerPoisoned fn false

-- The snapshot edge -----------------------------------------------------------------------------------------------------------------------

/-- The snapshot words of a block (R410); a block that the table does not list gives its own status register. -/
def Bridge.snapWords (b : Bridge) (k : Nat) : List Nat :=
  if k < 16 then
    let c := b.chan k
    [c.sch.statusWord, c.capWord, c.sch.carryWord, c.acc.wcbStatus, c.phy.statusWord, c.ll.statusWord, c.ll.seqWord, c.rtv.lanesWord]
  else
    match k with
    | 0x24 => [b.port.linkWord, b.port.npWord, b.port.intaWord, b.devloads]
    | 0x25 => [b.ntrStatus, b.freeFrames 0, b.devDirty, b.devCeil]
    | 0x26 => [b.ntrStatus, b.freeFrames 1, b.devDirty, b.devCeil]
    | 0x27 => [b.hrdStatus, b.hrdEvac, b.herd.copies.length % 2048]
    | 0x28 => [(match regAt 0x2000 b.jrnRegs with
        | some (.word v) => v
        | _ => 0)]
    | 0x29 => [b.dispStatus]
    | 0x2F => [b.tenStatus]
    | 0x30 => [b.icuStatus]
    | 0x31 => [b.knlStatus]
    | 0x32 => [b.fuses.statusWord]
    | 0x34 => [b.pwrState]
    | 0x35 => [b.tlm.statusWord]
    | 0x37 => [b.fltStatus, b.faults.nextSeq, b.faults.nextSeq / 2 ^ 32, b.severeMask, b.severeMask / 2 ^ 32, b.strPhase, b.stride,
        b.stride / 2 ^ 32]
    | _ => [b.fbStatus k]

/-- A block's snapshot words as its view holds them. -/
def Bridge.snapTbl (b : Bridge) (k : Nat) : Tbl Word :=
  let ws := b.snapWords k
  (List.range 8).map (fun i => (i, BitVec.ofNat 32 ((ws[i]?).getD 0)))

/-- The snapshot edge that follows a trigger (R404-R406): every block's words, the trigger disarmed, SNAP_OUT, PF0 vector 6. How many of
their own cycles after the edge the lane domains latch is open (log entry 4). -/
def Bridge.snapEdge (b : Bridge) : Bridge :=
  if b.faults.due = 0 then b
  else
    let at0 := b
    let b := b.each (List.range 56) (fun k b =>
      let (c, b) := if k < 16 ∨ k = 0x24 then b.freeNat else (0, b)
      b.modBlk k (fun x => { x with snap := at0.snapTbl k, stamp := c % 3 }))
    let b := b.modFlt (fun f => { f with
      cause := f.due, due := 0, armed := false, snapTime := b.glb.time + 1, snaps := cnt32 f.snaps 1 })
    let b := if b.faults.outEn then (b.emit (.pin .snapOut true)).emit (.pin .snapOut false) else b
    (b.level 993 true).raise 0 6

end Sys2Proof.Machine
end

