-- ==== Sys2Proof/Machine/State.lean ====
section
/-! DEFINITION. The state of the model: the bridge, the near tier's contents, and the queue of commands that wait. -/

namespace Sys2Proof.Machine

open Sys2Proof

/-- Why a command faults. No rule gives the bridge a command it has no effect for, so no meaning raises one: safe. -/
inductive Fault where
  /-- Raised by no meaning; safe, since nothing rests on it. -/
  | none
  deriving DecidableEq, Repr

/-- Why a command is refused. -/
inductive Refusal where
  /-- Raised by an arm of the dispatch whose command has no meaning yet; safe, since the run stops. -/
  | notModelled (mnemonic : String)
  deriving DecidableEq, Repr

/-- The machine. -/
structure State where
  /-- The bridge -/
  br : Bridge := {}
  /-- R106: what the near tier holds, by frame × 64 + line -/
  near : Near := []
  /-- Commands that wait, oldest first (the model's own field) -/
  pending : List Instr := []
  deriving DecidableEq, Repr

/-- The machine right after power-on reset: every field at the value its declaration gives. -/
def State.reset : State := {}

end Sys2Proof.Machine
end

