-- ==== Sys2Proof/Machine/Run.lean ====
section
/-! DEFINITION. How a command runs: its own effect, then all that follows from it at once (reactions, a due snapshot, the power-loss
sequence, operations that can go on, interrupt levels), then what lands in the near tier. -/

namespace Sys2Proof.Machine

open Sys2Proof

-- Levels of the interrupt controller ------------------------------------------------------------------------------------------------

/-- A mailbox slot is POSTED (R330). -/
def Mailbox.anyPosted (m : Mailbox) : Bool := m.slots.any (fun e => decide (e.2.state = .posted))

/-- The levels that follow the state (R414): each source, and whether it is high. -/
def Bridge.levels (b : Bridge) : List (Nat × Bool) :=
  (channels.map (fun n => [(48 * n + 8, !(b.chan n).ll.gstore.isEmpty), (48 * n + 10, bitOf b.glb.overrun n)])).flatten
    ++ [(836, decide (b.freeFrames 0 < 16384)), (837, decide (b.freeFrames 1 < 16384)),
      (838, decide (b.glb.level ≠ 0) && channels.any (fun n => decide (b.dirtyCount n = (b.chan n).herd.ceil))),
      (868, decide (jrnRegion * 3 ≤ b.jrn.fill * 4)), (869, decide (1835008 < b.backlog)),
      (897, b.ten.mbx.any (fun e => e.2.anyPosted)), (969, b.pwr.failLow)]
    ++ (List.range 16).map (fun j => (994 + j, bitOf b.icu.swsrc j))

/-- What each source that tells of a change since it was last acknowledged watches (R414). -/
def Bridge.watchWords (b : Bridge) : List (Nat × List Nat) :=
  (channels.map (fun n =>
    let c := b.chan n
    [(48 * n + 2, [c.phy.statusWord, c.phy.outMap, c.phy.inMap]), (48 * n + 3, [c.ll.statusWord % 8]), (48 * n + 9, [c.rtv.lanesWord])])).flatten
    ++ [(771, [b2n b.port.up, b.port.lstate]),
      (773, [b2n b.port.vfEnable, b.port.numVfs, b2n b.port.memEnable, packBits (fun k => (Tbl.get ({} : Hdm) k b.port.hdm).committed) 8,
        packBits (fun k => decide ((b.func k).power = 3)) 256]),
      (776, [b.port.aer.unc, b.port.aer.cor])]

/-- Functions whose FLR, or whose VF disable, awaits firmware's part (R216, R414 source 772). -/
def Bridge.awaitsReset (was b : Bridge) : Bool :=
  (was.port.vfEnable && !b.port.vfEnable) || b.port.fn.any (fun e => e.2.flr && !(was.func e.1).flr)

/-- Levels that a command has changed follow it (R414, R415). -/
def Bridge.syncLevels (was b : Bridge) : Bridge :=
  let b := b.each ((was.levels.zip b.levels).filter (fun x => x.1.2 != x.2.2)) (fun x b => b.level x.2.1 x.2.2)
  let b := b.each ((was.watchWords.zip b.watchWords).filter (fun x => x.1.2 != x.2.2)) (fun x b => b.level x.2.1 true)
  b.when (was.awaitsReset b) (·.level 772 true)

/-- FAULT_N follows the severe sources and the last-gasp latch (R392). -/
def Bridge.faultPin (was b : Bridge) : Bridge :=
  b.when (was.faults.faultLow != b.faults.faultLow) (·.emit (.pin .faultN (!b.faults.faultLow)))

/-- A source that tells of something since firmware last acknowledged it, or until firmware has taken it (R414): it falls when a core
completes it. -/
def acknowledged (i : Nat) : Bool :=
  (decide (i < 768) && [2, 3, 5, 6, 7, 9, 11].contains (i % 48))
    || [771, 772, 773, 774, 775, 776, 867, 898, 931, 932, 971, 972, 973, 974, 975, 976, 993].contains i

/-- Resident firmware has served source `i` (R391, R414): a block's events, one EVENT message of a sled, or an acknowledgement (log
entry 13). -/
def Bridge.served (i : Nat) (b : Bridge) : Bridge :=
  match (List.range 56).find? (fun k => decide (blockSource k = some i)) with
  | some k => b.serveBlock k
  | none =>
    if decide (i < 768) && decide (i % 48 = 4) then
      let b := b.modLl (i / 48) (fun l => { l with events := l.events - 1 })
      b.when (decide ((b.chan (i / 48)).ll.events = 0)) (·.level i false)
    else b.when (acknowledged i) (·.level i false)

/-- ICU_COMPLETE (R391, R414, R419): a core that completes a source it holds has served it. -/
def doIcuCompleteServed (k i : Nat) (b : Bridge) : Bridge :=
  let s := b.icu.source i
  doIcuComplete k i (b.when (decide (s.state = .inService) && decide (s.core = k) && decide (i < 1022)) (·.served i))

/-- ICU_SOURCE_LEVEL_CHANGE (R415, R422): a block drives a source; source 969 is the level of PWR_FAIL_N itself (R414). -/
def Bridge.sourceLevel (i : Nat) (high : Bool) (b : Bridge) : Bridge :=
  doIcuSourceLevelChange i high (b.when (decide (i = 969)) (·.modPwr (fun p => { p with failLow := high })))

/-- PERST_DEASSERT (R471, R473, R490, R493): where the board had the NOR's pins, it has programmed the slots and the boot select record. -/
def Bridge.perstDeassert (hbms cores : Nat) (tenancy : Bool) (slotA slotB : FwSlot) (next : Option Nat) (seq : Nat) (b : Bridge) : Bridge :=
  let b := b.when (b.boot.qspiFree && b.pwr.perstLow) (fun b =>
    { b with boot := { b.boot with slots := [(1, slotA), (2, slotB)], next := next, seq := seq % 2 ^ 32 } })
  doPerstDeassert hbms cores tenancy b

-- What goes on by itself ------------------------------------------------------------------------------------------------------------

/-- Something may go on by itself: a reaction or a snapshot is due, an access held for an earlier one can go out, a location that a unit in
overrun used is to be freed, the power-loss sequence runs, a command or an operation waits, a sled position or a journal copy is to be
looked at, or a lane has a piece. -/
def Bridge.stirred (b : Bridge) : Bool :=
  b.holding.any (fun x => !(b.mayGo x.1 x.2).isEmpty) || (b.glb.glideDone && b.herd.freeing.any (fun e => !b.locBusy e.1))
    || !b.faults.react.isEmpty || decide (b.faults.due ≠ 0) || decide (b.jrn.step ≠ 0) || !b.citan.waits.isEmpty || b.citan.ops.any (·.running)
    || b.jrn.copy.any (fun e => (decide (e.2.state ≠ 0) && b.chFenced e.2.ch) || e.2.next.any b.chFenced)
    || b.ch.any (fun e => e.2.phy.testRate.isSome || decide (e.2.svc.state = .admitting) || decide (e.2.svc.state = .evacuating)
      || decide (e.2.svc.phase ≠ 0) || !e.2.rtv.lane.isEmpty || !e.2.rtv.again.isEmpty)

/-- The power-loss sequence goes on as far as it can (R443). -/
def Bridge.plOn (b : Bridge) : Bridge := if b.jrn.step = 0 then b else ((b.plSteps).saveStep).plEnd

/-- Commands and operations that can go on do (R352, R360, R373, R377, R511). -/
def Bridge.waitsOn (b : Bridge) : Bridge :=
  let b := (b.testFailures).unfenceSteps
  let b := b.svcSteps
  let b := b.each channels (fun n b => b.sledCheck n)
  (b.linkWaits).restoreFails

/-- Accesses held for earlier ones go out (R54), and locations that nothing uses any more are freed (R119). -/
def Bridge.released (b : Bridge) : Bridge :=
  let b := b.releaseHolds
  if b.glb.glideDone then b.freeIdle else b

/-- Lanes with pieces go on (R154, R176, R178). -/
def Bridge.scansOn (b : Bridge) : Bridge := b.each channels (fun n b => b.lanesOn n)

/-- All that goes on by itself after a command. -/
def Bridge.stir (b : Bridge) : Bridge := (((((b.released).reactAll 64).snapEdge).plOn).waitsOn.scansOn.reactAll 64).snapEdge

/-- Operations that have begun, and those that have ended, are journaled (R434, R438). -/
def Bridge.logOps (was b : Bridge) : Bridge :=
  let run : Bridge → List Operation := fun b => b.citan.ops.filter (fun o => o.running)
  let there : List Operation → Operation → Bool := fun l o => l.any (fun p => decide (p.fn = o.fn ∧ p.tag = o.tag ∧ p.op = o.op ∧ p.obj = o.obj))
  b.logGroup (((run b).filter (fun o => !there (run was) o)).map (fun o => opRec o true) ++ ((run was).filter (fun o => !there (run b) o)).map (fun o => opRec o false))

/-- Channels that the command has brought back are marked for the hold limit (R395). -/
def Bridge.markBack (was b : Bridge) : Bridge :=
  b.each (channels.filter (fun n => was.linkBad n && !b.linkBad n)) (fun n b => b.modAcc n (fun a => { a with badAt := b.glb.time + 1 }))

/-- Something is to follow at once from a command that took `was` to `b`: something goes on by itself, an operation ran already, or a channel is back. -/
def Bridge.goesOn (was b : Bridge) : Bool :=
  b.stirred || was.citan.ops.any (·.running) || channels.any (fun n => was.linkBad n && !b.linkBad n)

/-- What follows at once from a command that took `was` to `b`. -/
def Bridge.settle (was b : Bridge) : Bridge := was.faultPin (was.syncLevels (if was.goesOn b then was.markBack (was.logOps b.stir) else b))

/-- The bridge as a command finds it: nothing sent yet, and nothing landed. -/
def Bridge.fresh (b : Bridge) : Bridge := { b with out := [], lands := [], faults := { b.faults with react := [] } }

/-- A command whose own effect on the bridge is `f`: what follows from it settles, and what it writes lands (log entries 2, 3, 6). -/
def State.run (f : Bridge → Bridge) (s : State) : State :=
  let was := s.br.fresh
  let b := was.settle (f was)
  { s with br := { b with lands := [] }, near := landAll b.lands s.near }

-- When a command takes effect -------------------------------------------------------------------------------------------------------

/-- The bridge lives: it is not held in power-on reset, after the power-loss sequence or after a trip (R443, R488, R489). -/
def Bridge.live (f : Bridge → Bridge) (b : Bridge) : Bridge := if b.heldAll then b else f b

/-- Something of the host arrives (R194, R496, R498): it abandons an entry into Doze, wakes the bridge from Doze, and the link is awake. -/
def Bridge.hostArrives (b : Bridge) : Bridge := ((b.when (decide (b.pwr.state = 2)) (·.abandonDoze)).when (decide (b.pwr.state = 3)) (·.startWake 2)).linkAwake

/-- An event of the host link, while the link is up (R190, R490). -/
def Bridge.link (f : Bridge → Bridge) (b : Bridge) : Bridge :=
  b.live (fun b => if b.pwr.perstLow || !b.port.up then b else f b.hostArrives)

/-- A request of the host: the port takes none during the power-loss sequence (R443). -/
def Bridge.host (f : Bridge → Bridge) (b : Bridge) : Bridge := b.link (fun b => if b.jrn.step = 0 then f b else b)

/-- A configuration request of function `fn`: non-posted, `data` of it written (R219). -/
def Bridge.config (data : Nat) (f : Bridge → Bridge) (b : Bridge) : Bridge := b.host (·.withCredit false data f)

/-- A configuration write whose effect has a row of its own: none under retry status (R193, R216). -/
def Bridge.configRow (fn : Nat) (f : Bridge → Bridge) (b : Bridge) : Bridge := b.config 1 (fun b => if b.cfgRetry fn then b else f b)

/-- The Function Level Reset bit is written: one under way begins anew (R193, R216). -/
def Bridge.flrRow (f : Bridge → Bridge) (b : Bridge) : Bridge := b.config 1 (fun b => if b.glb.level = 0 then b else f b)

/-- A register access of function `fn`: an Unsupported Request where the function takes no memory request (R218, R219). A musher core's
access, under 256 and more, needs no host. -/
def Bridge.access (posted : Bool) (fn : Nat) (f : Bridge → Bridge) (b : Bridge) : Bridge :=
  if 256 ≤ fn then b.live f
  else b.host (·.withCredit posted (b2n posted) (fun b => if b.takesMemory fn then f b else b.unsupported fn true 0))

/-- A register write. -/
def Bridge.reg (fn : Nat) (f : Bridge → Bridge) (b : Bridge) : Bridge := b.access true fn f

/-- A register read. -/
def Bridge.regRead (fn : Nat) (f : Bridge → Bridge) (b : Bridge) : Bridge := b.access false fn f

end Sys2Proof.Machine
end

