-- ==== Sys2Proof/Machine/CmdCitan.lean ====
section
/-! DEFINITION. The commands of the Citan commands of groups 03 to 0A (the rules each row names). -/

namespace Sys2Proof.Machine

open Sys2Proof

/-- R370. Citan 0x0301 changes the placement hints of an extent range at one tick. -/
def execHintSet (fn : Fin 256) (slot : Fin 8) (s : State) : Host.Outcome State Fault Refusal :=
  .next (s.run (Bridge.live (doHintSet fn slot)))

/-- R369. Citan 0x0302 reports the placement of an extent range. -/
def execPlaceQuery (fn : Fin 256) (slot : Fin 8) (s : State) : Host.Outcome State Fault Refusal :=
  .next (s.run (Bridge.live (doPlaceQuery fn slot)))

/-- R132. Citan 0x0303 sets Herder tunables from the next tick. -/
def execTuneSet (fn : Fin 256) (slot : Fin 8) (s : State) : Host.Outcome State Fault Refusal :=
  .next (s.run (Bridge.live (doTuneSet fn slot)))

/-- R40. Citan 0x0304 sets the scheduler minimum shares from the next tick. -/
def execSharesSet (fn : Fin 256) (slot : Fin 8) (s : State) : Host.Outcome State Fault Refusal :=
  .next (s.run (Bridge.live (doSharesSet fn slot)))

/-- R20. Citan 0x0305 sets the sled-capacity reserve percentage for later admissions. -/
def execReserveSet (fn : Fin 256) (slot : Fin 8) (s : State) : Host.Outcome State Fault Refusal :=
  .next (s.run (Bridge.live (doReserveSet fn slot)))

/-- R133. Citan 0x0306 enables or disables persist mode. -/
def execPersistSet (fn : Fin 256) (slot : Fin 8) (s : State) : Host.Outcome State Fault Refusal :=
  .next (s.run (Bridge.live (doPersistSet fn slot)))

/-- R125. Citan 0x0307 checks capacity and starts evacuating a channel's sled. -/
def execEvacuate (fn : Fin 256) (slot : Fin 8) (s : State) : Host.Outcome State Fault Refusal :=
  .next (s.run (Bridge.live (doEvacuate fn slot)))

/-- R370. Citan 0x0308 stops an evacuation after the extents in progress fold. -/
def execEvacStop (fn : Fin 256) (slot : Fin 8) (s : State) : Host.Outcome State Fault Refusal :=
  .next (s.run (Bridge.live (doEvacStop fn slot)))

/-- R155. Citan 0x0401 cancels one job at t_c, dropping its ungranted pieces. -/
def execJobCancel (fn : Fin 256) (slot : Fin 8) (s : State) : Host.Outcome State Fault Refusal :=
  .next (s.run (Bridge.live (doJobCancel fn slot)))

/-- R371. Citan 0x0402 cancels every accepted job of a ring at one t_c. -/
def execRingCancel (fn : Fin 256) (slot : Fin 8) (s : State) : Host.Outcome State Fault Refusal :=
  .next (s.run (Bridge.live (doRingCancel fn slot)))

/-- R18. Citan 0x0501 sets the sparing veto mask. -/
def execVetoSet (fn : Fin 256) (slot : Fin 8) (s : State) : Host.Outcome State Fault Refusal :=
  .next (s.run (Bridge.live (doVetoSet fn slot)))

/-- R373. Citan 0x0502 fences a unit by command. -/
def execUnitFence (fn : Fin 256) (slot : Fin 8) (s : State) : Host.Outcome State Fault Refusal :=
  .next (s.run (Bridge.live (doUnitFence fn slot)))

/-- R397. Once a command fence has drained the channel's buffers, the channel is fenced. -/
def execFenceDrainDone (n : Fin 16) (s : State) : Host.Outcome State Fault Refusal :=
  .next (s.run (Bridge.live (doFenceDrainDone n)))

/-- R399. Citan 0x0503 restores a fenced unit, using a spare where one is free. -/
def execUnitUnfence (fn : Fin 256) (slot : Fin 8) (s : State) : Host.Outcome State Fault Refusal :=
  .next (s.run (Bridge.live (doUnitUnfence fn slot)))

/-- R401. Citan 0x0504 reads fault-log entries from a sequence number. -/
def execLogRead (fn : Fin 256) (slot : Fin 8) (s : State) : Host.Outcome State Fault Refusal :=
  .next (s.run (Bridge.live (doLogRead fn slot)))

/-- R386. Citan 0x0505 sets a source's leaky-bucket N and W from the next tick. -/
def execClassifySet (fn : Fin 256) (slot : Fin 8) (s : State) : Host.Outcome State Fault Refusal :=
  .next (s.run (Bridge.live (doClassifySet fn slot)))

/-- R387. Citan 0x0506 clears the severe state and bucket of sources and leaves fences in place. -/
def execFaultClear (fn : Fin 256) (slot : Fin 8) (s : State) : Host.Outcome State Fault Refusal :=
  .next (s.run (Bridge.live (doFaultClear fn slot)))

/-- R324. Citan 0x0601 replaces an instance's key in every engine at one tick. -/
def execKeyChange (fn : Fin 256) (slot : Fin 8) (entropy : Bool) (s : State) : Host.Outcome State Fault Refusal :=
  .next (s.run (Bridge.live (fun b => doKeyChange fn slot (b.entropy entropy))))

/-- R479. Citan 0x0602 programs a spare fuse word for a marginal word. -/
def execFuseSpare (fn : Fin 256) (slot : Fin 8) (bad : Nat) (s : State) : Host.Outcome State Fault Refusal :=
  .next (s.run (Bridge.live (doFuseSpare fn slot bad)))

/-- R474. Citan 0x0603 takes a chunk of a provisioning image, and verifies and applies the image on the last chunk. -/
def execProvision (fn : Fin 256) (slot : Fin 8) (good : Bool) (img : ProvImage) (s : State) : Host.Outcome State Fault Refusal :=
  .next (s.run (Bridge.live (doProvision fn slot good img)))

/-- R376. Citan 0x0701 reports a sled position's pins, states and identity. -/
def execSledStatus (fn : Fin 256) (slot : Fin 8) (s : State) : Host.Outcome State Fault Refusal :=
  .next (s.run (Bridge.live (doSledStatus fn slot)))

/-- R515. Citan 0x0702 starts an orderly removal, as a button press does. -/
def execSledRemove (fn : Fin 256) (slot : Fin 8) (s : State) : Host.Outcome State Fault Refusal :=
  .next (s.run (Bridge.live (doSledRemove fn slot)))

/-- R516. Citan 0x0703 aborts a removal in REMOVE_WAIT or EVACUATING. -/
def execSledAbort (fn : Fin 256) (slot : Fin 8) (s : State) : Host.Outcome State Fault Refusal :=
  .next (s.run (Bridge.live (doSledAbort fn slot)))

/-- R512. Citan 0x0704 admits a present sled, or builds a missing journal copy on an admitted one. -/
def execSledAdmit (fn : Fin 256) (slot : Fin 8) (s : State) : Host.Outcome State Fault Refusal :=
  .next (s.run (Bridge.live (doSledAdmit fn slot)))

/-- R250. Citan 0x0705 sets the link rate limit, and with NOW starts running speed changes. -/
def execLinkRateLimit (fn : Fin 256) (slot : Fin 8) (s : State) : Host.Outcome State Fault Refusal :=
  .next (s.run (Bridge.live (doLinkRateLimit fn slot)))

/-- R377. Citan 0x0706 sets the VC count, link idle enable and grace period of channels. -/
def execLinkParams (fn : Fin 256) (slot : Fin 8) (s : State) : Host.Outcome State Fault Refusal :=
  .next (s.run (Bridge.live (doLinkParams fn slot)))

/-- R377. Citan 0x0707 starts training of channels in DOWN. -/
def execLinkTrain (fn : Fin 256) (slot : Fin 8) (s : State) : Host.Outcome State Fault Refusal :=
  .next (s.run (Bridge.live (doLinkTrain fn slot)))

/-- R520. Citan 0x0708 rebuilds the copies of degraded mirrored segments on the channel's admitted sled. -/
def execMirrorRestore (fn : Fin 256) (slot : Fin 8) (s : State) : Host.Outcome State Fault Refusal :=
  .next (s.run (Bridge.live (doMirrorRestore fn slot)))

/-- R520. At the tick after a segment's last extent is copied, ON_ALT clears for it. -/
def execMirrorSegmentRestored (n : Fin 16) (inst : Fin 256) (idx : Nat) (s : State) : Host.Outcome State Fault Refusal :=
  .next (s.run (Bridge.live (doMirrorSegmentRestored n inst idx)))

/-- R378. Citan 0x0801 selects Run, Run with Idle gating, or a request to enter Doze. -/
def execPowerSet (fn : Fin 256) (slot : Fin 8) (s : State) : Host.Outcome State Fault Refusal :=
  .next (s.run (Bridge.live (doPowerSet fn slot)))

/-- R426. Citan 0x0802 sets the sources the Whistle watches in Doze. -/
def execWhistleSet (fn : Fin 256) (slot : Fin 8) (s : State) : Host.Outcome State Fault Refusal :=
  .next (s.run (Bridge.live (doWhistleSet fn slot)))

/-- R379. Citan 0x0901 reports temperatures, power and energy. -/
def execTlmSnapshot (fn : Fin 256) (slot : Fin 8) (s : State) : Host.Outcome State Fault Refusal :=
  .next (s.run (Bridge.live (doTlmSnapshot fn slot)))

/-- R379. Citan 0x0902 reports an instance's traffic and placement totals. -/
def execInstStats (fn : Fin 256) (slot : Fin 8) (s : State) : Host.Outcome State Fault Refusal :=
  .next (s.run (Bridge.live (doInstStats fn slot)))

/-- R379. Citan 0x0903 sets the temperature warning threshold. -/
def execThermalSet (fn : Fin 256) (slot : Fin 8) (s : State) : Host.Outcome State Fault Refusal :=
  .next (s.run (Bridge.live (doThermalSet fn slot)))

/-- R381. Citan 0x0A01 opens a firmware-update session and erases the other slot. -/
def execFwBegin (fn : Fin 256) (slot : Fin 8) (s : State) : Host.Outcome State Fault Refusal :=
  .next (s.run (Bridge.live (doFwBegin fn slot)))

/-- R381. Citan 0x0A02 writes image bytes once each. -/
def execFwData (fn : Fin 256) (slot : Fin 8) (s : State) : Host.Outcome State Fault Refusal :=
  .next (s.run (Bridge.live (doFwData fn slot)))

/-- R469. Citan 0x0A03 verifies the written slot and closes the session. -/
def execFwVerify (fn : Fin 256) (slot : Fin 8) (s : State) : Host.Outcome State Fault Refusal :=
  .next (s.run (Bridge.live (doFwVerify fn slot)))

/-- R470. Citan 0x0A04 selects a verified slot for the next start-up. -/
def execFwActivate (fn : Fin 256) (slot : Fin 8) (s : State) : Host.Outcome State Fault Refusal :=
  .next (s.run (Bridge.live (doFwActivate fn slot)))

/-- R472. Citan 0x0A05 raises the fused rollback counter. -/
def execRollbackCommit (fn : Fin 256) (slot : Fin 8) (s : State) : Host.Outcome State Fault Refusal :=
  .next (s.run (Bridge.live (doRollbackCommit fn slot)))

/-- R380. Citan 0x0A06 reports the firmware slots, versions and session. -/
def execFwStatus (fn : Fin 256) (slot : Fin 8) (s : State) : Host.Outcome State Fault Refusal :=
  .next (s.run (Bridge.live (doFwStatus fn slot)))

/-- R358. A Citan command that passes its bound, or whose core fails, completes with TIMEOUT. -/
def execCommandTimeout (fn : Fin 256) (slot : Fin 8) (s : State) : Host.Outcome State Fault Refusal :=
  .next (s.run (Bridge.live (doCommandTimeout fn slot)))

end Sys2Proof.Machine
end

