-- ==== Sys2Proof/Machine/CmdCxl.lean ====
section
/-! DEFINITION. The commands of the CXL primary mailbox (the rules each row names). -/

namespace Sys2Proof.Machine

open Sys2Proof

/-- R211. The CXL mailbox command Identify Memory Device reports capacities. -/
def execCxlIdentifyMemoryDevice (s : State) : Host.Outcome State Fault Refusal :=
  .next (s.run (Bridge.reg 0 doCxlIdentifyMemoryDevice))

/-- R211. The CXL mailbox command Get Health Info reports health and temperature. -/
def execCxlGetHealthInfo (s : State) : Host.Outcome State Fault Refusal :=
  .next (s.run (Bridge.reg 0 doCxlGetHealthInfo))

/-- R211. The CXL mailbox command Get Supported Logs reports the Command Effects Log only. -/
def execCxlGetSupportedLogs (s : State) : Host.Outcome State Fault Refusal :=
  .next (s.run (Bridge.reg 0 doCxlGetSupportedLogs))

/-- R211. The CXL mailbox command Get Log returns the Command Effects Log. -/
def execCxlGetLog (payload : List Byte) (s : State) : Host.Outcome State Fault Refusal :=
  .next (s.run (Bridge.reg 0 (doCxlGetLog payload)))

/-- R211. The CXL mailbox command Get Event Records returns General Media and Memory Module events. -/
def execCxlGetEventRecords (payload : List Byte) (s : State) : Host.Outcome State Fault Refusal :=
  .next (s.run (Bridge.reg 0 (doCxlGetEventRecords payload)))

/-- R211. The CXL mailbox command Clear Event Records clears event records. -/
def execCxlClearEventRecords (payload : List Byte) (s : State) : Host.Outcome State Fault Refusal :=
  .next (s.run (Bridge.reg 0 (doCxlClearEventRecords payload)))

/-- R211. The CXL mailbox command Get Event Interrupt Policy reports the policy. -/
def execCxlGetEventIntPolicy (s : State) : Host.Outcome State Fault Refusal :=
  .next (s.run (Bridge.reg 0 doCxlGetEventIntPolicy))

/-- R211. The CXL mailbox command Set Event Interrupt Policy sets the policy. -/
def execCxlSetEventIntPolicy (payload : List Byte) (s : State) : Host.Outcome State Fault Refusal :=
  .next (s.run (Bridge.reg 0 (doCxlSetEventIntPolicy payload)))

/-- R211. The CXL mailbox command Get Timestamp returns host time. -/
def execCxlGetTimestamp (s : State) : Host.Outcome State Fault Refusal :=
  .next (s.run (Bridge.reg 0 doCxlGetTimestamp))

/-- R211. The CXL mailbox command Set Timestamp sets host time without touching GLB_TIME. -/
def execCxlSetTimestamp (payload : List Byte) (s : State) : Host.Outcome State Fault Refusal :=
  .next (s.run (Bridge.reg 0 (doCxlSetTimestamp payload)))

/-- R211. The CXL mailbox command Background Operation Status always reports idle. -/
def execCxlBackgroundOpStatus (s : State) : Host.Outcome State Fault Refusal :=
  .next (s.run (Bridge.reg 0 doCxlBackgroundOpStatus))

/-- R211. Any other CXL mailbox command returns Unsupported. -/
def execCxlUnsupportedCommand (_op : Nat) (s : State) : Host.Outcome State Fault Refusal :=
  .next (s.run (Bridge.reg 0 doCxlUnsupportedCommand))

end Sys2Proof.Machine
end

