-- ==== Sys2Proof/Machine/CmdFault.lean ====
section
/-! DEFINITION. The commands of faults, kennel and fuses (the rules each row names). -/

namespace Sys2Proof.Machine

open Sys2Proof

/-- R386. An event of a fault-block source is counted and classified and its reaction taken, and firmware logs it. -/
def execFaultEvent (block src detail : Nat) (inst : Option Nat) (s : State) : Host.Outcome State Fault Refusal :=
  .next (s.run (Bridge.live (doFaultEvent block src detail inst)))

/-- R386. Every D strides, a source's bucket level falls by 1. -/
def execBucketLeak (block : Nat) (src : Fin 32) (s : State) : Host.Outcome State Fault Refusal :=
  .next (s.run (Bridge.live (doBucketLeak block src)))

/-- R394. The running FCLK PLL loses lock, and FCLK switches to the standby PLL, or the bridge is held in reset. -/
def execPllLockLoss (s : State) : Host.Outcome State Fault Refusal :=
  .next (s.run doPllLockLoss)

/-- R404. A rising edge on SNAP_IN triggers a snapshot when PIN_EN is set. -/
def execSnapInEdge (s : State) : Host.Outcome State Fault Refusal :=
  .next (s.run (Bridge.live doSnapInEdge))

/-- R462. A tamper source fires: the latch is set, logged and counted, and keys are zeroised as the state demands. -/
def execTamperFire (src : Fin 8) (detail : Nat) (s : State) : Host.Outcome State Fault Refusal :=
  .next (s.run (doTamperFire src detail))

/-- R482. Every 1,024 strides VBAT is measured, and VBAT_LOW is updated. -/
def execVbatMeasure (mv : Nat) (s : State) : Host.Outcome State Fault Refusal :=
  .next (s.run (doVbatMeasure mv))

/-- R478. Every 2^20 strides, the fuse array is read again and compared with the shadow. -/
def execFuseReverify (s : State) : Host.Outcome State Fault Refusal :=
  .next (s.run (Bridge.live doFuseReverify))

/-- R478. A re-verification ends, and differences are logged. -/
def execFuseReverifyEnd (diffs marg : List (Nat × Bool)) (s : State) : Host.Outcome State Fault Refusal :=
  .next (s.run (Bridge.live (doFuseReverifyEnd diffs marg)))

end Sys2Proof.Machine
end

