-- ==== Sys2Proof/Machine/CmdHerd.lean ====
section
/-! DEFINITION. The commands of the Herder: heat, copies, write-back, evacuation (the rules each row names). -/

namespace Sys2Proof.Machine

open Sys2Proof

/-- R110. Every 2^DECAY_PERIOD strides, every non-zero heat decays. -/
def execHeatDecay (s : State) : Host.Outcome State Fault Refusal :=
  .next (s.run (Bridge.live doHeatDecay))

/-- R113. The Herder starts copying a hot or pinned granule into a free frame. -/
def execPromotionStart (gran frame : Nat) (s : State) : Host.Outcome State Fault Refusal :=
  .next (s.run (Bridge.live (doPromotionStart gran frame)))

/-- R114. The Herder demotes a clean resident granule, writing a dirty one back first. -/
def execDemotionStart (gran : Nat) (s : State) : Host.Outcome State Fault Refusal :=
  .next (s.run (Bridge.live (doDemotionStart gran)))

/-- R115. The Herder starts moving a granule's home to a less loaded channel. -/
def execRelocationStart (gran : Nat) (dst : Fin 16) (slot : Nat) (s : State) : Host.Outcome State Fault Refusal :=
  .next (s.run (Bridge.live (doRelocationStart gran dst slot)))

/-- R108. The near-tier controller starts writing a resident granule's dirty lines back to its home. -/
def execWritebackStart (gran : Nat) (s : State) : Host.Outcome State Fault Refusal :=
  .next (s.run (Bridge.live (doWritebackStart gran)))

/-- R118. A copy unit's data reaches the destination, and its destination part is admitted in its set-aside slots. -/
def execCopyDataArrive (n : Fin 16) (uid : Nat) (corrected uncorrectable : LineMask) (s : State) : Host.Outcome State Fault Refusal :=
  .next (s.run (Bridge.live (doCopyDataArrive s.near n uid corrected uncorrectable)))

/-- R123. A copy not started for a full exception bucket is retried when the bucket frees an entry. -/
def execExcBucketRetry (gran : Nat) (dst : Fin 16) (slot : Nat) (s : State) : Host.Outcome State Fault Refusal :=
  .next (s.run (Bridge.live (doExcBucketRetry gran dst slot)))

/-- R127. No needed granule remains on the sled, so the evacuation ends, HRD_EVAC clears and a Herder interrupt is raised. -/
def execEvacuationComplete (n : Fin 16) (s : State) : Host.Outcome State Fault Refusal :=
  .next (s.run (Bridge.live (doEvacuationComplete n)))

end Sys2Proof.Machine
end

