-- ==== Sys2Proof/Machine/CmdHost.lean ====
section
/-! DEFINITION. The commands of the host: requests, configuration, link events (the rules each row names). -/

namespace Sys2Proof.Machine

open Sys2Proof

/-- R66. A host memory read to a window is resolved through instance, window, DLA, extent map, remap and directory, and scheduled at its
location. -/
def execWindowMemoryRead (fn : Fin 256) (tag addr len : Nat) (s : State) : Host.Outcome State Fault Refusal :=
  .next (s.run (Bridge.host (doWindowMemoryRead fn tag addr len)))

/-- R88. A host posted write to a window is resolved and entered into the write-combining buffer of its resolving channel, or of both for
a mirror. -/
def execWindowMemoryWrite (fn : Fin 256) (addr : Nat) (data : List Byte) (be : List Bool) (ep : Bool)
    (s : State) : Host.Outcome State Fault Refusal :=
  .next (s.run (Bridge.host (doWindowMemoryWrite fn addr data be ep)))

/-- R92. A write that waited for a free write-combining entry is entered when an entry frees, releasing the requests held behind it. -/
def execWcbEntryWaitEnd (s : State) : Host.Outcome State Fault Refusal :=
  .next (s.run (Bridge.live doWcbEntryWaitEnd))

/-- R90. Line data returns from the near tier and is decrypted, merged with the read's snapshot, and sent to the requester. -/
def execReadDataReturn (n : Fin 16) (uid idx : Nat) (check : LineCheck) (s : State) : Host.Outcome State Fault Refusal :=
  .next (s.run (Bridge.live (doReadDataReturn s.near n uid idx check)))

/-- R193. A configuration read is served, or completes with Configuration Request Retry Status while LEVEL is 0 or an FLR runs. -/
def execConfigRead (fn : Fin 256) (tag dword : Nat) (s : State) : Host.Outcome State Fault Refusal :=
  .next (s.run (Bridge.config 0 (doConfigRead fn tag dword)))

/-- R218. A configuration write to a field without behaviour of its own is stored or discarded as the field defines. -/
def execConfigWrite (fn : Fin 256) (tag dword value : Nat) (be : Fin 16) (s : State) : Host.Outcome State Fault Refusal :=
  .next (s.run (Bridge.config 1 (doConfigWrite fn tag dword value be)))

/-- R216. An FLR takes effect: the function's non-posted requests lose their completions, and its mailbox, rings, semaphores and scans are
reset. -/
def execFunctionLevelReset (fn : Fin 256) (s : State) : Host.Outcome State Fault Refusal :=
  .next (s.run (Bridge.flrRow (doFunctionLevelReset fn)))

/-- R216. The function's internal reset completes within 4 strides, and it leaves retry status. -/
def execFlrComplete (fn : Fin 256) (s : State) : Host.Outcome State Fault Refusal :=
  .next (s.run (Bridge.live (doFlrComplete fn)))

/-- R205. A write of VF Enable creates the VFs, or disables them with the effects of a VF reset. -/
def execVfEnableChange (on : Bool) (s : State) : Host.Outcome State Fault Refusal :=
  .next (s.run (Bridge.configRow 0 (doVfEnableChange on)))

/-- R209. A write of Mem_Enable makes CXL.mem requests served or unbacked from the next FCLK. -/
def execMemEnableWrite (on : Bool) (s : State) : Host.Outcome State Fault Refusal :=
  .next (s.run (Bridge.configRow 0 (doMemEnableWrite on)))

/-- R213. A commit of an HDM decoder is checked and takes effect at the next tick, or sets Error Not Committed. -/
def execHdmDecoderCommit (dec : Fin 8) (base size iw ig skip : Nat) (lock : Bool) (s : State) : Host.Outcome State Fault Refusal :=
  .next (s.run (Bridge.host (doHdmDecoderCommit dec { base := base, size := size, iw := iw, ig := ig, skip := skip, lock := lock })))

/-- R196. A write of PowerState moves the function between D0 and D3hot, and a write of D1 or D2 is discarded. -/
def execPowerStateWrite (fn : Fin 256) (code : Fin 4) (s : State) : Host.Outcome State Fault Refusal :=
  .next (s.run (Bridge.configRow fn (doPowerStateWrite fn code)))

/-- R244. A change of PF0's MSI-X Enable moves pending bits between the PBA and PCX_INTA_PEND. -/
def execMsixEnableChange (fn : Fin 256) (on : Bool) (s : State) : Host.Outcome State Fault Refusal :=
  .next (s.run (Bridge.configRow fn (doMsixEnableChange fn on)))

/-- R244. Setting Interrupt Disable deasserts INTA while keeping the pending bits. -/
def execInterruptDisableWrite (on : Bool) (s : State) : Host.Outcome State Fault Refusal :=
  .next (s.run (Bridge.configRow 0 (doInterruptDisableWrite on)))

/-- R242. A change of Bus Master Enable stops the bridge's own requests or releases MSI-X messages held in the PBA. -/
def execBusMasterEnableWrite (fn : Fin 256) (on : Bool) (s : State) : Host.Outcome State Fault Refusal :=
  .next (s.run (Bridge.configRow fn (doBusMasterEnableWrite fn on)))

/-- R218. A Memory Read Lock, I/O request, AtomicOp, or request to no function or BAR is answered or discarded as Unsupported Request. -/
def execUnsupportedRequest (fn : Fin 256) (posted : Bool) (tag : Nat) (s : State) : Host.Outcome State Fault Refusal :=
  .next (s.run (Bridge.host (doUnsupportedRequest fn posted tag)))

/-- R194. PME_Turn_Off is received and answered with PME_TO_Ack on the way to L2/L3 Ready. -/
def execPmeTurnOff (s : State) : Host.Outcome State Fault Refusal :=
  .next (s.run (Bridge.host doPmeTurnOff))

/-- R218. A Vendor-Defined Type 1 message is discarded, and a Type 0 message is Unsupported Request. -/
def execVendorDefinedMessage (type1 : Bool) (s : State) : Host.Outcome State Fault Refusal :=
  .next (s.run (Bridge.host (doVendorDefinedMessage type1)))

/-- R100. A CXL.mem MemRd is resolved and answered with one MemData per line. -/
def execCxlMemrd (tag hpa : Nat) (s : State) : Host.Outcome State Fault Refusal :=
  .next (s.run (Bridge.host (Bridge.cxlRead tag hpa)))

/-- R233. A CXL.mem MemRdData is served as a read. -/
def execCxlMemrddata (tag hpa : Nat) (s : State) : Host.Outcome State Fault Refusal :=
  .next (s.run (Bridge.host (Bridge.cxlRead tag hpa)))

/-- R100. A CXL.mem MemWr is entered into every buffer it names and acknowledged with Cmp. -/
def execCxlMemwr (tag hpa : Nat) (data : Line) (poison : Bool) (s : State) : Host.Outcome State Fault Refusal :=
  .next (s.run (Bridge.host (Bridge.cxlWrite tag hpa data (BitVec.allOnes 64) poison)))

/-- R234. A CXL.mem MemWrPtl is entered by its byte enables and acknowledged with Cmp. -/
def execCxlMemwrptl (tag hpa : Nat) (data : Line) (be : LineMask) (poison : Bool) (s : State) : Host.Outcome State Fault Refusal :=
  .next (s.run (Bridge.host (Bridge.cxlWrite tag hpa data be poison)))

/-- R233. A MemSpecRd is accepted and ignored, with no response. -/
def execCxlMemspecrd (_hpa : Nat) (s : State) : Host.Outcome State Fault Refusal :=
  .next (s.run (Bridge.host doCxlMemspecrd))

/-- R233. Any other M2S opcode is logged in the CXL RAS capability as a protocol error and discarded. -/
def execCxlM2sOther (_op : Nat) (s : State) : Host.Outcome State Fault Refusal :=
  .next (s.run (Bridge.host doCxlM2sOther))

/-- R227. A completion to a read the bridge issued arrives and is used, or the read fails on UR, CA or EP. -/
def execHostCompletionReceive (tag status : Nat) (data : List Byte) (ep : Bool) (s : State) : Host.Outcome State Fault Refusal :=
  .next (s.run (Bridge.link (doHostCompletionReceive tag status data ep)))

/-- R226. A read the bridge issued receives no completion within the timeout in force and fails. -/
def execCompletionTimeout (tag : Nat) (s : State) : Host.Outcome State Fault Refusal :=
  .next (s.run (Bridge.live (doCompletionTimeout tag)))

/-- R215. A hot reset resets configuration space, HDM decoders, mailboxes, rings, scans and semaphores while keeping firmware and
instances. -/
def execHotReset (s : State) : Host.Outcome State Fault Refusal :=
  .next (s.run (Bridge.link doHotReset))

/-- R215. The host link leaves DL_Active, with the effects of a hot reset and loss of unacknowledged CXL.mem writes. -/
def execHostLinkDown (s : State) : Host.Outcome State Fault Refusal :=
  .next (s.run (Bridge.live doHostLinkDown))

/-- R190. The host link trains, latching CXL or PCI Express mode at the first training after PERST_N. -/
def execHostLinkTraining (cxl : Bool) (sets : PartnerSets) (rate width lanes : Nat) (reversed : Bool)
    (s : State) : Host.Outcome State Fault Refusal :=
  .next (s.run (doHostLinkTraining cxl sets.flit sets.bypass rate width lanes reversed))

/-- R195. The link partner requests an L0p width change, and the bridge accepts it. -/
def execL0pWidthRequest (width : Nat) (s : State) : Host.Outcome State Fault Refusal :=
  .next (s.run (Bridge.link (doL0pWidthRequest width)))

/-- R195. After 64 strides of traffic below a narrower width's capacity, the bridge requests that width. -/
def execL0pNarrowRequest (s : State) : Host.Outcome State Fault Refusal :=
  .next (s.run (Bridge.live doL0pNarrowRequest))

/-- R194. With ASPM enabled and both directions idle for 8 µs, the link enters L1. -/
def execAspmL1Entry (s : State) : Host.Outcome State Fault Refusal :=
  .next (s.run (Bridge.live doAspmL1Entry))

end Sys2Proof.Machine
end

