-- ==== Sys2Proof/Machine/CmdJournal.lean ====
section
/-! DEFINITION. The commands of the journal and the power-loss sequence (the rules each row names). -/

namespace Sys2Proof.Machine

open Sys2Proof

/-- R439. A commit group's COMMIT record is written on every available copy, and its change is due at the next tick. -/
def execCommitGroupWritten (s : State) : Host.Outcome State Fault Refusal :=
  .next (s.run (Bridge.live doCommitGroupWritten))

/-- R441. At 75 % fill or 2^24 strides since the last checkpoint, writing of a checkpoint begins. -/
def execCompactionStart (s : State) : Host.Outcome State Fault Refusal :=
  .next (s.run (Bridge.live doCompactionStart))

/-- R441. The checkpoint header and CKPT_MARK are written, freeing older records. -/
def execCheckpointComplete (s : State) : Host.Outcome State Fault Refusal :=
  .next (s.run (Bridge.live doCheckpointComplete))

/-- R446. With the journal links up, the newest checkpoint and the later commit groups are loaded and compared. -/
def execJournalReplay (bad diffs : Nat) (refused : List Nat) (s : State) : Host.Outcome State Fault Refusal :=
  .next (s.run (Bridge.live (doJournalReplay bad diffs refused)))

/-- R443. PWR_FAIL_N low for 200 ns starts the power-loss sequence of quiesce, drain and write-back. -/
def execPowerFail (s : State) : Host.Outcome State Fault Refusal :=
  .next (s.run doPowerFail)

/-- R443. A channel reports its power-loss drain and write-back done, its SAVE goes out, and after the last report the END record is
written. -/
def execChannelWritebackDone (n : Fin 16) (s : State) : Host.Outcome State Fault Refusal :=
  .next (s.run (Bridge.live (doChannelWritebackDone n)))

end Sys2Proof.Machine
end

