-- ==== Sys2Proof/Machine/CmdLanes.lean ====
section
/-! DEFINITION. The commands of the lanes of a channel (the rules each row names). -/

namespace Sys2Proof.Machine

open Sys2Proof

/-- R260. Firmware enables a powered channel, which sends offer sets and enters DETECT. -/
def execChannelEnable (n : Fin 16) (s : State) : Host.Outcome State Fault Refusal :=
  .next (s.run (Bridge.live (doChannelEnable n)))

/-- R260. Two inbound lanes without LOS for 1 µs move DETECT to SYNC. -/
def execDetectSignal (n : Fin 16) (s : State) : Host.Outcome State Fault Refusal :=
  .next (s.run (Bridge.live (doDetectSignal n)))

/-- R260. Offer sets from the sled advance SYNC and OFFER, where the rate and maps are chosen. -/
def execOfferSetReceive (n : Fin 16) (lane : Fin 5) (com id : Nat) (rest : List Nat) (s : State) : Host.Outcome State Fault Refusal :=
  .next (s.run (Bridge.live (doOfferSetReceive n lane (com :: id :: rest))))

/-- R260. Matching confirm sets with LOOP_LOCKED move CONFIRM to RATE_SWITCH. -/
def execConfirmSetReceive (n : Fin 16) (lane : Fin 5) (com id physLane chan rates : Nat) (rest : List Nat)
    (s : State) : Host.Outcome State Fault Refusal :=
  .next (s.run (Bridge.live (doConfirmSetReceive n lane (com :: id :: physLane :: chan :: rates :: rest))))

/-- R260. A rate-switch notice from the sled is received. -/
def execRateSwitchNoticeReceive (n : Fin 16) (set : LaneSet) (s : State) : Host.Outcome State Fault Refusal :=
  .next (s.run (Bridge.live (doRateSwitchNoticeReceive n set.lane set.symbols)))

/-- R259. A PAM4 training frame is received, its tap requests applied, and equalization or fast-retrain progress counted. -/
def execTrainingFrameReceive (n : Fin 16) (lane : Fin 5) (low outMap inMap count high chk : Nat) (settled : Bool) (errs : Nat)
    (s : State) : Host.Outcome State Fault Refusal :=
  .next (s.run (Bridge.live (doTrainingFrameReceive n lane (frameControl low outMap inMap count high chk) settled errs)))

/-- R260. An alignment set or marker fixes a lane's block boundary, and the lanes reach ACTIVE when all lanes are aligned and deskewed. -/
def execAlignmentReceive (n : Fin 16) (mark : LaneSet) (skew : Nat) (ppm : Int) (s : State) : Host.Outcome State Fault Refusal :=
  .next (s.run (Bridge.live (doAlignmentReceive n mark.lane skew ppm mark.symbols)))

/-- R268. The idle-entry pattern is received, and the lanes hold idle. -/
def execIdleEntryReceive (n : Fin 16) (s : State) : Host.Outcome State Fault Refusal :=
  .next (s.run (Bridge.live (doIdleEntryReceive n)))

/-- R269. An exit burst from the partner is answered with the bridge's own burst. -/
def execExitBurstReceive (n : Fin 16) (s : State) : Host.Outcome State Fault Refusal :=
  .next (s.run (Bridge.live (doExitBurstReceive n)))

/-- R269. The bridge leaves electrical idle by sending the burst, lock run and alignment. -/
def execEidleExitStart (n : Fin 16) (s : State) : Host.Outcome State Fault Refusal :=
  .next (s.run (Bridge.live (doEidleExitStart n)))

/-- R260. A mapped lane without alignment 1 µs after the burst fails and starts a fast retrain. -/
def execExitAlignmentTimeout (n : Fin 16) (lane : Fin 5) (s : State) : Host.Outcome State Fault Refusal :=
  .next (s.run (Bridge.live (doExitAlignmentTimeout n lane)))

/-- R260. A training state's timeout fails the attempt, and the third failure enters DOWN. -/
def execTrainingStateTimeout (n : Fin 16) (s : State) : Host.Outcome State Fault Refusal :=
  .next (s.run (Bridge.live (doTrainingStateTimeout n)))

/-- R262. A lane's loss-of-signal detector asserts or deasserts. -/
def execLosChange (n : Fin 16) (lane : Fin 5) (on : Bool) (s : State) : Host.Outcome State Fault Refusal :=
  .next (s.run (Bridge.live (doLosChange n lane on)))

/-- R262. A lane's loss-of-lock detector asserts or deasserts. -/
def execLolChange (n : Fin 16) (lane : Fin 5) (on : Bool) (s : State) : Host.Outcome State Fault Refusal :=
  .next (s.run (Bridge.live (doLolChange n lane on)))

/-- R265. With 8 frames or 16 sets received on every new-map lane and alignment sent, data blocks resume. -/
def execFastRetrainDone (n : Fin 16) (s : State) : Host.Outcome State Fault Refusal :=
  .next (s.run (Bridge.live (doFastRetrainDone n)))

/-- R266. A fast retrain past its bound enters DETECT with failure 8. -/
def execFastRetrainTimeout (n : Fin 16) (s : State) : Host.Outcome State Fault Refusal :=
  .next (s.run (Bridge.live (doFastRetrainTimeout n)))

end Sys2Proof.Machine
end

