-- ==== Sys2Proof/Machine/CmdLink.lean ====
section
/-! DEFINITION. The commands of the channel link layer (the rules each row names). -/

namespace Sys2Proof.Machine

open Sys2Proof

/-- R307. A sled's SAVE_RSP is received, after which nothing further is sent to it. -/
def execSaveRspReceive (n : Fin 16) (tag : Nat) (accepted : Bool) (s : State) : Host.Outcome State Fault Refusal :=
  .next (s.run (Bridge.live (doSaveRspReceive n tag accepted)))

/-- R287. A flit is received and checked, and accepted, discarded as duplicate, or causes retry. -/
def execFlitReceive (n : Fin 16) (head₀ head₁ slots₀ slots₁ slots₂ crc parity : List Nat) (s : State) : Host.Outcome State Fault Refusal :=
  .next (s.run (Bridge.live (doFlitReceive n (head₀ ++ head₁ ++ slots₀ ++ slots₁ ++ slots₂ ++ crc ++ parity))))

/-- R284. An RDATA returns one line of a read, which is checked, decrypted and merged. -/
def execRdataReceive (n : Fin 16) (tag idx : Nat) (w : Codeword) (status : Fin 4) (s : State) : Host.Outcome State Fault Refusal :=
  .next (s.run (Bridge.live (doRdataReceive n tag idx w status)))

/-- R292. A CRED message updates a data VC's limits if it is newer. -/
def execCredReceive (n : Fin 16) (vc : Fin 8) (hdr data : Nat) (s : State) : Host.Outcome State Fault Refusal :=
  .next (s.run (Bridge.live (doCredReceive n vc hdr data)))

/-- R286. A CRED_DATA record updates a data VC's limits. -/
def execCredDataReceive (n : Fin 16) (vc : Fin 8) (hdr data : Nat) (s : State) : Host.Outcome State Fault Refusal :=
  .next (s.run (Bridge.live (doCredDataReceive n vc hdr data)))

/-- R294. An MCRED adds RETURNED to the management AVAIL. -/
def execMcredReceive (n : Fin 16) (returned : Nat) (s : State) : Host.Outcome State Fault Refusal :=
  .next (s.run (Bridge.live (doMcredReceive n returned)))

/-- R294. A sled's MSYNC_REQ is answered with MSYNC_RSP and the bridge's free management entries. -/
def execMsyncReqReceive (n : Fin 16) (nonce : Nat) (s : State) : Host.Outcome State Fault Refusal :=
  .next (s.run (Bridge.live (doMsyncReqReceive n nonce)))

/-- R294. An MSYNC_RSP with the current NONCE sets AVAIL to FREE, and credited VC3 sending resumes. -/
def execMsyncRspReceive (n : Fin 16) (nonce free : Nat) (s : State) : Host.Outcome State Fault Refusal :=
  .next (s.run (Bridge.live (doMsyncRspReceive n nonce free)))

/-- R283. A sled's SREG_RSP answering a register read or write is received. -/
def execSregRspReceive (n : Fin 16) (_tag _data : Nat) (s : State) : Host.Outcome State Fault Refusal :=
  .next (s.run (Bridge.live (doSregRspReceive n)))

/-- R285. A sled EVENT message enters the channel's fault block. -/
def execEventReceive (n : Fin 16) (code detail : Nat) (s : State) : Host.Outcome State Fault Refusal :=
  .next (s.run (Bridge.live (doEventReceive n code detail)))

/-- R289. A RETRY_REQ starts a replay from its EXP_SEQ. -/
def execRetryReqReceive (n : Fin 16) (exp : Nat) (s : State) : Host.Outcome State Fault Refusal :=
  .next (s.run (Bridge.live (doRetryReqReceive n exp)))

/-- R296. The sled's INIT_PARAM is received during initialisation. -/
def execInitParamReceive (n : Fin 16) (resume : Bool) (vcs txSeq rxExp rev mgmt : Nat) (s : State) : Host.Outcome State Fault Refusal :=
  .next (s.run
    (Bridge.live (doInitParamReceive n { resume := resume, vcs := vcs, txSeq := txSeq, rxExp := rxExp, rev := rev, mgmt := mgmt })))

/-- R296. The sled's INIT_IDENT is received, and the sled is checked and refused with LINK_RESET if it fails. -/
def execInitIdentReceive (n : Fin 16) (second : Bool) (vendor product revision capGib : Nat) (persist restored selfRefresh : Bool) (saveMs serial : Nat)
    (s : State) : Host.Outcome State Fault Refusal :=
  .next (s.run
    (Bridge.live (doInitIdentReceive n second { vendor := vendor, product := product, revision := revision, capGib := capGib, persist := persist, restored := restored, selfRefresh := selfRefresh, saveMs := saveMs, serial := serial })))

/-- R298. With INIT_DONE sent and received, the link goes UP, resumed or fresh, or via FLUSH. -/
def execInitDoneReceive (n : Fin 16) (s : State) : Host.Outcome State Fault Refusal :=
  .next (s.run (Bridge.live (doInitDoneReceive n)))

/-- R300. A PM_RSP acceptance starts electrical idle entry. -/
def execPmRspReceive (n : Fin 16) (accept : Bool) (s : State) : Host.Outcome State Fault Refusal :=
  .next (s.run (Bridge.live (doPmRspReceive n accept)))

/-- R299. A RATE_RSP acceptance stops SEQ flits and sends the lanes to RATE_SWITCH. -/
def execRateRspReceive (n : Fin 16) (accept : Bool) (s : State) : Host.Outcome State Fault Refusal :=
  .next (s.run (Bridge.live (doRateRspReceive n accept)))

/-- R298. A LINK_RESET record takes the link down. -/
def execLinkResetReceive (n : Fin 16) (_reason : Nat) (s : State) : Host.Outcome State Fault Refusal :=
  .next (s.run (Bridge.live (doLinkResetReceive n)))

/-- R289. 1.5 µs without ACK progress starts a replay from the oldest flit, and a fourth such replay takes the link down. -/
def execReplayTimerExpiry (n : Fin 16) (s : State) : Host.Outcome State Fault Refusal :=
  .next (s.run (Bridge.live (doReplayTimerExpiry n)))

/-- R287. Every 1.5 µs in retry, the receiver repeats its RETRY_REQ. -/
def execRetryReqRepeat (n : Fin 16) (s : State) : Host.Outcome State Fault Refusal :=
  .next (s.run (Bridge.live (doRetryReqRepeat n)))

/-- R292. At least every 4 µs, a data VC's limits are sent. -/
def execCredSendTimer (n : Fin 16) (s : State) : Host.Outcome State Fault Refusal :=
  .next (s.run (Bridge.live (doCredSendTimer n)))

/-- R294. After initialisation and at every 64th stride, a management-credit resynchronisation starts. -/
def execMsyncStart (n : Fin 16) (s : State) : Host.Outcome State Fault Refusal :=
  .next (s.run (Bridge.live (doMsyncStart n)))

/-- R294. With no MSYNC_RSP in 10 µs, MSYNC_REQ is sent again, and the third failure takes the link down. -/
def execMsyncTimeout (n : Fin 16) (s : State) : Host.Outcome State Fault Refusal :=
  .next (s.run (Bridge.live (doMsyncTimeout n)))

/-- R298. INIT lasting 100 µs takes the link down. -/
def execInitTimeout (n : Fin 16) (s : State) : Host.Outcome State Fault Refusal :=
  .next (s.run (Bridge.live (doInitTimeout n)))

/-- R299. The bridge sends RATE_REQ to start a running speed change. -/
def execRateChangeStart (n : Fin 16) (s : State) : Host.Outcome State Fault Refusal :=
  .next (s.run (Bridge.live (doRateChangeStart n)))

/-- R299. Lanes not ACTIVE 400 µs after RATE_RSP take the link down. -/
def execRateChangeTimeout (n : Fin 16) (s : State) : Host.Outcome State Fault Refusal :=
  .next (s.run (Bridge.live (doRateChangeTimeout n)))

/-- R300. A quiet channel, in Doze entry or with idle enabled, sends PM_REQ. -/
def execIdleRequest (n : Fin 16) (s : State) : Host.Outcome State Fault Refusal :=
  .next (s.run (Bridge.live (doIdleRequest n)))

/-- R302. The link goes down, C reads 0, and the grace period holds link state. -/
def execLinkDown (n : Fin 16) (s : State) : Host.Outcome State Fault Refusal :=
  .next (s.run (Bridge.live (doLinkDown n)))

/-- R303. 32 µs after link down, host reads are poisoned or moved to partners, and drains move to the grace store. -/
def execReadHold (n : Fin 16) (s : State) : Host.Outcome State Fault Refusal :=
  .next (s.run (Bridge.live (doReadHold n)))

/-- R298. The grace period ends, or the store fills, and the link goes to FLUSH. -/
def execGraceExpiry (n : Fin 16) (s : State) : Host.Outcome State Fault Refusal :=
  .next (s.run (Bridge.live (doGraceExpiry n)))

/-- R306. The flush completes, and the channel's link source is declared severe for fencing. -/
def execFlushComplete (n : Fin 16) (s : State) : Host.Outcome State Fault Refusal :=
  .next (s.run (Bridge.live (doFlushComplete n)))

/-- R395. 30 µs after arrival, a held read of a mirrored segment takes the partner path. -/
def execHoldLimitPartner (rid idx : Nat) (s : State) : Host.Outcome State Fault Refusal :=
  .next (s.run (Bridge.live (doHoldLimitPartner rid idx)))

/-- R395. 36 µs after arrival, any other held read completes with poison. -/
def execHoldLimitPoison (rid idx : Nat) (s : State) : Host.Outcome State Fault Refusal :=
  .next (s.run (Bridge.live (doHoldLimitPoison rid idx)))

/-- R395. A drain offered 36 µs earlier and still held is sealed into the grace store. -/
def execDrainHoldLimit (n : Fin 16) (ln : Nat) (s : State) : Host.Outcome State Fault Refusal :=
  .next (s.run (Bridge.live (doDrainHoldLimit n ln)))

end Sys2Proof.Machine
end

