-- ==== Sys2Proof/Machine/CmdPower.lean ====
section
/-! DEFINITION. The commands of power, reset, telemetry, sled service, and what remains (the rules each row names). -/

namespace Sys2Proof.Machine

open Sys2Proof

/-- R488. A supply below threshold, an absent SYS_REFCLK or PWR_FAIL_N low at power-up holds everything but the kennel in reset. -/
def execPowerOnReset (kept : Bool) (s : State) : Host.Outcome State Fault Refusal :=
  .next { s.run (doPowerOnReset kept) with near := [] }

/-- R553. A supply leaves its limits, firing the voltage detector or asserting power-on reset. -/
def execSupplyFault (below : Bool) (s : State) : Host.Outcome State Fault Refusal :=
  .next { s.run (doSupplyFault below) with near := if below then [] else (s.run (doSupplyFault below)).near }

/-- R491. 1 ms after power-on reset ends, start-up reads fuses, verifies an image, trains HBM and links, and loads maps and keys. -/
def execStartUp (hbms cores : Nat) (tenancy : Bool) (board : Board) (s : State) : Host.Outcome State Fault Refusal :=
  .next (s.run (doStartUp hbms cores tenancy board))

/-- R473. 10 ms after the boot ROM handler starts, the quad-SPI pins go to high impedance. -/
def execQspiPinRelease (s : State) : Host.Outcome State Fault Refusal :=
  .next (s.run (Bridge.live doQspiPinRelease))

/-- R490. A falling edge of PERST_N stops the host port, drains entries, releases semaphores and holds the musher cores. -/
def execPerstAssert (s : State) : Host.Outcome State Fault Refusal :=
  .next (s.run doPerstAssert)

/-- R493. PERST_N rising restarts the boot ROM, keeping map state or running a full start-up. -/
def execPerstDeassert (hbms cores : Nat) (tenancy : Bool) (slotA slotB : FwSlot) (next : Option Nat) (seq : Nat)
    (s : State) : Host.Outcome State Fault Refusal :=
  .next (s.run (Bridge.perstDeassert hbms cores tenancy slotA slotB next seq))

/-- R496. With no accepted job left, the bridge drains, idles links, puts HBM in self-refresh and starts the Whistle. -/
def execDozeEntry (s : State) : Host.Outcome State Fault Refusal :=
  .next (s.run (Bridge.live doDozeEntry))

/-- R427. A watched source found high in Doze starts a wake and records the cause. -/
def execWhistleWake (s : State) : Host.Outcome State Fault Refusal :=
  .next (s.run (Bridge.live doWhistleWake))

/-- R498. An unconditional cause (L1.2 exit, CLKREQ_N, PERST_N, PWR_FAIL_N or trip) starts a wake from Doze. -/
def execWakeStart (cause : Nat) (s : State) : Host.Outcome State Fault Refusal :=
  .next (s.run (Bridge.live (doWakeStart cause)))

/-- R499. 10 µs after the wake began, the bridge is in Run, and held requests are admitted. -/
def execWakeComplete (s : State) : Host.Outcome State Fault Refusal :=
  .next (s.run (Bridge.live doWakeComplete))

/-- R527. Every 64 strides the sensors are read, and warning and critical levels are entered or left. -/
def execSensorSample (temps : List (Option Int)) (s : State) : Host.Outcome State Fault Refusal :=
  .next (s.run (Bridge.live (doSensorSample temps)))

/-- R501. The comparator at 130 °C runs the power-loss sequence and then holds the bridge in reset. -/
def execThermalTrip (s : State) : Host.Outcome State Fault Refusal :=
  .next (s.run doThermalTrip)

/-- R528. Every 1,024 strides rail currents are measured, and power and energy are updated. -/
def execRailSample (mw : List Nat) (s : State) : Host.Outcome State Fault Refusal :=
  .next (s.run (Bridge.live (doRailSample mw)))

/-- R512. PRSNT_N low for 100 ms makes the position PRESENT. -/
def execSledInserted (n : Fin 16) (s : State) : Host.Outcome State Fault Refusal :=
  .next (s.run (doSledInserted n))

/-- R518. PRSNT_N high for 2 µs ends the sled's presence, as a surprise removal if it was admitted. -/
def execSledDeparted (n : Fin 16) (s : State) : Host.Outcome State Fault Refusal :=
  .next (s.run (doSledDeparted n))

/-- R515. A filtered press of the attention button starts, aborts or is ignored in the service sequence. -/
def execAttnButtonPress (n : Fin 16) (s : State) : Host.Outcome State Fault Refusal :=
  .next (s.run (Bridge.live (doAttnButtonPress n)))

/-- R512. The 5 s abort window ends, starting ADMITTING or the removal. -/
def execServiceWindowExpiry (n : Fin 16) (s : State) : Host.Outcome State Fault Refusal :=
  .next (s.run (Bridge.live (doServiceWindowExpiry n)))

/-- R512. 100 ms after PWREN rises, the channel's lanes leave DISABLED. -/
def execSledPowerSettle (n : Fin 16) (s : State) : Host.Outcome State Fault Refusal :=
  .next (s.run (Bridge.live (doSledPowerSettle n)))

/-- R515. 500 ms after PWREN falls, the power LED goes out and the position enters READY. -/
def execPowerOffSettle (n : Fin 16) (s : State) : Host.Outcome State Fault Refusal :=
  .next (s.run (Bridge.live (doPowerOffSettle n)))

/-- R517. 10 s after a refused removal, the attention LED goes out. -/
def execAttnLedTimeout (n : Fin 16) (s : State) : Host.Outcome State Fault Refusal :=
  .next (s.run (Bridge.live (doAttnLedTimeout n)))

/-- R270. A lane's PRBS checker declares lock after 64 matching bits, or loses lock after 64 mismatches in 1,024 bits and seeds again. -/
def execPrbsLockChange (n : Fin 16) (lane : Fin 5) (on : Bool) (bits errs : Nat) (s : State) : Host.Outcome State Fault Refusal :=
  .next (s.run (Bridge.live (doPrbsLockChange n lane on bits errs)))

/-- R260. After its rate-switch notices, an end's 1 µs of idle ends and it starts sending training frames or confirm sets at the new rate.
-/
def execRateSwitchIdleEnd (n : Fin 16) (s : State) : Host.Outcome State Fault Refusal :=
  .next (s.run (Bridge.live (doRateSwitchIdleEnd n)))

/-- R387. A row sparing or pseudo-channel rebuild finishes, and the source's severe bit clears and its bucket returns to 0 without a
clear. -/
def execSparingComplete (block : Nat) (src : Fin 32) (s : State) : Host.Outcome State Fault Refusal :=
  .next (s.run (Bridge.live (doSparingComplete block src)))

/-- R73. Resident firmware finishes rebuilding a frozen descriptor from checkpoint and journal, and the extent stops returning poison and
discarding writes. -/
def execDescriptorRebuildDone (n : Fin 16) (index : Nat) (s : State) : Host.Outcome State Fault Refusal :=
  .next (s.run (Bridge.live (doDescriptorRebuildDone n index)))

/-- R23. After an HBM stack is lost, resident firmware finishes rebuilding the affected channels' maps in the other stack, and those
channels are no longer fenced. -/
def execStackMapRebuildDone (stack : Fin 2) (s : State) : Host.Outcome State Fault Refusal :=
  .next (s.run (Bridge.live (doStackMapRebuildDone stack)))

/-- R126. During an evacuation, the Herder starts copying a granule of an in-progress extent to its destination extent. -/
def execEvacuationMoveStart (gran : Nat) (dst : Fin 16) (ext : Nat) (s : State) : Host.Outcome State Fault Refusal :=
  .next (s.run (Bridge.live (doEvacuationMoveStart gran dst ext)))

/-- R461. A tamper input or detector stops being active, so KNL_TAMPER.ACTIVE_SRC and interrupt source 930 fall and the source may fire
anew. -/
def execTamperSourceClear (src : Fin 8) (s : State) : Host.Outcome State Fault Refusal :=
  .next (s.run (doTamperSourceClear src))

/-- R237. The host link or data link layer detects a Receiver Error, Bad TLP, Bad DLLP, replay event or protocol error, and it is reported
through AER. -/
def execHostLinkError (kind : Nat) (s : State) : Host.Outcome State Fault Refusal :=
  .next (s.run (Bridge.live (doHostLinkError kind)))

/-- R414. An MCTP packet is received on SMBus and raises interrupt source 975. -/
def execMctpPacketReceive (_packet : List Byte) (s : State) : Host.Outcome State Fault Refusal :=
  .next (s.run (Bridge.live doMctpPacketReceive))

/-- R414. The debug UART receives data and raises interrupt source 976. -/
def execUartReceive (_data : List Byte) (s : State) : Host.Outcome State Fault Refusal :=
  .next (s.run (Bridge.live doUartReceive))

/-- R547. An IEEE 1149.1 instruction is loaded through the JTAG port, and beyond boundary scan it is refused while the tamper latch,
DEBUG_DISABLE or DEBUG_OFF holds. -/
def execJtagInstruction (boundary : Bool) (s : State) : Host.Outcome State Fault Refusal :=
  .next (s.run (doJtagInstruction boundary))

/-- R242. A configuration write changes a function's MSI-X Function Mask, and clearing it sends the messages of unmasked entries with PBA
bits set. -/
def execFunctionMaskWrite (fn : Fin 256) (on : Bool) (s : State) : Host.Outcome State Fault Refusal :=
  .next (s.run (Bridge.configRow fn (doFunctionMaskWrite fn on)))

/-- R380. The slot erase that FW_BEGIN started finishes, and its OPERATION_DONE is sent. -/
def execFwEraseComplete (s : State) : Host.Outcome State Fault Refusal :=
  .next (s.run (Bridge.live doFwEraseComplete))

/-- R469. The asynchronous verification of a written slot finishes with its RESULT, leaving the slot verified or FAILED and closing the
session. -/
def execFwVerifyComplete (good : Bool) (s : State) : Host.Outcome State Fault Refusal :=
  .next (s.run (Bridge.live (doFwVerifyComplete good)))

/-- R194. From L1, when the LTR rules allow, the host link enters L1.2 and the bridge releases CLKREQ_N. -/
def execL12Entry (s : State) : Host.Outcome State Fault Refusal :=
  .next (s.run (Bridge.live doL12Entry))

/-- R218. A Set_Slot_Power_Limit message is received and handled as the Base Specification defines. -/
def execSetSlotPowerLimit (value : Nat) (s : State) : Host.Outcome State Fault Refusal :=
  .next (s.run (Bridge.host (doSetSlotPowerLimit value)))

end Sys2Proof.Machine
end

