-- ==== Sys2Proof/Machine/CmdRegs.lean ====
section
/-! DEFINITION. The commands of registers of the block: accesses, mailboxes, rings, semaphores, interrupt controls (the rules each row names). -/

namespace Sys2Proof.Machine

open Sys2Proof

/-- R5. A write to a register without a row of its own is stored, cleared or discarded as its access code states. -/
def execRegisterWrite (who : Fin 261) (addr : Nat) (data : RegData) (size : Nat) (s : State) : Host.Outcome State Fault Refusal :=
  .next (s.run (Bridge.reg who (if data.ep && decide (who.val < 256) then doPoisonedWrite who else doRegisterWrite who addr data.value size)))

/-- R27. A read of the LO half of a 64-bit value latches its upper half for the reading function's HI read. -/
def execLoRegisterRead (who : Fin 261) (addr size : Nat) (s : State) : Host.Outcome State Fault Refusal :=
  .next (s.run (Bridge.regRead who (doLoRegisterRead who addr size)))

/-- R65. A write to a block's counter-clear register clears the selected counters. -/
def execCounterClear (addr value : Nat) (s : State) : Host.Outcome State Fault Refusal :=
  .next (s.run (Bridge.reg 0 (doCounterClear addr value)))

/-- R104. CLR_LAST clears the valid flag of the last uncorrectable line record. -/
def execEccLastClear (n : Fin 16) (s : State) : Host.Outcome State Fault Refusal :=
  .next (s.run (Bridge.reg 0 (doEccLastClear n)))

/-- R104. CLR_HIGH sets HIGH_WATER to the current occupancy. -/
def execWcbHighWaterReset (n : Fin 16) (s : State) : Host.Outcome State Fault Refusal :=
  .next (s.run (Bridge.reg 0 (doWcbHighWaterReset n)))

/-- R330. A write to MBX_DB posts each named FREE slot, or sets DB_ERR for a slot that is not FREE. -/
def execMailboxDoorbell (fn : Fin 256) (mask : Nat) (s : State) : Host.Outcome State Fault Refusal :=
  .next (s.run (Bridge.reg fn (doMailboxDoorbell fn mask)))

/-- R330. A write to a command buffer is stored while its slot is FREE, and otherwise discarded with WR_ERR. -/
def execMailboxCommandWrite (fn : Fin 256) (slot : Fin 8) (word value : Nat) (s : State) : Host.Outcome State Fault Refusal :=
  .next (s.run (Bridge.reg fn (doMailboxCommandWrite fn slot word value)))

/-- R330. Writing 1 to a RESP bit of MBX_DONE frees a DONE slot. -/
def execMailboxDoneAck (fn : Fin 256) (mask : Nat) (s : State) : Host.Outcome State Fault Refusal :=
  .next (s.run (Bridge.reg fn (doMailboxDoneAck fn mask)))

/-- R331. Writing 1 to MBX_DONE.NOTIFY acknowledges a notification and lets the next waiting one be written. -/
def execNotifyAck (fn : Fin 256) (s : State) : Host.Outcome State Fault Refusal :=
  .next (s.run (Bridge.reg fn (doNotifyAck fn)))

/-- R332. Setting an interrupt enable while a matching DONE bit is set raises vector 0 once. -/
def execMailboxCtrlWrite (fn : Fin 256) (value : Nat) (s : State) : Host.Outcome State Fault Refusal :=
  .next (s.run (Bridge.reg fn (doMailboxCtrlWrite fn value)))

/-- R145. A write of a new TAIL to a ring doorbell is accepted, or discarded with DB_ERR when it exceeds the ring size. -/
def execJobDoorbell (fn : Fin 256) (ring : Fin 8) (tail : Nat) (s : State) : Host.Outcome State Fault Refusal :=
  .next (s.run (Bridge.reg fn (doJobDoorbell fn ring tail)))

/-- R145. Setting ENABLE from 0 to 1 resets HEAD and TAIL and starts fetching from the ring. -/
def execRingEnable (fn : Fin 256) (ring : Fin 8) (s : State) : Host.Outcome State Fault Refusal :=
  .next (s.run (Bridge.reg fn (doRingEnable fn ring)))

/-- R181. Clearing ENABLE stops fetching, while accepted jobs complete normally. -/
def execRingDisable (fn : Fin 256) (ring : Fin 8) (s : State) : Host.Outcome State Fault Refusal :=
  .next (s.run (Bridge.reg fn (doRingDisable fn ring)))

/-- R336. A read of SEMs_ACQ acquires a free semaphore, regrants it to its holder, or reports the holder or NO_ACCESS. -/
def execSemAcquireRead (fn : Fin 256) (sem : Fin 64) (s : State) : Host.Outcome State Fault Refusal :=
  .next (s.run (Bridge.regRead fn (doSemAcquireRead fn sem)))

/-- R336. A write of 1 to SEMs_REL by the holder frees the semaphore, and from anyone else it is discarded and counted. -/
def execSemReleaseWrite (fn : Fin 256) (sem : Fin 64) (s : State) : Host.Outcome State Fault Refusal :=
  .next (s.run (Bridge.reg fn (doSemReleaseWrite fn sem)))

/-- R390. A write of 1 to a source's force bit causes one event of that source in the next FCLK, with FORCED set. -/
def execFaultForce (block : Nat) (src : Fin 32) (s : State) : Host.Outcome State Fault Refusal :=
  .next (s.run (Bridge.reg 0 (doFaultForce block src)))

/-- R390. The first write of FLT_CTRL.FORCE_LOCK makes every later write to a force bit be discarded. -/
def execForceLockSet (s : State) : Host.Outcome State Fault Refusal :=
  .next (s.run (Bridge.reg 0 doForceLockSet))

/-- R404. A write of 1 to FLT_SNAP_CTRL.TRIGGER takes a snapshot at the next edge if armed. -/
def execSnapshotTrigger (s : State) : Host.Outcome State Fault Refusal :=
  .next (s.run (Bridge.reg 0 doSnapshotTrigger))

/-- R406. A write of 1 to REARM re-arms the snapshot trigger. -/
def execSnapshotRearm (s : State) : Host.Outcome State Fault Refusal :=
  .next (s.run (Bridge.reg 0 doSnapshotRearm))

/-- R483. Writing KNL_LOCK.DEBUG_OFF refuses JTAG beyond boundary scan and UART debug until reset. -/
def execDebugLockSet (s : State) : Host.Outcome State Fault Refusal :=
  .next (s.run (Bridge.reg 0 doDebugLockSet))

/-- R273. INJ_ONE inverts the next PRBS bit sent on a lane sending PRBS. -/
def execPrbsInjectOne (n : Fin 16) (lane : Fin 5) (s : State) : Host.Outcome State Fault Refusal :=
  .next (s.run (Bridge.reg 0 (doPrbsInjectOne n lane)))

/-- R531. A write of 1 to TLM_CTRL.LATCH copies every telemetry reading into the latch in one FCLK. -/
def execTelemetryLatch (s : State) : Host.Outcome State Fault Refusal :=
  .next (s.run (Bridge.reg 0 doTelemetryLatch))

/-- R243. Writing 1 to a PCX_INTA_PEND bit clears it, and the INTA condition is re-evaluated. -/
def execIntaPendingClear (mask : BitVec 64) (s : State) : Host.Outcome State Fault Refusal :=
  .next (s.run (Bridge.reg 0 (doIntaPendingClear mask)))

/-- R244. A write of PCX_INTA_EN changes the enabled causes, and the condition is evaluated in the next FCLK. -/
def execIntaEnableWrite (mask : BitVec 64) (s : State) : Host.Outcome State Fault Refusal :=
  .next (s.run (Bridge.reg 0 (doIntaEnableWrite mask)))

/-- R242. A write to the MSI-X table, where unmasking an entry whose PBA bit is set sends its message. -/
def execMsixTableWrite (fn : Fin 256) (entry : Fin 64) (dword : Fin 4) (value : Nat) (s : State) : Host.Outcome State Fault Refusal :=
  .next (s.run (Bridge.reg fn (doMsixTableWrite fn entry dword value)))

/-- R243. At the end of the 16 FCLK spacing, an INTx message carrying the condition's final state is sent if it changed. -/
def execIntaMessagePacing (s : State) : Host.Outcome State Fault Refusal :=
  .next (s.run (Bridge.live doIntaMessagePacing))

/-- R417. A core's read of its claim register takes the highest-priority deliverable source, or returns 1022 or 1023. -/
def execIcuClaim (core : Fin 5) (s : State) : Host.Outcome State Fault Refusal :=
  .next (s.run (Bridge.live (doIcuClaim core)))

/-- R419. A core's write of a held source number completes it and re-samples its level. -/
def execIcuComplete (core : Fin 5) (src : Nat) (s : State) : Host.Outcome State Fault Refusal :=
  .next (s.run (Bridge.live (doIcuCompleteServed core src)))

/-- R420. A core sets its priority threshold, which applies from the next FCLK. -/
def execIcuThresholdWrite (core : Fin 5) (value : Nat) (s : State) : Host.Outcome State Fault Refusal :=
  .next (s.run (Bridge.live (doIcuThresholdWrite core value)))

/-- R421. A core sets or clears global disable, holding or releasing every interrupt line. -/
def execIcuGlobalDisableWrite (on : Bool) (s : State) : Host.Outcome State Fault Refusal :=
  .next (s.run (Bridge.live (doIcuGlobalDisableWrite on)))

/-- R415. An internal source's level rises or falls, moving the source between IDLE, WAITING and PENDING or withdrawing it. -/
def execIcuSourceLevelChange (src : Nat) (high : Bool) (s : State) : Host.Outcome State Fault Refusal :=
  .next (s.run (Bridge.live (Bridge.sourceLevel src high)))

/-- R423. At the TIME_TH-th tick of a round, the group fires. -/
def execIcuGroupTimeExpiry (group : Fin 32) (s : State) : Host.Outcome State Fault Refusal :=
  .next (s.run (Bridge.live (doIcuGroupTimeExpiry group)))

/-- R414. A firmware stride timer's source rises when the stride counter reaches its compare value. -/
def execStrideTimerExpiry (timer : Fin 4) (s : State) : Host.Outcome State Fault Refusal :=
  .next (s.run (Bridge.live (doStrideTimerExpiry timer)))

end Sys2Proof.Machine
end

