-- ==== Sys2Proof/Machine/CmdScan.lean ====
section
/-! DEFINITION. The commands of scans: rings, jobs, pieces (the rules each row names). -/

namespace Sys2Proof.Machine

open Sys2Proof

/-- R146. The fetcher visits a ring with work and issues the read of one descriptor. -/
def execJobFetch (fn : Fin 256) (ring : Fin 8) (s : State) : Host.Outcome State Fault Refusal :=
  .next (s.run (Bridge.live (doJobFetch fn ring)))

/-- R147. The descriptor read completes, HEAD advances, and the reads of the ring header, program and set table are issued, or FETCH_ERR
is set. -/
def execDescriptorReadComplete (id : Nat) (s : State) : Host.Outcome State Fault Refusal :=
  .next (s.run (Bridge.live (doDescriptorReadComplete id)))

/-- R148. With its blocks read, the job is checked and accepted, or it completes at once with INVALID_DESC or FETCH_ERROR. -/
def execJobCheck (id : Nat) (s : State) : Host.Outcome State Fault Refusal :=
  .next (s.run (Bridge.live (doJobCheck id)))

/-- R149. A job held for a result ring in use proceeds once the earlier job's COMPLETION record is written. -/
def execResultRingHoldRelease (id : Nat) (s : State) : Host.Outcome State Fault Refusal :=
  .next (s.run (Bridge.live (doResultRingHoldRelease id)))

/-- R150. A FENCE_START job is handed to the Herder once every earlier posted write has been entered. -/
def execFenceStartRelease (id : Nat) (s : State) : Host.Outcome State Fault Refusal :=
  .next (s.run (Bridge.live (doFenceStartRelease id)))

/-- R153. The Herder places a job's next piece in its channel queue when the queue has room. -/
def execPiecePlace (id : Nat) (s : State) : Host.Outcome State Fault Refusal :=
  .next (s.run (Bridge.live (doPiecePlace id)))

/-- R152. A channel binds the head piece of a queue to a free, unfenced lane, which reads, evaluates and writes records. -/
def execPieceGrant (n : Fin 16) (s : State) : Host.Outcome State Fault Refusal :=
  .next (s.run (Bridge.live (doPieceGrant n)))

/-- R154. A parked piece returns to its queue head when the ring has room for its next record. -/
def execPieceUnpark (n : Fin 16) (k : Nat) (s : State) : Host.Outcome State Fault Refusal :=
  .next (s.run (Bridge.live (doPieceUnpark n k)))

/-- R170. While it lacks room, the bridge re-reads a ring's CONSUMER at most once per stride. -/
def execConsumerReread (id : Nat) (s : State) : Host.Outcome State Fault Refusal :=
  .next (s.run (Bridge.live (doConsumerReread id)))

/-- R154. A piece ends with its records written and its status reported, and its partial aggregates are merged. -/
def execPieceEnd (n : Fin 16) (lane : Fin 5) (s : State) : Host.Outcome State Fault Refusal :=
  .next (s.run (Bridge.live (doPieceEnd n lane)))

end Sys2Proof.Machine
end

