-- ==== Sys2Proof/Machine/CmdSched.lean ====
section
/-! DEFINITION. The commands of the scheduler: strides, work units, completions (the rules each row names). -/

namespace Sys2Proof.Machine

open Sys2Proof

/-- R31. The FCLK edge at each multiple of 1,536 opens a new stride: the previous stride's books close, the counter advances, and the
planning of the new stride begins. -/
def execStrideTick (s : State) : Host.Outcome State Fault Refusal :=
  .next (s.run doStrideTick)

/-- R39. At FCLK 32 the stride's plan is sealed, reservations of classes with no work are returned, and every class becomes eligible. -/
def execPlanSeal (s : State) : Host.Outcome State Fault Refusal :=
  .next (s.run doPlanSeal)

/-- R56. At FCLK 128 every unit of the previous stride has finished, so reserved source granules are freed and tenancy changes complete.
-/
def execGlideEnd (s : State) : Host.Outcome State Fault Refusal :=
  .next (s.run doGlideEnd)

/-- R37. A unit of work reaches a channel scheduler and joins its class queue. -/
def execWorkUnitArrival (n : Fin 16) (send : Bool) (s : State) : Host.Outcome State Fault Refusal :=
  .next (s.run (Bridge.live (doWorkUnitArrival n send)))

/-- R44. The scheduler makes its one admission decision of the FCLK, offering eligible units in the order of the steps. -/
def execAdmissionDecision (n : Fin 16) (s : State) : Host.Outcome State Fault Refusal :=
  .next (s.run (Bridge.live (doAdmissionDecision n)))

/-- R47. A yellow unit still waiting at the fourth tick after its arrival is treated as green. -/
def execYellowAgeing (n : Fin 16) (s : State) : Host.Outcome State Fault Refusal :=
  .next (s.run (Bridge.live (doYellowAgeing n)))

/-- R51. A started unit still running past FCLK 127 of the next stride is recorded as an overrun. -/
def execSchedulerOverrun (n : Fin 16) (uid : Nat) (s : State) : Host.Outcome State Fault Refusal :=
  .next (s.run (Bridge.live (doSchedulerOverrun n uid)))

/-- R51. An overrun that lasts longer than the grace period makes the link layer take the link down. -/
def execOverrunGraceExpiry (n : Fin 16) (s : State) : Host.Outcome State Fault Refusal :=
  .next (s.run (Bridge.live (doOverrunGraceExpiry n)))

/-- R91. A unit's last slot passes at its location: a drain's entry is freed, a write-back line lands, and a copy line lands. -/
def execUnitComplete (n : Fin 16) (uid : Nat) (s : State) : Host.Outcome State Fault Refusal :=
  .next (s.run (Bridge.live (doUnitComplete n uid)))

/-- R91. The location channel's report that a remote link part has completed reaches the resolving channel. -/
def execRemoteCompletionReport (n : Fin 16) (uid : Nat) (s : State) : Host.Outcome State Fault Refusal :=
  .next (s.run (Bridge.live (doRemoteCompletionReport n uid)))

/-- R57. The scrubber issues a class 6 scrub read and schedules the write-back of any corrected line. -/
def execScrubReadStart (n : Fin 16) (first lines : Nat) (s : State) : Host.Outcome State Fault Refusal :=
  .next (s.run (Bridge.live (doScrubReadStart n first lines)))

/-- R503. An online self-test step runs within class 6, and a failure becomes an event of the named source. -/
def execOnlineSelfTestStep (n : Fin 16) (window : Bool) (out inb eng : Nat) (failed : Option (Nat × Nat)) (last : Bool)
    (s : State) : Host.Outcome State Fault Refusal :=
  .next (s.run (Bridge.live (doOnlineSelfTestStep n window { out := out, inb := inb, eng := eng } failed last)))

end Sys2Proof.Machine
end

