-- ==== Sys2Proof/Machine/CmdService.lean ====
section
/-! DEFINITION. The commands of the Citan commands of groups 01 and 02 (the rules each row names). -/

namespace Sys2Proof.Machine

open Sys2Proof

/-- R364. Citan 0x0101 reports identity, interface revision, service level and caller. -/
def execIdentify (fn : Fin 256) (slot : Fin 8) (s : State) : Host.Outcome State Fault Refusal :=
  .next (s.run (Bridge.live (doIdentify fn slot)))

/-- R364. Citan 0x0102 returns its parameter bytes unchanged. -/
def execEcho (fn : Fin 256) (slot : Fin 8) (s : State) : Host.Outcome State Fault Refusal :=
  .next (s.run (Bridge.live (doEcho fn slot)))

/-- R364. Citan 0x0103 reports fences, spares, vetoes and a summary of each channel. -/
def execServiceReport (fn : Fin 256) (slot : Fin 8) (s : State) : Host.Outcome State Fault Refusal :=
  .next (s.run (Bridge.live (doServiceReport fn slot)))

/-- R364. Citan 0x0104 reports the state of an asynchronous operation by TAG. -/
def execOpStatus (fn : Fin 256) (slot : Fin 8) (s : State) : Host.Outcome State Fault Refusal :=
  .next (s.run (Bridge.live (doOpStatus fn slot)))

/-- R365. Citan 0x0105 runs a PRBS TEST of one fenced or empty channel's lanes at a chosen rate. -/
def execLaneTest (fn : Fin 256) (slot : Fin 8) (s : State) : Host.Outcome State Fault Refusal :=
  .next (s.run (Bridge.live (doLaneTest fn slot)))

/-- R271. At the end of DURATION_MS the test ends, the lanes idle and return to DETECT, and the results are reported. -/
def execLaneTestDurationExpiry (n : Fin 16) (counts : List (Nat × Nat)) (s : State) : Host.Outcome State Fault Refusal :=
  .next (s.run (Bridge.live (doLaneTestDurationExpiry n counts)))

/-- R504. Citan 0x0106 starts an offline self-test of a fenced unit as an asynchronous operation. -/
def execSelfTest (fn : Fin 256) (slot : Fin 8) (s : State) : Host.Outcome State Fault Refusal :=
  .next (s.run (Bridge.live (doSelfTest fn slot)))

/-- R505. An offline self-test ends at its first failure, at its bound or on passing, and a failure raises a FATAL event. -/
def execSelfTestEnd (kind unit sub result : Nat) (s : State) : Host.Outcome State Fault Refusal :=
  .next (s.run (Bridge.live (doSelfTestEnd kind unit sub result)))

/-- R365. Citan 0x0107 arms or disarms the diagnostic hold at the next start-up. -/
def execDiagHold (fn : Fin 256) (slot : Fin 8) (s : State) : Host.Outcome State Fault Refusal :=
  .next (s.run (Bridge.live (doDiagHold fn slot)))

/-- R365. Citan 0x0108 disarms the hold and resumes start-up from where it stopped. -/
def execDiagRelease (fn : Fin 256) (slot : Fin 8) (s : State) : Host.Outcome State Fault Refusal :=
  .next (s.run (Bridge.live (doDiagRelease fn slot)))

/-- R364. Citan 0x0109 reports the tamper latch, counter and log. -/
def execTamperReport (fn : Fin 256) (slot : Fin 8) (s : State) : Host.Outcome State Fault Refusal :=
  .next (s.run (Bridge.live (doTamperReport fn slot)))

/-- R465. Citan 0x010A checks AUTH and clears the tamper latch. -/
def execTamperRelease (fn : Fin 256) (slot : Fin 8) (entropy : Bool) (s : State) : Host.Outcome State Fault Refusal :=
  .next (s.run (Bridge.live (fun b => doTamperRelease fn slot (b.entropy entropy))))

/-- R321. Citan 0x0201 checks, reserves, keys and journals a new instance, which goes LIVE at a tick. -/
def execInstCreate (fn : Fin 256) (slot : Fin 8) (entropy : Bool) (s : State) : Host.Outcome State Fault Refusal :=
  .next (s.run (Bridge.live (fun b => doInstCreate fn slot (b.entropy entropy))))

/-- R340. Citan 0x0202 starts the teardown of an instance. -/
def execInstTeardown (fn : Fin 256) (slot : Fin 8) (s : State) : Host.Outcome State Fault Refusal :=
  .next (s.run (Bridge.live (doInstTeardown fn slot)))

/-- R340. Once the instance's earlier accesses and entries have drained, its key is zeroised, its resources are released, and it enters
NONE. -/
def execTeardownDrained (inst : Fin 256) (s : State) : Host.Outcome State Fault Refusal :=
  .next (s.run (Bridge.live (doTeardownDrained inst)))

/-- R366. Citan 0x0203 reports an instance's state, resources and Leash profile. -/
def execInstQuery (fn : Fin 256) (slot : Fin 8) (s : State) : Host.Outcome State Fault Refusal :=
  .next (s.run (Bridge.live (doInstQuery fn slot)))

/-- R366. Citan 0x0204 returns segment translation entries. -/
def execSegRead (fn : Fin 256) (slot : Fin 8) (s : State) : Host.Outcome State Fault Refusal :=
  .next (s.run (Bridge.live (doSegRead fn slot)))

/-- R368. Citan 0x0205 sets instance 0's resources for the next PERST_N. -/
def execInst0Set (fn : Fin 256) (slot : Fin 8) (s : State) : Host.Outcome State Fault Refusal :=
  .next (s.run (Bridge.live (doInst0Set fn slot)))

/-- R368. Citan 0x0206 sets the VF window limit for the next PERST_N. -/
def execVfWindowLimit (fn : Fin 256) (slot : Fin 8) (s : State) : Host.Outcome State Fault Refusal :=
  .next (s.run (Bridge.live (doVfWindowLimit fn slot)))

/-- R327. Citan 0x0207 changes segment pre-colours at a tick. -/
def execPrecolourSet (fn : Fin 256) (slot : Fin 8) (s : State) : Host.Outcome State Fault Refusal :=
  .next (s.run (Bridge.live (doPrecolourSet fn slot)))

/-- R335. Citan 0x0208 sets a semaphore's access set at a tick. -/
def execSemAccess (fn : Fin 256) (slot : Fin 8) (s : State) : Host.Outcome State Fault Refusal :=
  .next (s.run (Bridge.live (doSemAccess fn slot)))

/-- R337. Citan 0x0209 force-releases semaphores with BROKEN. -/
def execSemRelease (fn : Fin 256) (slot : Fin 8) (s : State) : Host.Outcome State Fault Refusal :=
  .next (s.run (Bridge.live (doSemRelease fn slot)))

end Sys2Proof.Machine
end

