-- ==== Sys2Proof/Machine/Dispatch.lean ====
section
/-! DEFINITION. The meaning of each command: one call for each constructor. -/

namespace Sys2Proof.Machine

open Sys2Proof

/-- The effect of a command on everything but the queue of commands. -/
def exec (i : Instr) (s : State) : Host.Outcome State Fault Refusal :=
  match i with
  | .strideTick => Sys2Proof.Machine.execStrideTick s
  | .planSeal => Sys2Proof.Machine.execPlanSeal s
  | .glideEnd => Sys2Proof.Machine.execGlideEnd s
  | .workUnitArrival n send => Sys2Proof.Machine.execWorkUnitArrival n send s
  | .admissionDecision n => Sys2Proof.Machine.execAdmissionDecision n s
  | .yellowAgeing n => Sys2Proof.Machine.execYellowAgeing n s
  | .schedulerOverrun n uid => Sys2Proof.Machine.execSchedulerOverrun n uid s
  | .overrunGraceExpiry n => Sys2Proof.Machine.execOverrunGraceExpiry n s
  | .unitComplete n uid => Sys2Proof.Machine.execUnitComplete n uid s
  | .remoteCompletionReport n uid => Sys2Proof.Machine.execRemoteCompletionReport n uid s
  | .scrubReadStart n first lines => Sys2Proof.Machine.execScrubReadStart n first lines s
  | .onlineSelfTestStep n window out inb eng failed last => Sys2Proof.Machine.execOnlineSelfTestStep n window out inb eng failed last s
  | .windowMemoryRead fn tag addr len => Sys2Proof.Machine.execWindowMemoryRead fn tag addr len s
  | .windowMemoryWrite fn addr data be ep => Sys2Proof.Machine.execWindowMemoryWrite fn addr data be ep s
  | .wcbEntryWaitEnd => Sys2Proof.Machine.execWcbEntryWaitEnd s
  | .readDataReturn n uid idx check => Sys2Proof.Machine.execReadDataReturn n uid idx check s
  | .configRead fn tag dword => Sys2Proof.Machine.execConfigRead fn tag dword s
  | .configWrite fn tag dword value be => Sys2Proof.Machine.execConfigWrite fn tag dword value be s
  | .functionLevelReset fn => Sys2Proof.Machine.execFunctionLevelReset fn s
  | .flrComplete fn => Sys2Proof.Machine.execFlrComplete fn s
  | .vfEnableChange on => Sys2Proof.Machine.execVfEnableChange on s
  | .memEnableWrite on => Sys2Proof.Machine.execMemEnableWrite on s
  | .hdmDecoderCommit dec base size iw ig skip lock => Sys2Proof.Machine.execHdmDecoderCommit dec base size iw ig skip lock s
  | .powerStateWrite fn code => Sys2Proof.Machine.execPowerStateWrite fn code s
  | .msixEnableChange fn on => Sys2Proof.Machine.execMsixEnableChange fn on s
  | .interruptDisableWrite on => Sys2Proof.Machine.execInterruptDisableWrite on s
  | .busMasterEnableWrite fn on => Sys2Proof.Machine.execBusMasterEnableWrite fn on s
  | .unsupportedRequest fn posted tag => Sys2Proof.Machine.execUnsupportedRequest fn posted tag s
  | .pmeTurnOff => Sys2Proof.Machine.execPmeTurnOff s
  | .vendorDefinedMessage type1 => Sys2Proof.Machine.execVendorDefinedMessage type1 s
  | .cxlMemrd tag hpa => Sys2Proof.Machine.execCxlMemrd tag hpa s
  | .cxlMemrddata tag hpa => Sys2Proof.Machine.execCxlMemrddata tag hpa s
  | .cxlMemwr tag hpa data poison => Sys2Proof.Machine.execCxlMemwr tag hpa data poison s
  | .cxlMemwrptl tag hpa data be poison => Sys2Proof.Machine.execCxlMemwrptl tag hpa data be poison s
  | .cxlMemspecrd hpa => Sys2Proof.Machine.execCxlMemspecrd hpa s
  | .cxlM2sOther op => Sys2Proof.Machine.execCxlM2sOther op s
  | .hostCompletionReceive tag status data ep => Sys2Proof.Machine.execHostCompletionReceive tag status data ep s
  | .completionTimeout tag => Sys2Proof.Machine.execCompletionTimeout tag s
  | .hotReset => Sys2Proof.Machine.execHotReset s
  | .hostLinkDown => Sys2Proof.Machine.execHostLinkDown s
  | .hostLinkTraining cxl sets rate width lanes reversed => Sys2Proof.Machine.execHostLinkTraining cxl sets rate width lanes reversed s
  | .l0pWidthRequest width => Sys2Proof.Machine.execL0pWidthRequest width s
  | .l0pNarrowRequest => Sys2Proof.Machine.execL0pNarrowRequest s
  | .aspmL1Entry => Sys2Proof.Machine.execAspmL1Entry s
  | .registerWrite who addr data size => Sys2Proof.Machine.execRegisterWrite who addr data size s
  | .loRegisterRead who addr size => Sys2Proof.Machine.execLoRegisterRead who addr size s
  | .counterClear addr value => Sys2Proof.Machine.execCounterClear addr value s
  | .eccLastClear n => Sys2Proof.Machine.execEccLastClear n s
  | .wcbHighWaterReset n => Sys2Proof.Machine.execWcbHighWaterReset n s
  | .mailboxDoorbell fn mask => Sys2Proof.Machine.execMailboxDoorbell fn mask s
  | .mailboxCommandWrite fn slot word value => Sys2Proof.Machine.execMailboxCommandWrite fn slot word value s
  | .mailboxDoneAck fn mask => Sys2Proof.Machine.execMailboxDoneAck fn mask s
  | .notifyAck fn => Sys2Proof.Machine.execNotifyAck fn s
  | .mailboxCtrlWrite fn value => Sys2Proof.Machine.execMailboxCtrlWrite fn value s
  | .jobDoorbell fn ring tail => Sys2Proof.Machine.execJobDoorbell fn ring tail s
  | .ringEnable fn ring => Sys2Proof.Machine.execRingEnable fn ring s
  | .ringDisable fn ring => Sys2Proof.Machine.execRingDisable fn ring s
  | .semAcquireRead fn sem => Sys2Proof.Machine.execSemAcquireRead fn sem s
  | .semReleaseWrite fn sem => Sys2Proof.Machine.execSemReleaseWrite fn sem s
  | .faultForce block src => Sys2Proof.Machine.execFaultForce block src s
  | .forceLockSet => Sys2Proof.Machine.execForceLockSet s
  | .snapshotTrigger => Sys2Proof.Machine.execSnapshotTrigger s
  | .snapshotRearm => Sys2Proof.Machine.execSnapshotRearm s
  | .debugLockSet => Sys2Proof.Machine.execDebugLockSet s
  | .prbsInjectOne n lane => Sys2Proof.Machine.execPrbsInjectOne n lane s
  | .telemetryLatch => Sys2Proof.Machine.execTelemetryLatch s
  | .intaPendingClear mask => Sys2Proof.Machine.execIntaPendingClear mask s
  | .intaEnableWrite mask => Sys2Proof.Machine.execIntaEnableWrite mask s
  | .msixTableWrite fn entry dword value => Sys2Proof.Machine.execMsixTableWrite fn entry dword value s
  | .intaMessagePacing => Sys2Proof.Machine.execIntaMessagePacing s
  | .icuClaim core => Sys2Proof.Machine.execIcuClaim core s
  | .icuComplete core src => Sys2Proof.Machine.execIcuComplete core src s
  | .icuThresholdWrite core value => Sys2Proof.Machine.execIcuThresholdWrite core value s
  | .icuGlobalDisableWrite on => Sys2Proof.Machine.execIcuGlobalDisableWrite on s
  | .icuSourceLevelChange src high => Sys2Proof.Machine.execIcuSourceLevelChange src high s
  | .icuGroupTimeExpiry group => Sys2Proof.Machine.execIcuGroupTimeExpiry group s
  | .strideTimerExpiry timer => Sys2Proof.Machine.execStrideTimerExpiry timer s
  | .identify fn slot => Sys2Proof.Machine.execIdentify fn slot s
  | .echo fn slot => Sys2Proof.Machine.execEcho fn slot s
  | .serviceReport fn slot => Sys2Proof.Machine.execServiceReport fn slot s
  | .opStatus fn slot => Sys2Proof.Machine.execOpStatus fn slot s
  | .laneTest fn slot => Sys2Proof.Machine.execLaneTest fn slot s
  | .laneTestDurationExpiry n counts => Sys2Proof.Machine.execLaneTestDurationExpiry n counts s
  | .selfTest fn slot => Sys2Proof.Machine.execSelfTest fn slot s
  | .selfTestEnd kind unit sub result => Sys2Proof.Machine.execSelfTestEnd kind unit sub result s
  | .diagHold fn slot => Sys2Proof.Machine.execDiagHold fn slot s
  | .diagRelease fn slot => Sys2Proof.Machine.execDiagRelease fn slot s
  | .tamperReport fn slot => Sys2Proof.Machine.execTamperReport fn slot s
  | .tamperRelease fn slot entropy => Sys2Proof.Machine.execTamperRelease fn slot entropy s
  | .instCreate fn slot entropy => Sys2Proof.Machine.execInstCreate fn slot entropy s
  | .instTeardown fn slot => Sys2Proof.Machine.execInstTeardown fn slot s
  | .teardownDrained inst => Sys2Proof.Machine.execTeardownDrained inst s
  | .instQuery fn slot => Sys2Proof.Machine.execInstQuery fn slot s
  | .segRead fn slot => Sys2Proof.Machine.execSegRead fn slot s
  | .inst0Set fn slot => Sys2Proof.Machine.execInst0Set fn slot s
  | .vfWindowLimit fn slot => Sys2Proof.Machine.execVfWindowLimit fn slot s
  | .precolourSet fn slot => Sys2Proof.Machine.execPrecolourSet fn slot s
  | .semAccess fn slot => Sys2Proof.Machine.execSemAccess fn slot s
  | .semRelease fn slot => Sys2Proof.Machine.execSemRelease fn slot s
  | .hintSet fn slot => Sys2Proof.Machine.execHintSet fn slot s
  | .placeQuery fn slot => Sys2Proof.Machine.execPlaceQuery fn slot s
  | .tuneSet fn slot => Sys2Proof.Machine.execTuneSet fn slot s
  | .sharesSet fn slot => Sys2Proof.Machine.execSharesSet fn slot s
  | .reserveSet fn slot => Sys2Proof.Machine.execReserveSet fn slot s
  | .persistSet fn slot => Sys2Proof.Machine.execPersistSet fn slot s
  | .evacuate fn slot => Sys2Proof.Machine.execEvacuate fn slot s
  | .evacStop fn slot => Sys2Proof.Machine.execEvacStop fn slot s
  | .jobCancel fn slot => Sys2Proof.Machine.execJobCancel fn slot s
  | .ringCancel fn slot => Sys2Proof.Machine.execRingCancel fn slot s
  | .vetoSet fn slot => Sys2Proof.Machine.execVetoSet fn slot s
  | .unitFence fn slot => Sys2Proof.Machine.execUnitFence fn slot s
  | .fenceDrainDone n => Sys2Proof.Machine.execFenceDrainDone n s
  | .unitUnfence fn slot => Sys2Proof.Machine.execUnitUnfence fn slot s
  | .logRead fn slot => Sys2Proof.Machine.execLogRead fn slot s
  | .classifySet fn slot => Sys2Proof.Machine.execClassifySet fn slot s
  | .faultClear fn slot => Sys2Proof.Machine.execFaultClear fn slot s
  | .keyChange fn slot entropy => Sys2Proof.Machine.execKeyChange fn slot entropy s
  | .fuseSpare fn slot bad => Sys2Proof.Machine.execFuseSpare fn slot bad s
  | .provision fn slot good img => Sys2Proof.Machine.execProvision fn slot good img s
  | .sledStatus fn slot => Sys2Proof.Machine.execSledStatus fn slot s
  | .sledRemove fn slot => Sys2Proof.Machine.execSledRemove fn slot s
  | .sledAbort fn slot => Sys2Proof.Machine.execSledAbort fn slot s
  | .sledAdmit fn slot => Sys2Proof.Machine.execSledAdmit fn slot s
  | .linkRateLimit fn slot => Sys2Proof.Machine.execLinkRateLimit fn slot s
  | .linkParams fn slot => Sys2Proof.Machine.execLinkParams fn slot s
  | .linkTrain fn slot => Sys2Proof.Machine.execLinkTrain fn slot s
  | .mirrorRestore fn slot => Sys2Proof.Machine.execMirrorRestore fn slot s
  | .mirrorSegmentRestored n inst idx => Sys2Proof.Machine.execMirrorSegmentRestored n inst idx s
  | .powerSet fn slot => Sys2Proof.Machine.execPowerSet fn slot s
  | .whistleSet fn slot => Sys2Proof.Machine.execWhistleSet fn slot s
  | .tlmSnapshot fn slot => Sys2Proof.Machine.execTlmSnapshot fn slot s
  | .instStats fn slot => Sys2Proof.Machine.execInstStats fn slot s
  | .thermalSet fn slot => Sys2Proof.Machine.execThermalSet fn slot s
  | .fwBegin fn slot => Sys2Proof.Machine.execFwBegin fn slot s
  | .fwData fn slot => Sys2Proof.Machine.execFwData fn slot s
  | .fwVerify fn slot => Sys2Proof.Machine.execFwVerify fn slot s
  | .fwActivate fn slot => Sys2Proof.Machine.execFwActivate fn slot s
  | .rollbackCommit fn slot => Sys2Proof.Machine.execRollbackCommit fn slot s
  | .fwStatus fn slot => Sys2Proof.Machine.execFwStatus fn slot s
  | .commandTimeout fn slot => Sys2Proof.Machine.execCommandTimeout fn slot s
  | .cxlIdentifyMemoryDevice => Sys2Proof.Machine.execCxlIdentifyMemoryDevice s
  | .cxlGetHealthInfo => Sys2Proof.Machine.execCxlGetHealthInfo s
  | .cxlGetSupportedLogs => Sys2Proof.Machine.execCxlGetSupportedLogs s
  | .cxlGetLog payload => Sys2Proof.Machine.execCxlGetLog payload s
  | .cxlGetEventRecords payload => Sys2Proof.Machine.execCxlGetEventRecords payload s
  | .cxlClearEventRecords payload => Sys2Proof.Machine.execCxlClearEventRecords payload s
  | .cxlGetEventIntPolicy => Sys2Proof.Machine.execCxlGetEventIntPolicy s
  | .cxlSetEventIntPolicy payload => Sys2Proof.Machine.execCxlSetEventIntPolicy payload s
  | .cxlGetTimestamp => Sys2Proof.Machine.execCxlGetTimestamp s
  | .cxlSetTimestamp payload => Sys2Proof.Machine.execCxlSetTimestamp payload s
  | .cxlBackgroundOpStatus => Sys2Proof.Machine.execCxlBackgroundOpStatus s
  | .cxlUnsupportedCommand op => Sys2Proof.Machine.execCxlUnsupportedCommand op s
  | .jobFetch fn ring => Sys2Proof.Machine.execJobFetch fn ring s
  | .descriptorReadComplete id => Sys2Proof.Machine.execDescriptorReadComplete id s
  | .jobCheck id => Sys2Proof.Machine.execJobCheck id s
  | .resultRingHoldRelease id => Sys2Proof.Machine.execResultRingHoldRelease id s
  | .fenceStartRelease id => Sys2Proof.Machine.execFenceStartRelease id s
  | .piecePlace id => Sys2Proof.Machine.execPiecePlace id s
  | .pieceGrant n => Sys2Proof.Machine.execPieceGrant n s
  | .pieceUnpark n k => Sys2Proof.Machine.execPieceUnpark n k s
  | .consumerReread id => Sys2Proof.Machine.execConsumerReread id s
  | .pieceEnd n lane => Sys2Proof.Machine.execPieceEnd n lane s
  | .heatDecay => Sys2Proof.Machine.execHeatDecay s
  | .promotionStart gran frame => Sys2Proof.Machine.execPromotionStart gran frame s
  | .demotionStart gran => Sys2Proof.Machine.execDemotionStart gran s
  | .relocationStart gran dst slot => Sys2Proof.Machine.execRelocationStart gran dst slot s
  | .writebackStart gran => Sys2Proof.Machine.execWritebackStart gran s
  | .copyDataArrive n uid corrected uncorrectable => Sys2Proof.Machine.execCopyDataArrive n uid corrected uncorrectable s
  | .excBucketRetry gran dst slot => Sys2Proof.Machine.execExcBucketRetry gran dst slot s
  | .evacuationComplete n => Sys2Proof.Machine.execEvacuationComplete n s
  | .commitGroupWritten => Sys2Proof.Machine.execCommitGroupWritten s
  | .compactionStart => Sys2Proof.Machine.execCompactionStart s
  | .checkpointComplete => Sys2Proof.Machine.execCheckpointComplete s
  | .journalReplay bad diffs refused => Sys2Proof.Machine.execJournalReplay bad diffs refused s
  | .powerFail => Sys2Proof.Machine.execPowerFail s
  | .channelWritebackDone n => Sys2Proof.Machine.execChannelWritebackDone n s
  | .saveRspReceive n tag accepted => Sys2Proof.Machine.execSaveRspReceive n tag accepted s
  | .flitReceive n head₀ head₁ slots₀ slots₁ slots₂ crc parity => Sys2Proof.Machine.execFlitReceive n head₀ head₁ slots₀ slots₁ slots₂ crc parity s
  | .rdataReceive n tag idx w status => Sys2Proof.Machine.execRdataReceive n tag idx w status s
  | .credReceive n vc hdr data => Sys2Proof.Machine.execCredReceive n vc hdr data s
  | .credDataReceive n vc hdr data => Sys2Proof.Machine.execCredDataReceive n vc hdr data s
  | .mcredReceive n returned => Sys2Proof.Machine.execMcredReceive n returned s
  | .msyncReqReceive n nonce => Sys2Proof.Machine.execMsyncReqReceive n nonce s
  | .msyncRspReceive n nonce free => Sys2Proof.Machine.execMsyncRspReceive n nonce free s
  | .sregRspReceive n tag data => Sys2Proof.Machine.execSregRspReceive n tag data s
  | .eventReceive n code detail => Sys2Proof.Machine.execEventReceive n code detail s
  | .retryReqReceive n exp => Sys2Proof.Machine.execRetryReqReceive n exp s
  | .initParamReceive n resume vcs txSeq rxExp rev mgmt => Sys2Proof.Machine.execInitParamReceive n resume vcs txSeq rxExp rev mgmt s
  | .initIdentReceive n second vendor product revision capGib persist restored selfRefresh saveMs serial => Sys2Proof.Machine.execInitIdentReceive n second vendor product revision capGib persist restored selfRefresh saveMs serial s
  | .initDoneReceive n => Sys2Proof.Machine.execInitDoneReceive n s
  | .pmRspReceive n accept => Sys2Proof.Machine.execPmRspReceive n accept s
  | .rateRspReceive n accept => Sys2Proof.Machine.execRateRspReceive n accept s
  | .linkResetReceive n reason => Sys2Proof.Machine.execLinkResetReceive n reason s
  | .replayTimerExpiry n => Sys2Proof.Machine.execReplayTimerExpiry n s
  | .retryReqRepeat n => Sys2Proof.Machine.execRetryReqRepeat n s
  | .credSendTimer n => Sys2Proof.Machine.execCredSendTimer n s
  | .msyncStart n => Sys2Proof.Machine.execMsyncStart n s
  | .msyncTimeout n => Sys2Proof.Machine.execMsyncTimeout n s
  | .initTimeout n => Sys2Proof.Machine.execInitTimeout n s
  | .rateChangeStart n => Sys2Proof.Machine.execRateChangeStart n s
  | .rateChangeTimeout n => Sys2Proof.Machine.execRateChangeTimeout n s
  | .idleRequest n => Sys2Proof.Machine.execIdleRequest n s
  | .linkDown n => Sys2Proof.Machine.execLinkDown n s
  | .readHold n => Sys2Proof.Machine.execReadHold n s
  | .graceExpiry n => Sys2Proof.Machine.execGraceExpiry n s
  | .flushComplete n => Sys2Proof.Machine.execFlushComplete n s
  | .holdLimitPartner rid idx => Sys2Proof.Machine.execHoldLimitPartner rid idx s
  | .holdLimitPoison rid idx => Sys2Proof.Machine.execHoldLimitPoison rid idx s
  | .drainHoldLimit n ln => Sys2Proof.Machine.execDrainHoldLimit n ln s
  | .channelEnable n => Sys2Proof.Machine.execChannelEnable n s
  | .detectSignal n => Sys2Proof.Machine.execDetectSignal n s
  | .offerSetReceive n lane com id rest => Sys2Proof.Machine.execOfferSetReceive n lane com id rest s
  | .confirmSetReceive n lane com id physLane chan rates rest => Sys2Proof.Machine.execConfirmSetReceive n lane com id physLane chan rates rest s
  | .rateSwitchNoticeReceive n set => Sys2Proof.Machine.execRateSwitchNoticeReceive n set s
  | .trainingFrameReceive n lane low outMap inMap count high chk settled errs => Sys2Proof.Machine.execTrainingFrameReceive n lane low outMap inMap count high chk settled errs s
  | .alignmentReceive n mark skew ppm => Sys2Proof.Machine.execAlignmentReceive n mark skew ppm s
  | .idleEntryReceive n => Sys2Proof.Machine.execIdleEntryReceive n s
  | .exitBurstReceive n => Sys2Proof.Machine.execExitBurstReceive n s
  | .eidleExitStart n => Sys2Proof.Machine.execEidleExitStart n s
  | .exitAlignmentTimeout n lane => Sys2Proof.Machine.execExitAlignmentTimeout n lane s
  | .trainingStateTimeout n => Sys2Proof.Machine.execTrainingStateTimeout n s
  | .losChange n lane on => Sys2Proof.Machine.execLosChange n lane on s
  | .lolChange n lane on => Sys2Proof.Machine.execLolChange n lane on s
  | .fastRetrainDone n => Sys2Proof.Machine.execFastRetrainDone n s
  | .fastRetrainTimeout n => Sys2Proof.Machine.execFastRetrainTimeout n s
  | .faultEvent block src detail inst => Sys2Proof.Machine.execFaultEvent block src detail inst s
  | .bucketLeak block src => Sys2Proof.Machine.execBucketLeak block src s
  | .pllLockLoss => Sys2Proof.Machine.execPllLockLoss s
  | .snapInEdge => Sys2Proof.Machine.execSnapInEdge s
  | .tamperFire src detail => Sys2Proof.Machine.execTamperFire src detail s
  | .vbatMeasure mv => Sys2Proof.Machine.execVbatMeasure mv s
  | .fuseReverify => Sys2Proof.Machine.execFuseReverify s
  | .fuseReverifyEnd diffs marg => Sys2Proof.Machine.execFuseReverifyEnd diffs marg s
  | .powerOnReset kept => Sys2Proof.Machine.execPowerOnReset kept s
  | .supplyFault below => Sys2Proof.Machine.execSupplyFault below s
  | .startUp hbms cores tenancy board => Sys2Proof.Machine.execStartUp hbms cores tenancy board s
  | .qspiPinRelease => Sys2Proof.Machine.execQspiPinRelease s
  | .perstAssert => Sys2Proof.Machine.execPerstAssert s
  | .perstDeassert hbms cores tenancy slotA slotB next seq => Sys2Proof.Machine.execPerstDeassert hbms cores tenancy slotA slotB next seq s
  | .dozeEntry => Sys2Proof.Machine.execDozeEntry s
  | .whistleWake => Sys2Proof.Machine.execWhistleWake s
  | .wakeStart cause => Sys2Proof.Machine.execWakeStart cause s
  | .wakeComplete => Sys2Proof.Machine.execWakeComplete s
  | .sensorSample temps => Sys2Proof.Machine.execSensorSample temps s
  | .thermalTrip => Sys2Proof.Machine.execThermalTrip s
  | .railSample mw => Sys2Proof.Machine.execRailSample mw s
  | .sledInserted n => Sys2Proof.Machine.execSledInserted n s
  | .sledDeparted n => Sys2Proof.Machine.execSledDeparted n s
  | .attnButtonPress n => Sys2Proof.Machine.execAttnButtonPress n s
  | .serviceWindowExpiry n => Sys2Proof.Machine.execServiceWindowExpiry n s
  | .sledPowerSettle n => Sys2Proof.Machine.execSledPowerSettle n s
  | .powerOffSettle n => Sys2Proof.Machine.execPowerOffSettle n s
  | .attnLedTimeout n => Sys2Proof.Machine.execAttnLedTimeout n s
  | .prbsLockChange n lane on bits errs => Sys2Proof.Machine.execPrbsLockChange n lane on bits errs s
  | .rateSwitchIdleEnd n => Sys2Proof.Machine.execRateSwitchIdleEnd n s
  | .sparingComplete block src => Sys2Proof.Machine.execSparingComplete block src s
  | .descriptorRebuildDone n index => Sys2Proof.Machine.execDescriptorRebuildDone n index s
  | .stackMapRebuildDone stack => Sys2Proof.Machine.execStackMapRebuildDone stack s
  | .evacuationMoveStart gran dst ext => Sys2Proof.Machine.execEvacuationMoveStart gran dst ext s
  | .tamperSourceClear src => Sys2Proof.Machine.execTamperSourceClear src s
  | .hostLinkError kind => Sys2Proof.Machine.execHostLinkError kind s
  | .mctpPacketReceive packet => Sys2Proof.Machine.execMctpPacketReceive packet s
  | .uartReceive data => Sys2Proof.Machine.execUartReceive data s
  | .jtagInstruction boundary => Sys2Proof.Machine.execJtagInstruction boundary s
  | .functionMaskWrite fn on => Sys2Proof.Machine.execFunctionMaskWrite fn on s
  | .fwEraseComplete => Sys2Proof.Machine.execFwEraseComplete s
  | .fwVerifyComplete good => Sys2Proof.Machine.execFwVerifyComplete good s
  | .l12Entry => Sys2Proof.Machine.execL12Entry s
  | .setSlotPowerLimit value => Sys2Proof.Machine.execSetSlotPowerLimit value s

end Sys2Proof.Machine
end

