-- ==== Sys2Proof/Safety.lean ====
section
/-! DEFINITION. What counts as a safe state, and the terms claims use: when the bridge takes a command, and what follows from a command's
own effect. -/

namespace Sys2Proof.Machine

open Sys2Proof

/-- The near tier's contents are in canonical form: line numbers strictly rising, each held once. -/
abbrev Near.wf (m : Near) : Prop := Tbl.rising m = true

/-- A state that every step keeps: its near tier's contents are in canonical form. -/
abbrev State.Inv (s : State) : Prop := Near.wf s.near

-- When the bridge takes a command ---------------------------------------------------------------------------------------------------

/-- The bridge lives (R443, R488, R489), and a command finds it as `b`: nothing sent yet, nothing landed. -/
structure Live (s : State) (b : Bridge) : Prop where
  alive : s.br.heldAll = false
  found : b = s.br.fresh

/-- An event of the host link reaches a bridge that lives, with PERST_N high and the link up (R190, R490), and finds it as `b`: woken from
Doze or from an entry into it, and with its link awake (R194, R496, R498). -/
structure LinkTakes (s : State) (b : Bridge) : Prop where
  alive : s.br.heldAll = false
  perst : s.br.pwr.perstLow = false
  up : s.br.port.up = true
  found : b = s.br.fresh.hostArrives

/-- A request of the host, which the port takes outside the power-loss sequence only (R443). -/
structure HostTakes (s : State) (b : Bridge) : Prop extends LinkTakes s b where
  running : b.jrn.step = 0

/-- A request of the host for which it holds the credits: posted or not, and data credits of 16 bytes (R219). -/
structure TlpTakes (s : State) (posted : Bool) (data : Nat) (b : Bridge) : Prop extends HostTakes s b where
  credit : b.port.hasCredit posted data = true

/-- A register access, a write or a read: of a musher core (function numbers from 256), or of a function that takes memory requests (R218). -/
def RegTakes (s : State) (write : Bool) (fn : Nat) (b : Bridge) : Prop :=
  (256 ≤ fn ∧ Live s b) ∨ (fn < 256 ∧ TlpTakes s write (b2n write) b ∧ b.takesMemory fn = true)

/-- Resident firmware takes command `c` from a slot (R354, R355): it is the function's turn, and the command its oldest posted one, with the row's opcode;
it finds the bridge as `b`, the turn taken, and the checks that every command meets find nothing (R352). -/
structure CitanTakes (s : State) (fn slot op : Nat) (cls : Caller) (b : Bridge) (c : Cmd) : Prop where
  alive : s.br.heldAll = false
  serves : s.br.fresh.citanServes = true
  oldest : s.br.fresh.nextPosted fn slot = true
  given : c = s.br.fresh.cmdOf fn slot
  found : b = s.br.fresh.visited
  opcode : c.ref.op = op
  common : b.commonCheck c cls true = none

/-- The journal takes a setting's records (R23, R442): it holds no change back, and not both of its copies are lost. -/
def Journals (b : Bridge) : Prop :=
  b.jrn.hold = false ∧ (b.boot.jloc = [] ∨ (b.jrn.at 0).state = 1 ∨ (b.jrn.at 1).state = 1)

-- What follows from a command -------------------------------------------------------------------------------------------------------

/-- State `t` is what follows from the own effect `b` of a command given in state `s`: the queue stands, all that follows at once has
settled, and what was written to the near tier has landed. Where `b` leaves nothing that goes on at once, `t`'s bridge is `b`, but for
interrupt levels that follow the state and the level of FAULT_N. -/
structure Follows (s : State) (b : Bridge) (t : State) : Prop where
  queue : t.pending = s.pending
  bridge : t.br = { s.br.fresh.settle b with lands := [] }
  near : t.near = landAll (s.br.fresh.settle b).lands s.near
  still : s.br.fresh.goesOn b = false → t.near = landAll b.lands s.near ∧ b.out <+: t.br.out ∧
    t.br = { b with icu := t.br.icu, out := t.br.out, lands := [] }

/-- The command answers a next state, and that state follows from the own effect `b`. -/
def Completes (i : Instr) (s : State) (b : Bridge) : Prop := ∃ t, exec i s = .next t ∧ Follows s b t

end Sys2Proof.Machine
end

