-- ==== Sys2Proof/Laws/State.lean ====
section
/-! SUPPORT. What each update of the bridge leaves in each of its fields. -/

namespace Sys2Proof.Machine

open Sys2Proof
-- emit
@[simp] theorem Bridge.emit_glb (e : Emit) (b : Bridge) : (b.emit e).glb = b.glb := (rfl)
@[simp] theorem Bridge.emit_ch (e : Emit) (b : Bridge) : (b.emit e).ch = b.ch := (rfl)
@[simp] theorem Bridge.emit_herd (e : Emit) (b : Bridge) : (b.emit e).herd = b.herd := (rfl)
@[simp] theorem Bridge.emit_ten (e : Emit) (b : Bridge) : (b.emit e).ten = b.ten := (rfl)
@[simp] theorem Bridge.emit_port (e : Emit) (b : Bridge) : (b.emit e).port = b.port := (rfl)
@[simp] theorem Bridge.emit_faults (e : Emit) (b : Bridge) : (b.emit e).faults = b.faults := (rfl)
@[simp] theorem Bridge.emit_icu (e : Emit) (b : Bridge) : (b.emit e).icu = b.icu := (rfl)
@[simp] theorem Bridge.emit_jrn (e : Emit) (b : Bridge) : (b.emit e).jrn = b.jrn := (rfl)
@[simp] theorem Bridge.emit_image (e : Emit) (b : Bridge) : (b.emit e).image = b.image := (rfl)
@[simp] theorem Bridge.emit_knl (e : Emit) (b : Bridge) : (b.emit e).knl = b.knl := (rfl)
@[simp] theorem Bridge.emit_boot (e : Emit) (b : Bridge) : (b.emit e).boot = b.boot := (rfl)
@[simp] theorem Bridge.emit_fuses (e : Emit) (b : Bridge) : (b.emit e).fuses = b.fuses := (rfl)
@[simp] theorem Bridge.emit_pwr (e : Emit) (b : Bridge) : (b.emit e).pwr = b.pwr := (rfl)
@[simp] theorem Bridge.emit_tlm (e : Emit) (b : Bridge) : (b.emit e).tlm = b.tlm := (rfl)
@[simp] theorem Bridge.emit_scan (e : Emit) (b : Bridge) : (b.emit e).scan = b.scan := (rfl)
@[simp] theorem Bridge.emit_citan (e : Emit) (b : Bridge) : (b.emit e).citan = b.citan := (rfl)
@[simp] theorem Bridge.emit_cxl (e : Emit) (b : Bridge) : (b.emit e).cxl = b.cxl := (rfl)
@[simp] theorem Bridge.emit_out (e : Emit) (b : Bridge) : (b.emit e).out = b.out ++ [e] := (rfl)
@[simp] theorem Bridge.emit_lands (e : Emit) (b : Bridge) : (b.emit e).lands = b.lands := (rfl)
@[simp] theorem Bridge.emit_mark (e : Emit) (b : Bridge) : (b.emit e).mark = b.mark := (rfl)
@[simp] theorem Bridge.emit_free (e : Emit) (b : Bridge) : (b.emit e).free = b.free := (rfl)
-- emits
@[simp] theorem Bridge.emits_glb (es : List Emit) (b : Bridge) : (b.emits es).glb = b.glb := (rfl)
@[simp] theorem Bridge.emits_ch (es : List Emit) (b : Bridge) : (b.emits es).ch = b.ch := (rfl)
@[simp] theorem Bridge.emits_herd (es : List Emit) (b : Bridge) : (b.emits es).herd = b.herd := (rfl)
@[simp] theorem Bridge.emits_ten (es : List Emit) (b : Bridge) : (b.emits es).ten = b.ten := (rfl)
@[simp] theorem Bridge.emits_port (es : List Emit) (b : Bridge) : (b.emits es).port = b.port := (rfl)
@[simp] theorem Bridge.emits_faults (es : List Emit) (b : Bridge) : (b.emits es).faults = b.faults := (rfl)
@[simp] theorem Bridge.emits_icu (es : List Emit) (b : Bridge) : (b.emits es).icu = b.icu := (rfl)
@[simp] theorem Bridge.emits_jrn (es : List Emit) (b : Bridge) : (b.emits es).jrn = b.jrn := (rfl)
@[simp] theorem Bridge.emits_image (es : List Emit) (b : Bridge) : (b.emits es).image = b.image := (rfl)
@[simp] theorem Bridge.emits_knl (es : List Emit) (b : Bridge) : (b.emits es).knl = b.knl := (rfl)
@[simp] theorem Bridge.emits_boot (es : List Emit) (b : Bridge) : (b.emits es).boot = b.boot := (rfl)
@[simp] theorem Bridge.emits_fuses (es : List Emit) (b : Bridge) : (b.emits es).fuses = b.fuses := (rfl)
@[simp] theorem Bridge.emits_pwr (es : List Emit) (b : Bridge) : (b.emits es).pwr = b.pwr := (rfl)
@[simp] theorem Bridge.emits_tlm (es : List Emit) (b : Bridge) : (b.emits es).tlm = b.tlm := (rfl)
@[simp] theorem Bridge.emits_scan (es : List Emit) (b : Bridge) : (b.emits es).scan = b.scan := (rfl)
@[simp] theorem Bridge.emits_citan (es : List Emit) (b : Bridge) : (b.emits es).citan = b.citan := (rfl)
@[simp] theorem Bridge.emits_cxl (es : List Emit) (b : Bridge) : (b.emits es).cxl = b.cxl := (rfl)
@[simp] theorem Bridge.emits_out (es : List Emit) (b : Bridge) : (b.emits es).out = b.out ++ es := (rfl)
@[simp] theorem Bridge.emits_lands (es : List Emit) (b : Bridge) : (b.emits es).lands = b.lands := (rfl)
@[simp] theorem Bridge.emits_mark (es : List Emit) (b : Bridge) : (b.emits es).mark = b.mark := (rfl)
@[simp] theorem Bridge.emits_free (es : List Emit) (b : Bridge) : (b.emits es).free = b.free := (rfl)
-- modCh
@[simp] theorem Bridge.modCh_glb (n : Nat) (f : Channel → Channel) (b : Bridge) : (b.modCh n f).glb = b.glb := (rfl)
@[simp] theorem Bridge.modCh_ch (n : Nat) (f : Channel → Channel) (b : Bridge) : (b.modCh n f).ch = Tbl.put n (f (b.chan n)) b.ch := (rfl)
@[simp] theorem Bridge.modCh_herd (n : Nat) (f : Channel → Channel) (b : Bridge) : (b.modCh n f).herd = b.herd := (rfl)
@[simp] theorem Bridge.modCh_ten (n : Nat) (f : Channel → Channel) (b : Bridge) : (b.modCh n f).ten = b.ten := (rfl)
@[simp] theorem Bridge.modCh_port (n : Nat) (f : Channel → Channel) (b : Bridge) : (b.modCh n f).port = b.port := (rfl)
@[simp] theorem Bridge.modCh_faults (n : Nat) (f : Channel → Channel) (b : Bridge) : (b.modCh n f).faults = b.faults := (rfl)
@[simp] theorem Bridge.modCh_icu (n : Nat) (f : Channel → Channel) (b : Bridge) : (b.modCh n f).icu = b.icu := (rfl)
@[simp] theorem Bridge.modCh_jrn (n : Nat) (f : Channel → Channel) (b : Bridge) : (b.modCh n f).jrn = b.jrn := (rfl)
@[simp] theorem Bridge.modCh_image (n : Nat) (f : Channel → Channel) (b : Bridge) : (b.modCh n f).image = b.image := (rfl)
@[simp] theorem Bridge.modCh_knl (n : Nat) (f : Channel → Channel) (b : Bridge) : (b.modCh n f).knl = b.knl := (rfl)
@[simp] theorem Bridge.modCh_boot (n : Nat) (f : Channel → Channel) (b : Bridge) : (b.modCh n f).boot = b.boot := (rfl)
@[simp] theorem Bridge.modCh_fuses (n : Nat) (f : Channel → Channel) (b : Bridge) : (b.modCh n f).fuses = b.fuses := (rfl)
@[simp] theorem Bridge.modCh_pwr (n : Nat) (f : Channel → Channel) (b : Bridge) : (b.modCh n f).pwr = b.pwr := (rfl)
@[simp] theorem Bridge.modCh_tlm (n : Nat) (f : Channel → Channel) (b : Bridge) : (b.modCh n f).tlm = b.tlm := (rfl)
@[simp] theorem Bridge.modCh_scan (n : Nat) (f : Channel → Channel) (b : Bridge) : (b.modCh n f).scan = b.scan := (rfl)
@[simp] theorem Bridge.modCh_citan (n : Nat) (f : Channel → Channel) (b : Bridge) : (b.modCh n f).citan = b.citan := (rfl)
@[simp] theorem Bridge.modCh_cxl (n : Nat) (f : Channel → Channel) (b : Bridge) : (b.modCh n f).cxl = b.cxl := (rfl)
@[simp] theorem Bridge.modCh_out (n : Nat) (f : Channel → Channel) (b : Bridge) : (b.modCh n f).out = b.out := (rfl)
@[simp] theorem Bridge.modCh_lands (n : Nat) (f : Channel → Channel) (b : Bridge) : (b.modCh n f).lands = b.lands := (rfl)
@[simp] theorem Bridge.modCh_mark (n : Nat) (f : Channel → Channel) (b : Bridge) : (b.modCh n f).mark = b.mark := (rfl)
@[simp] theorem Bridge.modCh_free (n : Nat) (f : Channel → Channel) (b : Bridge) : (b.modCh n f).free = b.free := (rfl)
-- modHerd
@[simp] theorem Bridge.modHerd_glb (f : Herder → Herder) (b : Bridge) : (b.modHerd f).glb = b.glb := (rfl)
@[simp] theorem Bridge.modHerd_ch (f : Herder → Herder) (b : Bridge) : (b.modHerd f).ch = b.ch := (rfl)
@[simp] theorem Bridge.modHerd_herd (f : Herder → Herder) (b : Bridge) : (b.modHerd f).herd = f b.herd := (rfl)
@[simp] theorem Bridge.modHerd_ten (f : Herder → Herder) (b : Bridge) : (b.modHerd f).ten = b.ten := (rfl)
@[simp] theorem Bridge.modHerd_port (f : Herder → Herder) (b : Bridge) : (b.modHerd f).port = b.port := (rfl)
@[simp] theorem Bridge.modHerd_faults (f : Herder → Herder) (b : Bridge) : (b.modHerd f).faults = b.faults := (rfl)
@[simp] theorem Bridge.modHerd_icu (f : Herder → Herder) (b : Bridge) : (b.modHerd f).icu = b.icu := (rfl)
@[simp] theorem Bridge.modHerd_jrn (f : Herder → Herder) (b : Bridge) : (b.modHerd f).jrn = b.jrn := (rfl)
@[simp] theorem Bridge.modHerd_image (f : Herder → Herder) (b : Bridge) : (b.modHerd f).image = b.image := (rfl)
@[simp] theorem Bridge.modHerd_knl (f : Herder → Herder) (b : Bridge) : (b.modHerd f).knl = b.knl := (rfl)
@[simp] theorem Bridge.modHerd_boot (f : Herder → Herder) (b : Bridge) : (b.modHerd f).boot = b.boot := (rfl)
@[simp] theorem Bridge.modHerd_fuses (f : Herder → Herder) (b : Bridge) : (b.modHerd f).fuses = b.fuses := (rfl)
@[simp] theorem Bridge.modHerd_pwr (f : Herder → Herder) (b : Bridge) : (b.modHerd f).pwr = b.pwr := (rfl)
@[simp] theorem Bridge.modHerd_tlm (f : Herder → Herder) (b : Bridge) : (b.modHerd f).tlm = b.tlm := (rfl)
@[simp] theorem Bridge.modHerd_scan (f : Herder → Herder) (b : Bridge) : (b.modHerd f).scan = b.scan := (rfl)
@[simp] theorem Bridge.modHerd_citan (f : Herder → Herder) (b : Bridge) : (b.modHerd f).citan = b.citan := (rfl)
@[simp] theorem Bridge.modHerd_cxl (f : Herder → Herder) (b : Bridge) : (b.modHerd f).cxl = b.cxl := (rfl)
@[simp] theorem Bridge.modHerd_out (f : Herder → Herder) (b : Bridge) : (b.modHerd f).out = b.out := (rfl)
@[simp] theorem Bridge.modHerd_lands (f : Herder → Herder) (b : Bridge) : (b.modHerd f).lands = b.lands := (rfl)
@[simp] theorem Bridge.modHerd_mark (f : Herder → Herder) (b : Bridge) : (b.modHerd f).mark = b.mark := (rfl)
@[simp] theorem Bridge.modHerd_free (f : Herder → Herder) (b : Bridge) : (b.modHerd f).free = b.free := (rfl)
-- modTen
@[simp] theorem Bridge.modTen_glb (f : Tenancy → Tenancy) (b : Bridge) : (b.modTen f).glb = b.glb := (rfl)
@[simp] theorem Bridge.modTen_ch (f : Tenancy → Tenancy) (b : Bridge) : (b.modTen f).ch = b.ch := (rfl)
@[simp] theorem Bridge.modTen_herd (f : Tenancy → Tenancy) (b : Bridge) : (b.modTen f).herd = b.herd := (rfl)
@[simp] theorem Bridge.modTen_ten (f : Tenancy → Tenancy) (b : Bridge) : (b.modTen f).ten = f b.ten := (rfl)
@[simp] theorem Bridge.modTen_port (f : Tenancy → Tenancy) (b : Bridge) : (b.modTen f).port = b.port := (rfl)
@[simp] theorem Bridge.modTen_faults (f : Tenancy → Tenancy) (b : Bridge) : (b.modTen f).faults = b.faults := (rfl)
@[simp] theorem Bridge.modTen_icu (f : Tenancy → Tenancy) (b : Bridge) : (b.modTen f).icu = b.icu := (rfl)
@[simp] theorem Bridge.modTen_jrn (f : Tenancy → Tenancy) (b : Bridge) : (b.modTen f).jrn = b.jrn := (rfl)
@[simp] theorem Bridge.modTen_image (f : Tenancy → Tenancy) (b : Bridge) : (b.modTen f).image = b.image := (rfl)
@[simp] theorem Bridge.modTen_knl (f : Tenancy → Tenancy) (b : Bridge) : (b.modTen f).knl = b.knl := (rfl)
@[simp] theorem Bridge.modTen_boot (f : Tenancy → Tenancy) (b : Bridge) : (b.modTen f).boot = b.boot := (rfl)
@[simp] theorem Bridge.modTen_fuses (f : Tenancy → Tenancy) (b : Bridge) : (b.modTen f).fuses = b.fuses := (rfl)
@[simp] theorem Bridge.modTen_pwr (f : Tenancy → Tenancy) (b : Bridge) : (b.modTen f).pwr = b.pwr := (rfl)
@[simp] theorem Bridge.modTen_tlm (f : Tenancy → Tenancy) (b : Bridge) : (b.modTen f).tlm = b.tlm := (rfl)
@[simp] theorem Bridge.modTen_scan (f : Tenancy → Tenancy) (b : Bridge) : (b.modTen f).scan = b.scan := (rfl)
@[simp] theorem Bridge.modTen_citan (f : Tenancy → Tenancy) (b : Bridge) : (b.modTen f).citan = b.citan := (rfl)
@[simp] theorem Bridge.modTen_cxl (f : Tenancy → Tenancy) (b : Bridge) : (b.modTen f).cxl = b.cxl := (rfl)
@[simp] theorem Bridge.modTen_out (f : Tenancy → Tenancy) (b : Bridge) : (b.modTen f).out = b.out := (rfl)
@[simp] theorem Bridge.modTen_lands (f : Tenancy → Tenancy) (b : Bridge) : (b.modTen f).lands = b.lands := (rfl)
@[simp] theorem Bridge.modTen_mark (f : Tenancy → Tenancy) (b : Bridge) : (b.modTen f).mark = b.mark := (rfl)
@[simp] theorem Bridge.modTen_free (f : Tenancy → Tenancy) (b : Bridge) : (b.modTen f).free = b.free := (rfl)
-- modPort
@[simp] theorem Bridge.modPort_glb (f : HostPort → HostPort) (b : Bridge) : (b.modPort f).glb = b.glb := (rfl)
@[simp] theorem Bridge.modPort_ch (f : HostPort → HostPort) (b : Bridge) : (b.modPort f).ch = b.ch := (rfl)
@[simp] theorem Bridge.modPort_herd (f : HostPort → HostPort) (b : Bridge) : (b.modPort f).herd = b.herd := (rfl)
@[simp] theorem Bridge.modPort_ten (f : HostPort → HostPort) (b : Bridge) : (b.modPort f).ten = b.ten := (rfl)
@[simp] theorem Bridge.modPort_port (f : HostPort → HostPort) (b : Bridge) : (b.modPort f).port = f b.port := (rfl)
@[simp] theorem Bridge.modPort_faults (f : HostPort → HostPort) (b : Bridge) : (b.modPort f).faults = b.faults := (rfl)
@[simp] theorem Bridge.modPort_icu (f : HostPort → HostPort) (b : Bridge) : (b.modPort f).icu = b.icu := (rfl)
@[simp] theorem Bridge.modPort_jrn (f : HostPort → HostPort) (b : Bridge) : (b.modPort f).jrn = b.jrn := (rfl)
@[simp] theorem Bridge.modPort_image (f : HostPort → HostPort) (b : Bridge) : (b.modPort f).image = b.image := (rfl)
@[simp] theorem Bridge.modPort_knl (f : HostPort → HostPort) (b : Bridge) : (b.modPort f).knl = b.knl := (rfl)
@[simp] theorem Bridge.modPort_boot (f : HostPort → HostPort) (b : Bridge) : (b.modPort f).boot = b.boot := (rfl)
@[simp] theorem Bridge.modPort_fuses (f : HostPort → HostPort) (b : Bridge) : (b.modPort f).fuses = b.fuses := (rfl)
@[simp] theorem Bridge.modPort_pwr (f : HostPort → HostPort) (b : Bridge) : (b.modPort f).pwr = b.pwr := (rfl)
@[simp] theorem Bridge.modPort_tlm (f : HostPort → HostPort) (b : Bridge) : (b.modPort f).tlm = b.tlm := (rfl)
@[simp] theorem Bridge.modPort_scan (f : HostPort → HostPort) (b : Bridge) : (b.modPort f).scan = b.scan := (rfl)
@[simp] theorem Bridge.modPort_citan (f : HostPort → HostPort) (b : Bridge) : (b.modPort f).citan = b.citan := (rfl)
@[simp] theorem Bridge.modPort_cxl (f : HostPort → HostPort) (b : Bridge) : (b.modPort f).cxl = b.cxl := (rfl)
@[simp] theorem Bridge.modPort_out (f : HostPort → HostPort) (b : Bridge) : (b.modPort f).out = b.out := (rfl)
@[simp] theorem Bridge.modPort_lands (f : HostPort → HostPort) (b : Bridge) : (b.modPort f).lands = b.lands := (rfl)
@[simp] theorem Bridge.modPort_mark (f : HostPort → HostPort) (b : Bridge) : (b.modPort f).mark = b.mark := (rfl)
@[simp] theorem Bridge.modPort_free (f : HostPort → HostPort) (b : Bridge) : (b.modPort f).free = b.free := (rfl)
-- modInst
@[simp] theorem Bridge.modInst_glb (i : Nat) (f : Inst → Inst) (b : Bridge) : (b.modInst i f).glb = b.glb := (rfl)
@[simp] theorem Bridge.modInst_ch (i : Nat) (f : Inst → Inst) (b : Bridge) : (b.modInst i f).ch = b.ch := (rfl)
@[simp] theorem Bridge.modInst_herd (i : Nat) (f : Inst → Inst) (b : Bridge) : (b.modInst i f).herd = b.herd := (rfl)
@[simp] theorem Bridge.modInst_port (i : Nat) (f : Inst → Inst) (b : Bridge) : (b.modInst i f).port = b.port := (rfl)
@[simp] theorem Bridge.modInst_faults (i : Nat) (f : Inst → Inst) (b : Bridge) : (b.modInst i f).faults = b.faults := (rfl)
@[simp] theorem Bridge.modInst_icu (i : Nat) (f : Inst → Inst) (b : Bridge) : (b.modInst i f).icu = b.icu := (rfl)
@[simp] theorem Bridge.modInst_jrn (i : Nat) (f : Inst → Inst) (b : Bridge) : (b.modInst i f).jrn = b.jrn := (rfl)
@[simp] theorem Bridge.modInst_image (i : Nat) (f : Inst → Inst) (b : Bridge) : (b.modInst i f).image = b.image := (rfl)
@[simp] theorem Bridge.modInst_knl (i : Nat) (f : Inst → Inst) (b : Bridge) : (b.modInst i f).knl = b.knl := (rfl)
@[simp] theorem Bridge.modInst_boot (i : Nat) (f : Inst → Inst) (b : Bridge) : (b.modInst i f).boot = b.boot := (rfl)
@[simp] theorem Bridge.modInst_fuses (i : Nat) (f : Inst → Inst) (b : Bridge) : (b.modInst i f).fuses = b.fuses := (rfl)
@[simp] theorem Bridge.modInst_pwr (i : Nat) (f : Inst → Inst) (b : Bridge) : (b.modInst i f).pwr = b.pwr := (rfl)
@[simp] theorem Bridge.modInst_tlm (i : Nat) (f : Inst → Inst) (b : Bridge) : (b.modInst i f).tlm = b.tlm := (rfl)
@[simp] theorem Bridge.modInst_scan (i : Nat) (f : Inst → Inst) (b : Bridge) : (b.modInst i f).scan = b.scan := (rfl)
@[simp] theorem Bridge.modInst_citan (i : Nat) (f : Inst → Inst) (b : Bridge) : (b.modInst i f).citan = b.citan := (rfl)
@[simp] theorem Bridge.modInst_cxl (i : Nat) (f : Inst → Inst) (b : Bridge) : (b.modInst i f).cxl = b.cxl := (rfl)
@[simp] theorem Bridge.modInst_out (i : Nat) (f : Inst → Inst) (b : Bridge) : (b.modInst i f).out = b.out := (rfl)
@[simp] theorem Bridge.modInst_lands (i : Nat) (f : Inst → Inst) (b : Bridge) : (b.modInst i f).lands = b.lands := (rfl)
@[simp] theorem Bridge.modInst_mark (i : Nat) (f : Inst → Inst) (b : Bridge) : (b.modInst i f).mark = b.mark := (rfl)
@[simp] theorem Bridge.modInst_free (i : Nat) (f : Inst → Inst) (b : Bridge) : (b.modInst i f).free = b.free := (rfl)
-- modFunc
@[simp] theorem Bridge.modFunc_glb (i : Nat) (f : Func → Func) (b : Bridge) : (b.modFunc i f).glb = b.glb := (rfl)
@[simp] theorem Bridge.modFunc_ch (i : Nat) (f : Func → Func) (b : Bridge) : (b.modFunc i f).ch = b.ch := (rfl)
@[simp] theorem Bridge.modFunc_herd (i : Nat) (f : Func → Func) (b : Bridge) : (b.modFunc i f).herd = b.herd := (rfl)
@[simp] theorem Bridge.modFunc_ten (i : Nat) (f : Func → Func) (b : Bridge) : (b.modFunc i f).ten = b.ten := (rfl)
@[simp] theorem Bridge.modFunc_faults (i : Nat) (f : Func → Func) (b : Bridge) : (b.modFunc i f).faults = b.faults := (rfl)
@[simp] theorem Bridge.modFunc_icu (i : Nat) (f : Func → Func) (b : Bridge) : (b.modFunc i f).icu = b.icu := (rfl)
@[simp] theorem Bridge.modFunc_jrn (i : Nat) (f : Func → Func) (b : Bridge) : (b.modFunc i f).jrn = b.jrn := (rfl)
@[simp] theorem Bridge.modFunc_image (i : Nat) (f : Func → Func) (b : Bridge) : (b.modFunc i f).image = b.image := (rfl)
@[simp] theorem Bridge.modFunc_knl (i : Nat) (f : Func → Func) (b : Bridge) : (b.modFunc i f).knl = b.knl := (rfl)
@[simp] theorem Bridge.modFunc_boot (i : Nat) (f : Func → Func) (b : Bridge) : (b.modFunc i f).boot = b.boot := (rfl)
@[simp] theorem Bridge.modFunc_fuses (i : Nat) (f : Func → Func) (b : Bridge) : (b.modFunc i f).fuses = b.fuses := (rfl)
@[simp] theorem Bridge.modFunc_pwr (i : Nat) (f : Func → Func) (b : Bridge) : (b.modFunc i f).pwr = b.pwr := (rfl)
@[simp] theorem Bridge.modFunc_tlm (i : Nat) (f : Func → Func) (b : Bridge) : (b.modFunc i f).tlm = b.tlm := (rfl)
@[simp] theorem Bridge.modFunc_scan (i : Nat) (f : Func → Func) (b : Bridge) : (b.modFunc i f).scan = b.scan := (rfl)
@[simp] theorem Bridge.modFunc_citan (i : Nat) (f : Func → Func) (b : Bridge) : (b.modFunc i f).citan = b.citan := (rfl)
@[simp] theorem Bridge.modFunc_cxl (i : Nat) (f : Func → Func) (b : Bridge) : (b.modFunc i f).cxl = b.cxl := (rfl)
@[simp] theorem Bridge.modFunc_out (i : Nat) (f : Func → Func) (b : Bridge) : (b.modFunc i f).out = b.out := (rfl)
@[simp] theorem Bridge.modFunc_lands (i : Nat) (f : Func → Func) (b : Bridge) : (b.modFunc i f).lands = b.lands := (rfl)
@[simp] theorem Bridge.modFunc_mark (i : Nat) (f : Func → Func) (b : Bridge) : (b.modFunc i f).mark = b.mark := (rfl)
@[simp] theorem Bridge.modFunc_free (i : Nat) (f : Func → Func) (b : Bridge) : (b.modFunc i f).free = b.free := (rfl)
-- modMbx
@[simp] theorem Bridge.modMbx_glb (i : Nat) (f : Mailbox → Mailbox) (b : Bridge) : (b.modMbx i f).glb = b.glb := (rfl)
@[simp] theorem Bridge.modMbx_ch (i : Nat) (f : Mailbox → Mailbox) (b : Bridge) : (b.modMbx i f).ch = b.ch := (rfl)
@[simp] theorem Bridge.modMbx_herd (i : Nat) (f : Mailbox → Mailbox) (b : Bridge) : (b.modMbx i f).herd = b.herd := (rfl)
@[simp] theorem Bridge.modMbx_port (i : Nat) (f : Mailbox → Mailbox) (b : Bridge) : (b.modMbx i f).port = b.port := (rfl)
@[simp] theorem Bridge.modMbx_faults (i : Nat) (f : Mailbox → Mailbox) (b : Bridge) : (b.modMbx i f).faults = b.faults := (rfl)
@[simp] theorem Bridge.modMbx_icu (i : Nat) (f : Mailbox → Mailbox) (b : Bridge) : (b.modMbx i f).icu = b.icu := (rfl)
@[simp] theorem Bridge.modMbx_jrn (i : Nat) (f : Mailbox → Mailbox) (b : Bridge) : (b.modMbx i f).jrn = b.jrn := (rfl)
@[simp] theorem Bridge.modMbx_image (i : Nat) (f : Mailbox → Mailbox) (b : Bridge) : (b.modMbx i f).image = b.image := (rfl)
@[simp] theorem Bridge.modMbx_knl (i : Nat) (f : Mailbox → Mailbox) (b : Bridge) : (b.modMbx i f).knl = b.knl := (rfl)
@[simp] theorem Bridge.modMbx_boot (i : Nat) (f : Mailbox → Mailbox) (b : Bridge) : (b.modMbx i f).boot = b.boot := (rfl)
@[simp] theorem Bridge.modMbx_fuses (i : Nat) (f : Mailbox → Mailbox) (b : Bridge) : (b.modMbx i f).fuses = b.fuses := (rfl)
@[simp] theorem Bridge.modMbx_pwr (i : Nat) (f : Mailbox → Mailbox) (b : Bridge) : (b.modMbx i f).pwr = b.pwr := (rfl)
@[simp] theorem Bridge.modMbx_tlm (i : Nat) (f : Mailbox → Mailbox) (b : Bridge) : (b.modMbx i f).tlm = b.tlm := (rfl)
@[simp] theorem Bridge.modMbx_scan (i : Nat) (f : Mailbox → Mailbox) (b : Bridge) : (b.modMbx i f).scan = b.scan := (rfl)
@[simp] theorem Bridge.modMbx_citan (i : Nat) (f : Mailbox → Mailbox) (b : Bridge) : (b.modMbx i f).citan = b.citan := (rfl)
@[simp] theorem Bridge.modMbx_cxl (i : Nat) (f : Mailbox → Mailbox) (b : Bridge) : (b.modMbx i f).cxl = b.cxl := (rfl)
@[simp] theorem Bridge.modMbx_out (i : Nat) (f : Mailbox → Mailbox) (b : Bridge) : (b.modMbx i f).out = b.out := (rfl)
@[simp] theorem Bridge.modMbx_lands (i : Nat) (f : Mailbox → Mailbox) (b : Bridge) : (b.modMbx i f).lands = b.lands := (rfl)
@[simp] theorem Bridge.modMbx_mark (i : Nat) (f : Mailbox → Mailbox) (b : Bridge) : (b.modMbx i f).mark = b.mark := (rfl)
@[simp] theorem Bridge.modMbx_free (i : Nat) (f : Mailbox → Mailbox) (b : Bridge) : (b.modMbx i f).free = b.free := (rfl)
-- modGlb
@[simp] theorem Bridge.modGlb_glb (f : Global → Global) (b : Bridge) : (b.modGlb f).glb = f b.glb := (rfl)
@[simp] theorem Bridge.modGlb_ch (f : Global → Global) (b : Bridge) : (b.modGlb f).ch = b.ch := (rfl)
@[simp] theorem Bridge.modGlb_herd (f : Global → Global) (b : Bridge) : (b.modGlb f).herd = b.herd := (rfl)
@[simp] theorem Bridge.modGlb_ten (f : Global → Global) (b : Bridge) : (b.modGlb f).ten = b.ten := (rfl)
@[simp] theorem Bridge.modGlb_port (f : Global → Global) (b : Bridge) : (b.modGlb f).port = b.port := (rfl)
@[simp] theorem Bridge.modGlb_faults (f : Global → Global) (b : Bridge) : (b.modGlb f).faults = b.faults := (rfl)
@[simp] theorem Bridge.modGlb_icu (f : Global → Global) (b : Bridge) : (b.modGlb f).icu = b.icu := (rfl)
@[simp] theorem Bridge.modGlb_jrn (f : Global → Global) (b : Bridge) : (b.modGlb f).jrn = b.jrn := (rfl)
@[simp] theorem Bridge.modGlb_image (f : Global → Global) (b : Bridge) : (b.modGlb f).image = b.image := (rfl)
@[simp] theorem Bridge.modGlb_knl (f : Global → Global) (b : Bridge) : (b.modGlb f).knl = b.knl := (rfl)
@[simp] theorem Bridge.modGlb_boot (f : Global → Global) (b : Bridge) : (b.modGlb f).boot = b.boot := (rfl)
@[simp] theorem Bridge.modGlb_fuses (f : Global → Global) (b : Bridge) : (b.modGlb f).fuses = b.fuses := (rfl)
@[simp] theorem Bridge.modGlb_pwr (f : Global → Global) (b : Bridge) : (b.modGlb f).pwr = b.pwr := (rfl)
@[simp] theorem Bridge.modGlb_tlm (f : Global → Global) (b : Bridge) : (b.modGlb f).tlm = b.tlm := (rfl)
@[simp] theorem Bridge.modGlb_scan (f : Global → Global) (b : Bridge) : (b.modGlb f).scan = b.scan := (rfl)
@[simp] theorem Bridge.modGlb_citan (f : Global → Global) (b : Bridge) : (b.modGlb f).citan = b.citan := (rfl)
@[simp] theorem Bridge.modGlb_cxl (f : Global → Global) (b : Bridge) : (b.modGlb f).cxl = b.cxl := (rfl)
@[simp] theorem Bridge.modGlb_out (f : Global → Global) (b : Bridge) : (b.modGlb f).out = b.out := (rfl)
@[simp] theorem Bridge.modGlb_lands (f : Global → Global) (b : Bridge) : (b.modGlb f).lands = b.lands := (rfl)
@[simp] theorem Bridge.modGlb_mark (f : Global → Global) (b : Bridge) : (b.modGlb f).mark = b.mark := (rfl)
@[simp] theorem Bridge.modGlb_free (f : Global → Global) (b : Bridge) : (b.modGlb f).free = b.free := (rfl)
-- modFlt
@[simp] theorem Bridge.modFlt_glb (f : Faults → Faults) (b : Bridge) : (b.modFlt f).glb = b.glb := (rfl)
@[simp] theorem Bridge.modFlt_ch (f : Faults → Faults) (b : Bridge) : (b.modFlt f).ch = b.ch := (rfl)
@[simp] theorem Bridge.modFlt_herd (f : Faults → Faults) (b : Bridge) : (b.modFlt f).herd = b.herd := (rfl)
@[simp] theorem Bridge.modFlt_ten (f : Faults → Faults) (b : Bridge) : (b.modFlt f).ten = b.ten := (rfl)
@[simp] theorem Bridge.modFlt_port (f : Faults → Faults) (b : Bridge) : (b.modFlt f).port = b.port := (rfl)
@[simp] theorem Bridge.modFlt_faults (f : Faults → Faults) (b : Bridge) : (b.modFlt f).faults = f b.faults := (rfl)
@[simp] theorem Bridge.modFlt_icu (f : Faults → Faults) (b : Bridge) : (b.modFlt f).icu = b.icu := (rfl)
@[simp] theorem Bridge.modFlt_jrn (f : Faults → Faults) (b : Bridge) : (b.modFlt f).jrn = b.jrn := (rfl)
@[simp] theorem Bridge.modFlt_image (f : Faults → Faults) (b : Bridge) : (b.modFlt f).image = b.image := (rfl)
@[simp] theorem Bridge.modFlt_knl (f : Faults → Faults) (b : Bridge) : (b.modFlt f).knl = b.knl := (rfl)
@[simp] theorem Bridge.modFlt_boot (f : Faults → Faults) (b : Bridge) : (b.modFlt f).boot = b.boot := (rfl)
@[simp] theorem Bridge.modFlt_fuses (f : Faults → Faults) (b : Bridge) : (b.modFlt f).fuses = b.fuses := (rfl)
@[simp] theorem Bridge.modFlt_pwr (f : Faults → Faults) (b : Bridge) : (b.modFlt f).pwr = b.pwr := (rfl)
@[simp] theorem Bridge.modFlt_tlm (f : Faults → Faults) (b : Bridge) : (b.modFlt f).tlm = b.tlm := (rfl)
@[simp] theorem Bridge.modFlt_scan (f : Faults → Faults) (b : Bridge) : (b.modFlt f).scan = b.scan := (rfl)
@[simp] theorem Bridge.modFlt_citan (f : Faults → Faults) (b : Bridge) : (b.modFlt f).citan = b.citan := (rfl)
@[simp] theorem Bridge.modFlt_cxl (f : Faults → Faults) (b : Bridge) : (b.modFlt f).cxl = b.cxl := (rfl)
@[simp] theorem Bridge.modFlt_out (f : Faults → Faults) (b : Bridge) : (b.modFlt f).out = b.out := (rfl)
@[simp] theorem Bridge.modFlt_lands (f : Faults → Faults) (b : Bridge) : (b.modFlt f).lands = b.lands := (rfl)
@[simp] theorem Bridge.modFlt_mark (f : Faults → Faults) (b : Bridge) : (b.modFlt f).mark = b.mark := (rfl)
@[simp] theorem Bridge.modFlt_free (f : Faults → Faults) (b : Bridge) : (b.modFlt f).free = b.free := (rfl)
-- modBlk
@[simp] theorem Bridge.modBlk_glb (k : Nat) (f : FaultBlock → FaultBlock) (b : Bridge) : (b.modBlk k f).glb = b.glb := (rfl)
@[simp] theorem Bridge.modBlk_ch (k : Nat) (f : FaultBlock → FaultBlock) (b : Bridge) : (b.modBlk k f).ch = b.ch := (rfl)
@[simp] theorem Bridge.modBlk_herd (k : Nat) (f : FaultBlock → FaultBlock) (b : Bridge) : (b.modBlk k f).herd = b.herd := (rfl)
@[simp] theorem Bridge.modBlk_ten (k : Nat) (f : FaultBlock → FaultBlock) (b : Bridge) : (b.modBlk k f).ten = b.ten := (rfl)
@[simp] theorem Bridge.modBlk_port (k : Nat) (f : FaultBlock → FaultBlock) (b : Bridge) : (b.modBlk k f).port = b.port := (rfl)
@[simp] theorem Bridge.modBlk_icu (k : Nat) (f : FaultBlock → FaultBlock) (b : Bridge) : (b.modBlk k f).icu = b.icu := (rfl)
@[simp] theorem Bridge.modBlk_jrn (k : Nat) (f : FaultBlock → FaultBlock) (b : Bridge) : (b.modBlk k f).jrn = b.jrn := (rfl)
@[simp] theorem Bridge.modBlk_image (k : Nat) (f : FaultBlock → FaultBlock) (b : Bridge) : (b.modBlk k f).image = b.image := (rfl)
@[simp] theorem Bridge.modBlk_knl (k : Nat) (f : FaultBlock → FaultBlock) (b : Bridge) : (b.modBlk k f).knl = b.knl := (rfl)
@[simp] theorem Bridge.modBlk_boot (k : Nat) (f : FaultBlock → FaultBlock) (b : Bridge) : (b.modBlk k f).boot = b.boot := (rfl)
@[simp] theorem Bridge.modBlk_fuses (k : Nat) (f : FaultBlock → FaultBlock) (b : Bridge) : (b.modBlk k f).fuses = b.fuses := (rfl)
@[simp] theorem Bridge.modBlk_pwr (k : Nat) (f : FaultBlock → FaultBlock) (b : Bridge) : (b.modBlk k f).pwr = b.pwr := (rfl)
@[simp] theorem Bridge.modBlk_tlm (k : Nat) (f : FaultBlock → FaultBlock) (b : Bridge) : (b.modBlk k f).tlm = b.tlm := (rfl)
@[simp] theorem Bridge.modBlk_scan (k : Nat) (f : FaultBlock → FaultBlock) (b : Bridge) : (b.modBlk k f).scan = b.scan := (rfl)
@[simp] theorem Bridge.modBlk_citan (k : Nat) (f : FaultBlock → FaultBlock) (b : Bridge) : (b.modBlk k f).citan = b.citan := (rfl)
@[simp] theorem Bridge.modBlk_cxl (k : Nat) (f : FaultBlock → FaultBlock) (b : Bridge) : (b.modBlk k f).cxl = b.cxl := (rfl)
@[simp] theorem Bridge.modBlk_out (k : Nat) (f : FaultBlock → FaultBlock) (b : Bridge) : (b.modBlk k f).out = b.out := (rfl)
@[simp] theorem Bridge.modBlk_lands (k : Nat) (f : FaultBlock → FaultBlock) (b : Bridge) : (b.modBlk k f).lands = b.lands := (rfl)
@[simp] theorem Bridge.modBlk_mark (k : Nat) (f : FaultBlock → FaultBlock) (b : Bridge) : (b.modBlk k f).mark = b.mark := (rfl)
@[simp] theorem Bridge.modBlk_free (k : Nat) (f : FaultBlock → FaultBlock) (b : Bridge) : (b.modBlk k f).free = b.free := (rfl)
-- modJrn
@[simp] theorem Bridge.modJrn_glb (f : Journal → Journal) (b : Bridge) : (b.modJrn f).glb = b.glb := (rfl)
@[simp] theorem Bridge.modJrn_ch (f : Journal → Journal) (b : Bridge) : (b.modJrn f).ch = b.ch := (rfl)
@[simp] theorem Bridge.modJrn_herd (f : Journal → Journal) (b : Bridge) : (b.modJrn f).herd = b.herd := (rfl)
@[simp] theorem Bridge.modJrn_ten (f : Journal → Journal) (b : Bridge) : (b.modJrn f).ten = b.ten := (rfl)
@[simp] theorem Bridge.modJrn_port (f : Journal → Journal) (b : Bridge) : (b.modJrn f).port = b.port := (rfl)
@[simp] theorem Bridge.modJrn_faults (f : Journal → Journal) (b : Bridge) : (b.modJrn f).faults = b.faults := (rfl)
@[simp] theorem Bridge.modJrn_icu (f : Journal → Journal) (b : Bridge) : (b.modJrn f).icu = b.icu := (rfl)
@[simp] theorem Bridge.modJrn_jrn (f : Journal → Journal) (b : Bridge) : (b.modJrn f).jrn = f b.jrn := (rfl)
@[simp] theorem Bridge.modJrn_image (f : Journal → Journal) (b : Bridge) : (b.modJrn f).image = b.image := (rfl)
@[simp] theorem Bridge.modJrn_knl (f : Journal → Journal) (b : Bridge) : (b.modJrn f).knl = b.knl := (rfl)
@[simp] theorem Bridge.modJrn_boot (f : Journal → Journal) (b : Bridge) : (b.modJrn f).boot = b.boot := (rfl)
@[simp] theorem Bridge.modJrn_fuses (f : Journal → Journal) (b : Bridge) : (b.modJrn f).fuses = b.fuses := (rfl)
@[simp] theorem Bridge.modJrn_pwr (f : Journal → Journal) (b : Bridge) : (b.modJrn f).pwr = b.pwr := (rfl)
@[simp] theorem Bridge.modJrn_tlm (f : Journal → Journal) (b : Bridge) : (b.modJrn f).tlm = b.tlm := (rfl)
@[simp] theorem Bridge.modJrn_scan (f : Journal → Journal) (b : Bridge) : (b.modJrn f).scan = b.scan := (rfl)
@[simp] theorem Bridge.modJrn_citan (f : Journal → Journal) (b : Bridge) : (b.modJrn f).citan = b.citan := (rfl)
@[simp] theorem Bridge.modJrn_cxl (f : Journal → Journal) (b : Bridge) : (b.modJrn f).cxl = b.cxl := (rfl)
@[simp] theorem Bridge.modJrn_out (f : Journal → Journal) (b : Bridge) : (b.modJrn f).out = b.out := (rfl)
@[simp] theorem Bridge.modJrn_lands (f : Journal → Journal) (b : Bridge) : (b.modJrn f).lands = b.lands := (rfl)
@[simp] theorem Bridge.modJrn_mark (f : Journal → Journal) (b : Bridge) : (b.modJrn f).mark = b.mark := (rfl)
@[simp] theorem Bridge.modJrn_free (f : Journal → Journal) (b : Bridge) : (b.modJrn f).free = b.free := (rfl)
-- modKnl
@[simp] theorem Bridge.modKnl_glb (f : Kennel → Kennel) (b : Bridge) : (b.modKnl f).glb = b.glb := (rfl)
@[simp] theorem Bridge.modKnl_ch (f : Kennel → Kennel) (b : Bridge) : (b.modKnl f).ch = b.ch := (rfl)
@[simp] theorem Bridge.modKnl_herd (f : Kennel → Kennel) (b : Bridge) : (b.modKnl f).herd = b.herd := (rfl)
@[simp] theorem Bridge.modKnl_ten (f : Kennel → Kennel) (b : Bridge) : (b.modKnl f).ten = b.ten := (rfl)
@[simp] theorem Bridge.modKnl_port (f : Kennel → Kennel) (b : Bridge) : (b.modKnl f).port = b.port := (rfl)
@[simp] theorem Bridge.modKnl_faults (f : Kennel → Kennel) (b : Bridge) : (b.modKnl f).faults = b.faults := (rfl)
@[simp] theorem Bridge.modKnl_icu (f : Kennel → Kennel) (b : Bridge) : (b.modKnl f).icu = b.icu := (rfl)
@[simp] theorem Bridge.modKnl_jrn (f : Kennel → Kennel) (b : Bridge) : (b.modKnl f).jrn = b.jrn := (rfl)
@[simp] theorem Bridge.modKnl_image (f : Kennel → Kennel) (b : Bridge) : (b.modKnl f).image = b.image := (rfl)
@[simp] theorem Bridge.modKnl_knl (f : Kennel → Kennel) (b : Bridge) : (b.modKnl f).knl = f b.knl := (rfl)
@[simp] theorem Bridge.modKnl_boot (f : Kennel → Kennel) (b : Bridge) : (b.modKnl f).boot = b.boot := (rfl)
@[simp] theorem Bridge.modKnl_fuses (f : Kennel → Kennel) (b : Bridge) : (b.modKnl f).fuses = b.fuses := (rfl)
@[simp] theorem Bridge.modKnl_pwr (f : Kennel → Kennel) (b : Bridge) : (b.modKnl f).pwr = b.pwr := (rfl)
@[simp] theorem Bridge.modKnl_tlm (f : Kennel → Kennel) (b : Bridge) : (b.modKnl f).tlm = b.tlm := (rfl)
@[simp] theorem Bridge.modKnl_scan (f : Kennel → Kennel) (b : Bridge) : (b.modKnl f).scan = b.scan := (rfl)
@[simp] theorem Bridge.modKnl_citan (f : Kennel → Kennel) (b : Bridge) : (b.modKnl f).citan = b.citan := (rfl)
@[simp] theorem Bridge.modKnl_cxl (f : Kennel → Kennel) (b : Bridge) : (b.modKnl f).cxl = b.cxl := (rfl)
@[simp] theorem Bridge.modKnl_out (f : Kennel → Kennel) (b : Bridge) : (b.modKnl f).out = b.out := (rfl)
@[simp] theorem Bridge.modKnl_lands (f : Kennel → Kennel) (b : Bridge) : (b.modKnl f).lands = b.lands := (rfl)
@[simp] theorem Bridge.modKnl_mark (f : Kennel → Kennel) (b : Bridge) : (b.modKnl f).mark = b.mark := (rfl)
@[simp] theorem Bridge.modKnl_free (f : Kennel → Kennel) (b : Bridge) : (b.modKnl f).free = b.free := (rfl)
-- modFuses
@[simp] theorem Bridge.modFuses_glb (f : Fuses → Fuses) (b : Bridge) : (b.modFuses f).glb = b.glb := (rfl)
@[simp] theorem Bridge.modFuses_ch (f : Fuses → Fuses) (b : Bridge) : (b.modFuses f).ch = b.ch := (rfl)
@[simp] theorem Bridge.modFuses_herd (f : Fuses → Fuses) (b : Bridge) : (b.modFuses f).herd = b.herd := (rfl)
@[simp] theorem Bridge.modFuses_ten (f : Fuses → Fuses) (b : Bridge) : (b.modFuses f).ten = b.ten := (rfl)
@[simp] theorem Bridge.modFuses_port (f : Fuses → Fuses) (b : Bridge) : (b.modFuses f).port = b.port := (rfl)
@[simp] theorem Bridge.modFuses_faults (f : Fuses → Fuses) (b : Bridge) : (b.modFuses f).faults = b.faults := (rfl)
@[simp] theorem Bridge.modFuses_icu (f : Fuses → Fuses) (b : Bridge) : (b.modFuses f).icu = b.icu := (rfl)
@[simp] theorem Bridge.modFuses_jrn (f : Fuses → Fuses) (b : Bridge) : (b.modFuses f).jrn = b.jrn := (rfl)
@[simp] theorem Bridge.modFuses_image (f : Fuses → Fuses) (b : Bridge) : (b.modFuses f).image = b.image := (rfl)
@[simp] theorem Bridge.modFuses_knl (f : Fuses → Fuses) (b : Bridge) : (b.modFuses f).knl = b.knl := (rfl)
@[simp] theorem Bridge.modFuses_boot (f : Fuses → Fuses) (b : Bridge) : (b.modFuses f).boot = b.boot := (rfl)
@[simp] theorem Bridge.modFuses_fuses (f : Fuses → Fuses) (b : Bridge) : (b.modFuses f).fuses = f b.fuses := (rfl)
@[simp] theorem Bridge.modFuses_pwr (f : Fuses → Fuses) (b : Bridge) : (b.modFuses f).pwr = b.pwr := (rfl)
@[simp] theorem Bridge.modFuses_tlm (f : Fuses → Fuses) (b : Bridge) : (b.modFuses f).tlm = b.tlm := (rfl)
@[simp] theorem Bridge.modFuses_scan (f : Fuses → Fuses) (b : Bridge) : (b.modFuses f).scan = b.scan := (rfl)
@[simp] theorem Bridge.modFuses_citan (f : Fuses → Fuses) (b : Bridge) : (b.modFuses f).citan = b.citan := (rfl)
@[simp] theorem Bridge.modFuses_cxl (f : Fuses → Fuses) (b : Bridge) : (b.modFuses f).cxl = b.cxl := (rfl)
@[simp] theorem Bridge.modFuses_out (f : Fuses → Fuses) (b : Bridge) : (b.modFuses f).out = b.out := (rfl)
@[simp] theorem Bridge.modFuses_lands (f : Fuses → Fuses) (b : Bridge) : (b.modFuses f).lands = b.lands := (rfl)
@[simp] theorem Bridge.modFuses_mark (f : Fuses → Fuses) (b : Bridge) : (b.modFuses f).mark = b.mark := (rfl)
@[simp] theorem Bridge.modFuses_free (f : Fuses → Fuses) (b : Bridge) : (b.modFuses f).free = b.free := (rfl)
-- modPwr
@[simp] theorem Bridge.modPwr_glb (f : Power → Power) (b : Bridge) : (b.modPwr f).glb = b.glb := (rfl)
@[simp] theorem Bridge.modPwr_ch (f : Power → Power) (b : Bridge) : (b.modPwr f).ch = b.ch := (rfl)
@[simp] theorem Bridge.modPwr_herd (f : Power → Power) (b : Bridge) : (b.modPwr f).herd = b.herd := (rfl)
@[simp] theorem Bridge.modPwr_ten (f : Power → Power) (b : Bridge) : (b.modPwr f).ten = b.ten := (rfl)
@[simp] theorem Bridge.modPwr_port (f : Power → Power) (b : Bridge) : (b.modPwr f).port = b.port := (rfl)
@[simp] theorem Bridge.modPwr_faults (f : Power → Power) (b : Bridge) : (b.modPwr f).faults = b.faults := (rfl)
@[simp] theorem Bridge.modPwr_icu (f : Power → Power) (b : Bridge) : (b.modPwr f).icu = b.icu := (rfl)
@[simp] theorem Bridge.modPwr_jrn (f : Power → Power) (b : Bridge) : (b.modPwr f).jrn = b.jrn := (rfl)
@[simp] theorem Bridge.modPwr_image (f : Power → Power) (b : Bridge) : (b.modPwr f).image = b.image := (rfl)
@[simp] theorem Bridge.modPwr_knl (f : Power → Power) (b : Bridge) : (b.modPwr f).knl = b.knl := (rfl)
@[simp] theorem Bridge.modPwr_boot (f : Power → Power) (b : Bridge) : (b.modPwr f).boot = b.boot := (rfl)
@[simp] theorem Bridge.modPwr_fuses (f : Power → Power) (b : Bridge) : (b.modPwr f).fuses = b.fuses := (rfl)
@[simp] theorem Bridge.modPwr_pwr (f : Power → Power) (b : Bridge) : (b.modPwr f).pwr = f b.pwr := (rfl)
@[simp] theorem Bridge.modPwr_tlm (f : Power → Power) (b : Bridge) : (b.modPwr f).tlm = b.tlm := (rfl)
@[simp] theorem Bridge.modPwr_scan (f : Power → Power) (b : Bridge) : (b.modPwr f).scan = b.scan := (rfl)
@[simp] theorem Bridge.modPwr_citan (f : Power → Power) (b : Bridge) : (b.modPwr f).citan = b.citan := (rfl)
@[simp] theorem Bridge.modPwr_cxl (f : Power → Power) (b : Bridge) : (b.modPwr f).cxl = b.cxl := (rfl)
@[simp] theorem Bridge.modPwr_out (f : Power → Power) (b : Bridge) : (b.modPwr f).out = b.out := (rfl)
@[simp] theorem Bridge.modPwr_lands (f : Power → Power) (b : Bridge) : (b.modPwr f).lands = b.lands := (rfl)
@[simp] theorem Bridge.modPwr_mark (f : Power → Power) (b : Bridge) : (b.modPwr f).mark = b.mark := (rfl)
@[simp] theorem Bridge.modPwr_free (f : Power → Power) (b : Bridge) : (b.modPwr f).free = b.free := (rfl)
-- modTlm
@[simp] theorem Bridge.modTlm_glb (f : Telemetry → Telemetry) (b : Bridge) : (b.modTlm f).glb = b.glb := (rfl)
@[simp] theorem Bridge.modTlm_ch (f : Telemetry → Telemetry) (b : Bridge) : (b.modTlm f).ch = b.ch := (rfl)
@[simp] theorem Bridge.modTlm_herd (f : Telemetry → Telemetry) (b : Bridge) : (b.modTlm f).herd = b.herd := (rfl)
@[simp] theorem Bridge.modTlm_ten (f : Telemetry → Telemetry) (b : Bridge) : (b.modTlm f).ten = b.ten := (rfl)
@[simp] theorem Bridge.modTlm_port (f : Telemetry → Telemetry) (b : Bridge) : (b.modTlm f).port = b.port := (rfl)
@[simp] theorem Bridge.modTlm_faults (f : Telemetry → Telemetry) (b : Bridge) : (b.modTlm f).faults = b.faults := (rfl)
@[simp] theorem Bridge.modTlm_icu (f : Telemetry → Telemetry) (b : Bridge) : (b.modTlm f).icu = b.icu := (rfl)
@[simp] theorem Bridge.modTlm_jrn (f : Telemetry → Telemetry) (b : Bridge) : (b.modTlm f).jrn = b.jrn := (rfl)
@[simp] theorem Bridge.modTlm_image (f : Telemetry → Telemetry) (b : Bridge) : (b.modTlm f).image = b.image := (rfl)
@[simp] theorem Bridge.modTlm_knl (f : Telemetry → Telemetry) (b : Bridge) : (b.modTlm f).knl = b.knl := (rfl)
@[simp] theorem Bridge.modTlm_boot (f : Telemetry → Telemetry) (b : Bridge) : (b.modTlm f).boot = b.boot := (rfl)
@[simp] theorem Bridge.modTlm_fuses (f : Telemetry → Telemetry) (b : Bridge) : (b.modTlm f).fuses = b.fuses := (rfl)
@[simp] theorem Bridge.modTlm_pwr (f : Telemetry → Telemetry) (b : Bridge) : (b.modTlm f).pwr = b.pwr := (rfl)
@[simp] theorem Bridge.modTlm_tlm (f : Telemetry → Telemetry) (b : Bridge) : (b.modTlm f).tlm = f b.tlm := (rfl)
@[simp] theorem Bridge.modTlm_scan (f : Telemetry → Telemetry) (b : Bridge) : (b.modTlm f).scan = b.scan := (rfl)
@[simp] theorem Bridge.modTlm_citan (f : Telemetry → Telemetry) (b : Bridge) : (b.modTlm f).citan = b.citan := (rfl)
@[simp] theorem Bridge.modTlm_cxl (f : Telemetry → Telemetry) (b : Bridge) : (b.modTlm f).cxl = b.cxl := (rfl)
@[simp] theorem Bridge.modTlm_out (f : Telemetry → Telemetry) (b : Bridge) : (b.modTlm f).out = b.out := (rfl)
@[simp] theorem Bridge.modTlm_lands (f : Telemetry → Telemetry) (b : Bridge) : (b.modTlm f).lands = b.lands := (rfl)
@[simp] theorem Bridge.modTlm_mark (f : Telemetry → Telemetry) (b : Bridge) : (b.modTlm f).mark = b.mark := (rfl)
@[simp] theorem Bridge.modTlm_free (f : Telemetry → Telemetry) (b : Bridge) : (b.modTlm f).free = b.free := (rfl)
-- modScan
@[simp] theorem Bridge.modScan_glb (f : Scans → Scans) (b : Bridge) : (b.modScan f).glb = b.glb := (rfl)
@[simp] theorem Bridge.modScan_ch (f : Scans → Scans) (b : Bridge) : (b.modScan f).ch = b.ch := (rfl)
@[simp] theorem Bridge.modScan_herd (f : Scans → Scans) (b : Bridge) : (b.modScan f).herd = b.herd := (rfl)
@[simp] theorem Bridge.modScan_ten (f : Scans → Scans) (b : Bridge) : (b.modScan f).ten = b.ten := (rfl)
@[simp] theorem Bridge.modScan_port (f : Scans → Scans) (b : Bridge) : (b.modScan f).port = b.port := (rfl)
@[simp] theorem Bridge.modScan_faults (f : Scans → Scans) (b : Bridge) : (b.modScan f).faults = b.faults := (rfl)
@[simp] theorem Bridge.modScan_icu (f : Scans → Scans) (b : Bridge) : (b.modScan f).icu = b.icu := (rfl)
@[simp] theorem Bridge.modScan_jrn (f : Scans → Scans) (b : Bridge) : (b.modScan f).jrn = b.jrn := (rfl)
@[simp] theorem Bridge.modScan_image (f : Scans → Scans) (b : Bridge) : (b.modScan f).image = b.image := (rfl)
@[simp] theorem Bridge.modScan_knl (f : Scans → Scans) (b : Bridge) : (b.modScan f).knl = b.knl := (rfl)
@[simp] theorem Bridge.modScan_boot (f : Scans → Scans) (b : Bridge) : (b.modScan f).boot = b.boot := (rfl)
@[simp] theorem Bridge.modScan_fuses (f : Scans → Scans) (b : Bridge) : (b.modScan f).fuses = b.fuses := (rfl)
@[simp] theorem Bridge.modScan_pwr (f : Scans → Scans) (b : Bridge) : (b.modScan f).pwr = b.pwr := (rfl)
@[simp] theorem Bridge.modScan_tlm (f : Scans → Scans) (b : Bridge) : (b.modScan f).tlm = b.tlm := (rfl)
@[simp] theorem Bridge.modScan_scan (f : Scans → Scans) (b : Bridge) : (b.modScan f).scan = f b.scan := (rfl)
@[simp] theorem Bridge.modScan_citan (f : Scans → Scans) (b : Bridge) : (b.modScan f).citan = b.citan := (rfl)
@[simp] theorem Bridge.modScan_cxl (f : Scans → Scans) (b : Bridge) : (b.modScan f).cxl = b.cxl := (rfl)
@[simp] theorem Bridge.modScan_out (f : Scans → Scans) (b : Bridge) : (b.modScan f).out = b.out := (rfl)
@[simp] theorem Bridge.modScan_lands (f : Scans → Scans) (b : Bridge) : (b.modScan f).lands = b.lands := (rfl)
@[simp] theorem Bridge.modScan_mark (f : Scans → Scans) (b : Bridge) : (b.modScan f).mark = b.mark := (rfl)
@[simp] theorem Bridge.modScan_free (f : Scans → Scans) (b : Bridge) : (b.modScan f).free = b.free := (rfl)
-- modSch
@[simp] theorem Bridge.modSch_glb (n : Nat) (f : Sched → Sched) (b : Bridge) : (b.modSch n f).glb = b.glb := (rfl)
@[simp] theorem Bridge.modSch_herd (n : Nat) (f : Sched → Sched) (b : Bridge) : (b.modSch n f).herd = b.herd := (rfl)
@[simp] theorem Bridge.modSch_ten (n : Nat) (f : Sched → Sched) (b : Bridge) : (b.modSch n f).ten = b.ten := (rfl)
@[simp] theorem Bridge.modSch_port (n : Nat) (f : Sched → Sched) (b : Bridge) : (b.modSch n f).port = b.port := (rfl)
@[simp] theorem Bridge.modSch_faults (n : Nat) (f : Sched → Sched) (b : Bridge) : (b.modSch n f).faults = b.faults := (rfl)
@[simp] theorem Bridge.modSch_icu (n : Nat) (f : Sched → Sched) (b : Bridge) : (b.modSch n f).icu = b.icu := (rfl)
@[simp] theorem Bridge.modSch_jrn (n : Nat) (f : Sched → Sched) (b : Bridge) : (b.modSch n f).jrn = b.jrn := (rfl)
@[simp] theorem Bridge.modSch_image (n : Nat) (f : Sched → Sched) (b : Bridge) : (b.modSch n f).image = b.image := (rfl)
@[simp] theorem Bridge.modSch_knl (n : Nat) (f : Sched → Sched) (b : Bridge) : (b.modSch n f).knl = b.knl := (rfl)
@[simp] theorem Bridge.modSch_boot (n : Nat) (f : Sched → Sched) (b : Bridge) : (b.modSch n f).boot = b.boot := (rfl)
@[simp] theorem Bridge.modSch_fuses (n : Nat) (f : Sched → Sched) (b : Bridge) : (b.modSch n f).fuses = b.fuses := (rfl)
@[simp] theorem Bridge.modSch_pwr (n : Nat) (f : Sched → Sched) (b : Bridge) : (b.modSch n f).pwr = b.pwr := (rfl)
@[simp] theorem Bridge.modSch_tlm (n : Nat) (f : Sched → Sched) (b : Bridge) : (b.modSch n f).tlm = b.tlm := (rfl)
@[simp] theorem Bridge.modSch_scan (n : Nat) (f : Sched → Sched) (b : Bridge) : (b.modSch n f).scan = b.scan := (rfl)
@[simp] theorem Bridge.modSch_citan (n : Nat) (f : Sched → Sched) (b : Bridge) : (b.modSch n f).citan = b.citan := (rfl)
@[simp] theorem Bridge.modSch_cxl (n : Nat) (f : Sched → Sched) (b : Bridge) : (b.modSch n f).cxl = b.cxl := (rfl)
@[simp] theorem Bridge.modSch_out (n : Nat) (f : Sched → Sched) (b : Bridge) : (b.modSch n f).out = b.out := (rfl)
@[simp] theorem Bridge.modSch_lands (n : Nat) (f : Sched → Sched) (b : Bridge) : (b.modSch n f).lands = b.lands := (rfl)
@[simp] theorem Bridge.modSch_mark (n : Nat) (f : Sched → Sched) (b : Bridge) : (b.modSch n f).mark = b.mark := (rfl)
@[simp] theorem Bridge.modSch_free (n : Nat) (f : Sched → Sched) (b : Bridge) : (b.modSch n f).free = b.free := (rfl)
-- modAcc
@[simp] theorem Bridge.modAcc_glb (n : Nat) (f : Access → Access) (b : Bridge) : (b.modAcc n f).glb = b.glb := (rfl)
@[simp] theorem Bridge.modAcc_herd (n : Nat) (f : Access → Access) (b : Bridge) : (b.modAcc n f).herd = b.herd := (rfl)
@[simp] theorem Bridge.modAcc_ten (n : Nat) (f : Access → Access) (b : Bridge) : (b.modAcc n f).ten = b.ten := (rfl)
@[simp] theorem Bridge.modAcc_port (n : Nat) (f : Access → Access) (b : Bridge) : (b.modAcc n f).port = b.port := (rfl)
@[simp] theorem Bridge.modAcc_faults (n : Nat) (f : Access → Access) (b : Bridge) : (b.modAcc n f).faults = b.faults := (rfl)
@[simp] theorem Bridge.modAcc_icu (n : Nat) (f : Access → Access) (b : Bridge) : (b.modAcc n f).icu = b.icu := (rfl)
@[simp] theorem Bridge.modAcc_jrn (n : Nat) (f : Access → Access) (b : Bridge) : (b.modAcc n f).jrn = b.jrn := (rfl)
@[simp] theorem Bridge.modAcc_image (n : Nat) (f : Access → Access) (b : Bridge) : (b.modAcc n f).image = b.image := (rfl)
@[simp] theorem Bridge.modAcc_knl (n : Nat) (f : Access → Access) (b : Bridge) : (b.modAcc n f).knl = b.knl := (rfl)
@[simp] theorem Bridge.modAcc_boot (n : Nat) (f : Access → Access) (b : Bridge) : (b.modAcc n f).boot = b.boot := (rfl)
@[simp] theorem Bridge.modAcc_fuses (n : Nat) (f : Access → Access) (b : Bridge) : (b.modAcc n f).fuses = b.fuses := (rfl)
@[simp] theorem Bridge.modAcc_pwr (n : Nat) (f : Access → Access) (b : Bridge) : (b.modAcc n f).pwr = b.pwr := (rfl)
@[simp] theorem Bridge.modAcc_tlm (n : Nat) (f : Access → Access) (b : Bridge) : (b.modAcc n f).tlm = b.tlm := (rfl)
@[simp] theorem Bridge.modAcc_scan (n : Nat) (f : Access → Access) (b : Bridge) : (b.modAcc n f).scan = b.scan := (rfl)
@[simp] theorem Bridge.modAcc_citan (n : Nat) (f : Access → Access) (b : Bridge) : (b.modAcc n f).citan = b.citan := (rfl)
@[simp] theorem Bridge.modAcc_cxl (n : Nat) (f : Access → Access) (b : Bridge) : (b.modAcc n f).cxl = b.cxl := (rfl)
@[simp] theorem Bridge.modAcc_out (n : Nat) (f : Access → Access) (b : Bridge) : (b.modAcc n f).out = b.out := (rfl)
@[simp] theorem Bridge.modAcc_lands (n : Nat) (f : Access → Access) (b : Bridge) : (b.modAcc n f).lands = b.lands := (rfl)
@[simp] theorem Bridge.modAcc_mark (n : Nat) (f : Access → Access) (b : Bridge) : (b.modAcc n f).mark = b.mark := (rfl)
@[simp] theorem Bridge.modAcc_free (n : Nat) (f : Access → Access) (b : Bridge) : (b.modAcc n f).free = b.free := (rfl)
-- modPhy
@[simp] theorem Bridge.modPhy_glb (n : Nat) (f : Phy → Phy) (b : Bridge) : (b.modPhy n f).glb = b.glb := (rfl)
@[simp] theorem Bridge.modPhy_herd (n : Nat) (f : Phy → Phy) (b : Bridge) : (b.modPhy n f).herd = b.herd := (rfl)
@[simp] theorem Bridge.modPhy_ten (n : Nat) (f : Phy → Phy) (b : Bridge) : (b.modPhy n f).ten = b.ten := (rfl)
@[simp] theorem Bridge.modPhy_port (n : Nat) (f : Phy → Phy) (b : Bridge) : (b.modPhy n f).port = b.port := (rfl)
@[simp] theorem Bridge.modPhy_faults (n : Nat) (f : Phy → Phy) (b : Bridge) : (b.modPhy n f).faults = b.faults := (rfl)
@[simp] theorem Bridge.modPhy_icu (n : Nat) (f : Phy → Phy) (b : Bridge) : (b.modPhy n f).icu = b.icu := (rfl)
@[simp] theorem Bridge.modPhy_jrn (n : Nat) (f : Phy → Phy) (b : Bridge) : (b.modPhy n f).jrn = b.jrn := (rfl)
@[simp] theorem Bridge.modPhy_image (n : Nat) (f : Phy → Phy) (b : Bridge) : (b.modPhy n f).image = b.image := (rfl)
@[simp] theorem Bridge.modPhy_knl (n : Nat) (f : Phy → Phy) (b : Bridge) : (b.modPhy n f).knl = b.knl := (rfl)
@[simp] theorem Bridge.modPhy_boot (n : Nat) (f : Phy → Phy) (b : Bridge) : (b.modPhy n f).boot = b.boot := (rfl)
@[simp] theorem Bridge.modPhy_fuses (n : Nat) (f : Phy → Phy) (b : Bridge) : (b.modPhy n f).fuses = b.fuses := (rfl)
@[simp] theorem Bridge.modPhy_pwr (n : Nat) (f : Phy → Phy) (b : Bridge) : (b.modPhy n f).pwr = b.pwr := (rfl)
@[simp] theorem Bridge.modPhy_tlm (n : Nat) (f : Phy → Phy) (b : Bridge) : (b.modPhy n f).tlm = b.tlm := (rfl)
@[simp] theorem Bridge.modPhy_scan (n : Nat) (f : Phy → Phy) (b : Bridge) : (b.modPhy n f).scan = b.scan := (rfl)
@[simp] theorem Bridge.modPhy_citan (n : Nat) (f : Phy → Phy) (b : Bridge) : (b.modPhy n f).citan = b.citan := (rfl)
@[simp] theorem Bridge.modPhy_cxl (n : Nat) (f : Phy → Phy) (b : Bridge) : (b.modPhy n f).cxl = b.cxl := (rfl)
@[simp] theorem Bridge.modPhy_out (n : Nat) (f : Phy → Phy) (b : Bridge) : (b.modPhy n f).out = b.out := (rfl)
@[simp] theorem Bridge.modPhy_lands (n : Nat) (f : Phy → Phy) (b : Bridge) : (b.modPhy n f).lands = b.lands := (rfl)
@[simp] theorem Bridge.modPhy_mark (n : Nat) (f : Phy → Phy) (b : Bridge) : (b.modPhy n f).mark = b.mark := (rfl)
@[simp] theorem Bridge.modPhy_free (n : Nat) (f : Phy → Phy) (b : Bridge) : (b.modPhy n f).free = b.free := (rfl)
-- modLl
@[simp] theorem Bridge.modLl_glb (n : Nat) (f : Link → Link) (b : Bridge) : (b.modLl n f).glb = b.glb := (rfl)
@[simp] theorem Bridge.modLl_herd (n : Nat) (f : Link → Link) (b : Bridge) : (b.modLl n f).herd = b.herd := (rfl)
@[simp] theorem Bridge.modLl_ten (n : Nat) (f : Link → Link) (b : Bridge) : (b.modLl n f).ten = b.ten := (rfl)
@[simp] theorem Bridge.modLl_port (n : Nat) (f : Link → Link) (b : Bridge) : (b.modLl n f).port = b.port := (rfl)
@[simp] theorem Bridge.modLl_faults (n : Nat) (f : Link → Link) (b : Bridge) : (b.modLl n f).faults = b.faults := (rfl)
@[simp] theorem Bridge.modLl_icu (n : Nat) (f : Link → Link) (b : Bridge) : (b.modLl n f).icu = b.icu := (rfl)
@[simp] theorem Bridge.modLl_jrn (n : Nat) (f : Link → Link) (b : Bridge) : (b.modLl n f).jrn = b.jrn := (rfl)
@[simp] theorem Bridge.modLl_image (n : Nat) (f : Link → Link) (b : Bridge) : (b.modLl n f).image = b.image := (rfl)
@[simp] theorem Bridge.modLl_knl (n : Nat) (f : Link → Link) (b : Bridge) : (b.modLl n f).knl = b.knl := (rfl)
@[simp] theorem Bridge.modLl_boot (n : Nat) (f : Link → Link) (b : Bridge) : (b.modLl n f).boot = b.boot := (rfl)
@[simp] theorem Bridge.modLl_fuses (n : Nat) (f : Link → Link) (b : Bridge) : (b.modLl n f).fuses = b.fuses := (rfl)
@[simp] theorem Bridge.modLl_pwr (n : Nat) (f : Link → Link) (b : Bridge) : (b.modLl n f).pwr = b.pwr := (rfl)
@[simp] theorem Bridge.modLl_tlm (n : Nat) (f : Link → Link) (b : Bridge) : (b.modLl n f).tlm = b.tlm := (rfl)
@[simp] theorem Bridge.modLl_scan (n : Nat) (f : Link → Link) (b : Bridge) : (b.modLl n f).scan = b.scan := (rfl)
@[simp] theorem Bridge.modLl_citan (n : Nat) (f : Link → Link) (b : Bridge) : (b.modLl n f).citan = b.citan := (rfl)
@[simp] theorem Bridge.modLl_cxl (n : Nat) (f : Link → Link) (b : Bridge) : (b.modLl n f).cxl = b.cxl := (rfl)
@[simp] theorem Bridge.modLl_out (n : Nat) (f : Link → Link) (b : Bridge) : (b.modLl n f).out = b.out := (rfl)
@[simp] theorem Bridge.modLl_lands (n : Nat) (f : Link → Link) (b : Bridge) : (b.modLl n f).lands = b.lands := (rfl)
@[simp] theorem Bridge.modLl_mark (n : Nat) (f : Link → Link) (b : Bridge) : (b.modLl n f).mark = b.mark := (rfl)
@[simp] theorem Bridge.modLl_free (n : Nat) (f : Link → Link) (b : Bridge) : (b.modLl n f).free = b.free := (rfl)
-- modHc
@[simp] theorem Bridge.modHc_glb (n : Nat) (f : HerdCh → HerdCh) (b : Bridge) : (b.modHc n f).glb = b.glb := (rfl)
@[simp] theorem Bridge.modHc_herd (n : Nat) (f : HerdCh → HerdCh) (b : Bridge) : (b.modHc n f).herd = b.herd := (rfl)
@[simp] theorem Bridge.modHc_ten (n : Nat) (f : HerdCh → HerdCh) (b : Bridge) : (b.modHc n f).ten = b.ten := (rfl)
@[simp] theorem Bridge.modHc_port (n : Nat) (f : HerdCh → HerdCh) (b : Bridge) : (b.modHc n f).port = b.port := (rfl)
@[simp] theorem Bridge.modHc_faults (n : Nat) (f : HerdCh → HerdCh) (b : Bridge) : (b.modHc n f).faults = b.faults := (rfl)
@[simp] theorem Bridge.modHc_icu (n : Nat) (f : HerdCh → HerdCh) (b : Bridge) : (b.modHc n f).icu = b.icu := (rfl)
@[simp] theorem Bridge.modHc_jrn (n : Nat) (f : HerdCh → HerdCh) (b : Bridge) : (b.modHc n f).jrn = b.jrn := (rfl)
@[simp] theorem Bridge.modHc_image (n : Nat) (f : HerdCh → HerdCh) (b : Bridge) : (b.modHc n f).image = b.image := (rfl)
@[simp] theorem Bridge.modHc_knl (n : Nat) (f : HerdCh → HerdCh) (b : Bridge) : (b.modHc n f).knl = b.knl := (rfl)
@[simp] theorem Bridge.modHc_boot (n : Nat) (f : HerdCh → HerdCh) (b : Bridge) : (b.modHc n f).boot = b.boot := (rfl)
@[simp] theorem Bridge.modHc_fuses (n : Nat) (f : HerdCh → HerdCh) (b : Bridge) : (b.modHc n f).fuses = b.fuses := (rfl)
@[simp] theorem Bridge.modHc_pwr (n : Nat) (f : HerdCh → HerdCh) (b : Bridge) : (b.modHc n f).pwr = b.pwr := (rfl)
@[simp] theorem Bridge.modHc_tlm (n : Nat) (f : HerdCh → HerdCh) (b : Bridge) : (b.modHc n f).tlm = b.tlm := (rfl)
@[simp] theorem Bridge.modHc_scan (n : Nat) (f : HerdCh → HerdCh) (b : Bridge) : (b.modHc n f).scan = b.scan := (rfl)
@[simp] theorem Bridge.modHc_citan (n : Nat) (f : HerdCh → HerdCh) (b : Bridge) : (b.modHc n f).citan = b.citan := (rfl)
@[simp] theorem Bridge.modHc_cxl (n : Nat) (f : HerdCh → HerdCh) (b : Bridge) : (b.modHc n f).cxl = b.cxl := (rfl)
@[simp] theorem Bridge.modHc_out (n : Nat) (f : HerdCh → HerdCh) (b : Bridge) : (b.modHc n f).out = b.out := (rfl)
@[simp] theorem Bridge.modHc_lands (n : Nat) (f : HerdCh → HerdCh) (b : Bridge) : (b.modHc n f).lands = b.lands := (rfl)
@[simp] theorem Bridge.modHc_mark (n : Nat) (f : HerdCh → HerdCh) (b : Bridge) : (b.modHc n f).mark = b.mark := (rfl)
@[simp] theorem Bridge.modHc_free (n : Nat) (f : HerdCh → HerdCh) (b : Bridge) : (b.modHc n f).free = b.free := (rfl)
-- modSvc
@[simp] theorem Bridge.modSvc_glb (n : Nat) (f : Service → Service) (b : Bridge) : (b.modSvc n f).glb = b.glb := (rfl)
@[simp] theorem Bridge.modSvc_herd (n : Nat) (f : Service → Service) (b : Bridge) : (b.modSvc n f).herd = b.herd := (rfl)
@[simp] theorem Bridge.modSvc_ten (n : Nat) (f : Service → Service) (b : Bridge) : (b.modSvc n f).ten = b.ten := (rfl)
@[simp] theorem Bridge.modSvc_port (n : Nat) (f : Service → Service) (b : Bridge) : (b.modSvc n f).port = b.port := (rfl)
@[simp] theorem Bridge.modSvc_faults (n : Nat) (f : Service → Service) (b : Bridge) : (b.modSvc n f).faults = b.faults := (rfl)
@[simp] theorem Bridge.modSvc_icu (n : Nat) (f : Service → Service) (b : Bridge) : (b.modSvc n f).icu = b.icu := (rfl)
@[simp] theorem Bridge.modSvc_jrn (n : Nat) (f : Service → Service) (b : Bridge) : (b.modSvc n f).jrn = b.jrn := (rfl)
@[simp] theorem Bridge.modSvc_image (n : Nat) (f : Service → Service) (b : Bridge) : (b.modSvc n f).image = b.image := (rfl)
@[simp] theorem Bridge.modSvc_knl (n : Nat) (f : Service → Service) (b : Bridge) : (b.modSvc n f).knl = b.knl := (rfl)
@[simp] theorem Bridge.modSvc_boot (n : Nat) (f : Service → Service) (b : Bridge) : (b.modSvc n f).boot = b.boot := (rfl)
@[simp] theorem Bridge.modSvc_fuses (n : Nat) (f : Service → Service) (b : Bridge) : (b.modSvc n f).fuses = b.fuses := (rfl)
@[simp] theorem Bridge.modSvc_pwr (n : Nat) (f : Service → Service) (b : Bridge) : (b.modSvc n f).pwr = b.pwr := (rfl)
@[simp] theorem Bridge.modSvc_tlm (n : Nat) (f : Service → Service) (b : Bridge) : (b.modSvc n f).tlm = b.tlm := (rfl)
@[simp] theorem Bridge.modSvc_scan (n : Nat) (f : Service → Service) (b : Bridge) : (b.modSvc n f).scan = b.scan := (rfl)
@[simp] theorem Bridge.modSvc_citan (n : Nat) (f : Service → Service) (b : Bridge) : (b.modSvc n f).citan = b.citan := (rfl)
@[simp] theorem Bridge.modSvc_cxl (n : Nat) (f : Service → Service) (b : Bridge) : (b.modSvc n f).cxl = b.cxl := (rfl)
@[simp] theorem Bridge.modSvc_out (n : Nat) (f : Service → Service) (b : Bridge) : (b.modSvc n f).out = b.out := (rfl)
@[simp] theorem Bridge.modSvc_lands (n : Nat) (f : Service → Service) (b : Bridge) : (b.modSvc n f).lands = b.lands := (rfl)
@[simp] theorem Bridge.modSvc_mark (n : Nat) (f : Service → Service) (b : Bridge) : (b.modSvc n f).mark = b.mark := (rfl)
@[simp] theorem Bridge.modSvc_free (n : Nat) (f : Service → Service) (b : Bridge) : (b.modSvc n f).free = b.free := (rfl)
-- modRtv
@[simp] theorem Bridge.modRtv_glb (n : Nat) (f : Rtv → Rtv) (b : Bridge) : (b.modRtv n f).glb = b.glb := (rfl)
@[simp] theorem Bridge.modRtv_herd (n : Nat) (f : Rtv → Rtv) (b : Bridge) : (b.modRtv n f).herd = b.herd := (rfl)
@[simp] theorem Bridge.modRtv_ten (n : Nat) (f : Rtv → Rtv) (b : Bridge) : (b.modRtv n f).ten = b.ten := (rfl)
@[simp] theorem Bridge.modRtv_port (n : Nat) (f : Rtv → Rtv) (b : Bridge) : (b.modRtv n f).port = b.port := (rfl)
@[simp] theorem Bridge.modRtv_faults (n : Nat) (f : Rtv → Rtv) (b : Bridge) : (b.modRtv n f).faults = b.faults := (rfl)
@[simp] theorem Bridge.modRtv_icu (n : Nat) (f : Rtv → Rtv) (b : Bridge) : (b.modRtv n f).icu = b.icu := (rfl)
@[simp] theorem Bridge.modRtv_jrn (n : Nat) (f : Rtv → Rtv) (b : Bridge) : (b.modRtv n f).jrn = b.jrn := (rfl)
@[simp] theorem Bridge.modRtv_image (n : Nat) (f : Rtv → Rtv) (b : Bridge) : (b.modRtv n f).image = b.image := (rfl)
@[simp] theorem Bridge.modRtv_knl (n : Nat) (f : Rtv → Rtv) (b : Bridge) : (b.modRtv n f).knl = b.knl := (rfl)
@[simp] theorem Bridge.modRtv_boot (n : Nat) (f : Rtv → Rtv) (b : Bridge) : (b.modRtv n f).boot = b.boot := (rfl)
@[simp] theorem Bridge.modRtv_fuses (n : Nat) (f : Rtv → Rtv) (b : Bridge) : (b.modRtv n f).fuses = b.fuses := (rfl)
@[simp] theorem Bridge.modRtv_pwr (n : Nat) (f : Rtv → Rtv) (b : Bridge) : (b.modRtv n f).pwr = b.pwr := (rfl)
@[simp] theorem Bridge.modRtv_tlm (n : Nat) (f : Rtv → Rtv) (b : Bridge) : (b.modRtv n f).tlm = b.tlm := (rfl)
@[simp] theorem Bridge.modRtv_scan (n : Nat) (f : Rtv → Rtv) (b : Bridge) : (b.modRtv n f).scan = b.scan := (rfl)
@[simp] theorem Bridge.modRtv_citan (n : Nat) (f : Rtv → Rtv) (b : Bridge) : (b.modRtv n f).citan = b.citan := (rfl)
@[simp] theorem Bridge.modRtv_cxl (n : Nat) (f : Rtv → Rtv) (b : Bridge) : (b.modRtv n f).cxl = b.cxl := (rfl)
@[simp] theorem Bridge.modRtv_out (n : Nat) (f : Rtv → Rtv) (b : Bridge) : (b.modRtv n f).out = b.out := (rfl)
@[simp] theorem Bridge.modRtv_lands (n : Nat) (f : Rtv → Rtv) (b : Bridge) : (b.modRtv n f).lands = b.lands := (rfl)
@[simp] theorem Bridge.modRtv_mark (n : Nat) (f : Rtv → Rtv) (b : Bridge) : (b.modRtv n f).mark = b.mark := (rfl)
@[simp] theorem Bridge.modRtv_free (n : Nat) (f : Rtv → Rtv) (b : Bridge) : (b.modRtv n f).free = b.free := (rfl)
-- modLane
@[simp] theorem Bridge.modLane_glb (n k : Nat) (f : Lane → Lane) (b : Bridge) : (b.modLane n k f).glb = b.glb := (rfl)
@[simp] theorem Bridge.modLane_herd (n k : Nat) (f : Lane → Lane) (b : Bridge) : (b.modLane n k f).herd = b.herd := (rfl)
@[simp] theorem Bridge.modLane_ten (n k : Nat) (f : Lane → Lane) (b : Bridge) : (b.modLane n k f).ten = b.ten := (rfl)
@[simp] theorem Bridge.modLane_port (n k : Nat) (f : Lane → Lane) (b : Bridge) : (b.modLane n k f).port = b.port := (rfl)
@[simp] theorem Bridge.modLane_faults (n k : Nat) (f : Lane → Lane) (b : Bridge) : (b.modLane n k f).faults = b.faults := (rfl)
@[simp] theorem Bridge.modLane_icu (n k : Nat) (f : Lane → Lane) (b : Bridge) : (b.modLane n k f).icu = b.icu := (rfl)
@[simp] theorem Bridge.modLane_jrn (n k : Nat) (f : Lane → Lane) (b : Bridge) : (b.modLane n k f).jrn = b.jrn := (rfl)
@[simp] theorem Bridge.modLane_image (n k : Nat) (f : Lane → Lane) (b : Bridge) : (b.modLane n k f).image = b.image := (rfl)
@[simp] theorem Bridge.modLane_knl (n k : Nat) (f : Lane → Lane) (b : Bridge) : (b.modLane n k f).knl = b.knl := (rfl)
@[simp] theorem Bridge.modLane_boot (n k : Nat) (f : Lane → Lane) (b : Bridge) : (b.modLane n k f).boot = b.boot := (rfl)
@[simp] theorem Bridge.modLane_fuses (n k : Nat) (f : Lane → Lane) (b : Bridge) : (b.modLane n k f).fuses = b.fuses := (rfl)
@[simp] theorem Bridge.modLane_pwr (n k : Nat) (f : Lane → Lane) (b : Bridge) : (b.modLane n k f).pwr = b.pwr := (rfl)
@[simp] theorem Bridge.modLane_tlm (n k : Nat) (f : Lane → Lane) (b : Bridge) : (b.modLane n k f).tlm = b.tlm := (rfl)
@[simp] theorem Bridge.modLane_scan (n k : Nat) (f : Lane → Lane) (b : Bridge) : (b.modLane n k f).scan = b.scan := (rfl)
@[simp] theorem Bridge.modLane_citan (n k : Nat) (f : Lane → Lane) (b : Bridge) : (b.modLane n k f).citan = b.citan := (rfl)
@[simp] theorem Bridge.modLane_cxl (n k : Nat) (f : Lane → Lane) (b : Bridge) : (b.modLane n k f).cxl = b.cxl := (rfl)
@[simp] theorem Bridge.modLane_out (n k : Nat) (f : Lane → Lane) (b : Bridge) : (b.modLane n k f).out = b.out := (rfl)
@[simp] theorem Bridge.modLane_lands (n k : Nat) (f : Lane → Lane) (b : Bridge) : (b.modLane n k f).lands = b.lands := (rfl)
@[simp] theorem Bridge.modLane_mark (n k : Nat) (f : Lane → Lane) (b : Bridge) : (b.modLane n k f).mark = b.mark := (rfl)
@[simp] theorem Bridge.modLane_free (n k : Nat) (f : Lane → Lane) (b : Bridge) : (b.modLane n k f).free = b.free := (rfl)
-- modRing
@[simp] theorem Bridge.modRing_glb (fn k : Nat) (f : Ring → Ring) (b : Bridge) : (b.modRing fn k f).glb = b.glb := (rfl)
@[simp] theorem Bridge.modRing_ch (fn k : Nat) (f : Ring → Ring) (b : Bridge) : (b.modRing fn k f).ch = b.ch := (rfl)
@[simp] theorem Bridge.modRing_herd (fn k : Nat) (f : Ring → Ring) (b : Bridge) : (b.modRing fn k f).herd = b.herd := (rfl)
@[simp] theorem Bridge.modRing_ten (fn k : Nat) (f : Ring → Ring) (b : Bridge) : (b.modRing fn k f).ten = b.ten := (rfl)
@[simp] theorem Bridge.modRing_port (fn k : Nat) (f : Ring → Ring) (b : Bridge) : (b.modRing fn k f).port = b.port := (rfl)
@[simp] theorem Bridge.modRing_faults (fn k : Nat) (f : Ring → Ring) (b : Bridge) : (b.modRing fn k f).faults = b.faults := (rfl)
@[simp] theorem Bridge.modRing_icu (fn k : Nat) (f : Ring → Ring) (b : Bridge) : (b.modRing fn k f).icu = b.icu := (rfl)
@[simp] theorem Bridge.modRing_jrn (fn k : Nat) (f : Ring → Ring) (b : Bridge) : (b.modRing fn k f).jrn = b.jrn := (rfl)
@[simp] theorem Bridge.modRing_image (fn k : Nat) (f : Ring → Ring) (b : Bridge) : (b.modRing fn k f).image = b.image := (rfl)
@[simp] theorem Bridge.modRing_knl (fn k : Nat) (f : Ring → Ring) (b : Bridge) : (b.modRing fn k f).knl = b.knl := (rfl)
@[simp] theorem Bridge.modRing_boot (fn k : Nat) (f : Ring → Ring) (b : Bridge) : (b.modRing fn k f).boot = b.boot := (rfl)
@[simp] theorem Bridge.modRing_fuses (fn k : Nat) (f : Ring → Ring) (b : Bridge) : (b.modRing fn k f).fuses = b.fuses := (rfl)
@[simp] theorem Bridge.modRing_pwr (fn k : Nat) (f : Ring → Ring) (b : Bridge) : (b.modRing fn k f).pwr = b.pwr := (rfl)
@[simp] theorem Bridge.modRing_tlm (fn k : Nat) (f : Ring → Ring) (b : Bridge) : (b.modRing fn k f).tlm = b.tlm := (rfl)
@[simp] theorem Bridge.modRing_citan (fn k : Nat) (f : Ring → Ring) (b : Bridge) : (b.modRing fn k f).citan = b.citan := (rfl)
@[simp] theorem Bridge.modRing_cxl (fn k : Nat) (f : Ring → Ring) (b : Bridge) : (b.modRing fn k f).cxl = b.cxl := (rfl)
@[simp] theorem Bridge.modRing_out (fn k : Nat) (f : Ring → Ring) (b : Bridge) : (b.modRing fn k f).out = b.out := (rfl)
@[simp] theorem Bridge.modRing_lands (fn k : Nat) (f : Ring → Ring) (b : Bridge) : (b.modRing fn k f).lands = b.lands := (rfl)
@[simp] theorem Bridge.modRing_mark (fn k : Nat) (f : Ring → Ring) (b : Bridge) : (b.modRing fn k f).mark = b.mark := (rfl)
@[simp] theorem Bridge.modRing_free (fn k : Nat) (f : Ring → Ring) (b : Bridge) : (b.modRing fn k f).free = b.free := (rfl)
-- modJob
@[simp] theorem Bridge.modJob_glb (id : Nat) (f : Job → Job) (b : Bridge) : (b.modJob id f).glb = b.glb := (rfl)
@[simp] theorem Bridge.modJob_ch (id : Nat) (f : Job → Job) (b : Bridge) : (b.modJob id f).ch = b.ch := (rfl)
@[simp] theorem Bridge.modJob_herd (id : Nat) (f : Job → Job) (b : Bridge) : (b.modJob id f).herd = b.herd := (rfl)
@[simp] theorem Bridge.modJob_ten (id : Nat) (f : Job → Job) (b : Bridge) : (b.modJob id f).ten = b.ten := (rfl)
@[simp] theorem Bridge.modJob_port (id : Nat) (f : Job → Job) (b : Bridge) : (b.modJob id f).port = b.port := (rfl)
@[simp] theorem Bridge.modJob_faults (id : Nat) (f : Job → Job) (b : Bridge) : (b.modJob id f).faults = b.faults := (rfl)
@[simp] theorem Bridge.modJob_icu (id : Nat) (f : Job → Job) (b : Bridge) : (b.modJob id f).icu = b.icu := (rfl)
@[simp] theorem Bridge.modJob_jrn (id : Nat) (f : Job → Job) (b : Bridge) : (b.modJob id f).jrn = b.jrn := (rfl)
@[simp] theorem Bridge.modJob_image (id : Nat) (f : Job → Job) (b : Bridge) : (b.modJob id f).image = b.image := (rfl)
@[simp] theorem Bridge.modJob_knl (id : Nat) (f : Job → Job) (b : Bridge) : (b.modJob id f).knl = b.knl := (rfl)
@[simp] theorem Bridge.modJob_boot (id : Nat) (f : Job → Job) (b : Bridge) : (b.modJob id f).boot = b.boot := (rfl)
@[simp] theorem Bridge.modJob_fuses (id : Nat) (f : Job → Job) (b : Bridge) : (b.modJob id f).fuses = b.fuses := (rfl)
@[simp] theorem Bridge.modJob_pwr (id : Nat) (f : Job → Job) (b : Bridge) : (b.modJob id f).pwr = b.pwr := (rfl)
@[simp] theorem Bridge.modJob_tlm (id : Nat) (f : Job → Job) (b : Bridge) : (b.modJob id f).tlm = b.tlm := (rfl)
@[simp] theorem Bridge.modJob_citan (id : Nat) (f : Job → Job) (b : Bridge) : (b.modJob id f).citan = b.citan := (rfl)
@[simp] theorem Bridge.modJob_cxl (id : Nat) (f : Job → Job) (b : Bridge) : (b.modJob id f).cxl = b.cxl := (rfl)
@[simp] theorem Bridge.modJob_out (id : Nat) (f : Job → Job) (b : Bridge) : (b.modJob id f).out = b.out := (rfl)
@[simp] theorem Bridge.modJob_lands (id : Nat) (f : Job → Job) (b : Bridge) : (b.modJob id f).lands = b.lands := (rfl)
@[simp] theorem Bridge.modJob_mark (id : Nat) (f : Job → Job) (b : Bridge) : (b.modJob id f).mark = b.mark := (rfl)
@[simp] theorem Bridge.modJob_free (id : Nat) (f : Job → Job) (b : Bridge) : (b.modJob id f).free = b.free := (rfl)
-- modFetch
@[simp] theorem Bridge.modFetch_glb (id : Nat) (f : Fetch → Fetch) (b : Bridge) : (b.modFetch id f).glb = b.glb := (rfl)
@[simp] theorem Bridge.modFetch_ch (id : Nat) (f : Fetch → Fetch) (b : Bridge) : (b.modFetch id f).ch = b.ch := (rfl)
@[simp] theorem Bridge.modFetch_herd (id : Nat) (f : Fetch → Fetch) (b : Bridge) : (b.modFetch id f).herd = b.herd := (rfl)
@[simp] theorem Bridge.modFetch_ten (id : Nat) (f : Fetch → Fetch) (b : Bridge) : (b.modFetch id f).ten = b.ten := (rfl)
@[simp] theorem Bridge.modFetch_port (id : Nat) (f : Fetch → Fetch) (b : Bridge) : (b.modFetch id f).port = b.port := (rfl)
@[simp] theorem Bridge.modFetch_faults (id : Nat) (f : Fetch → Fetch) (b : Bridge) : (b.modFetch id f).faults = b.faults := (rfl)
@[simp] theorem Bridge.modFetch_icu (id : Nat) (f : Fetch → Fetch) (b : Bridge) : (b.modFetch id f).icu = b.icu := (rfl)
@[simp] theorem Bridge.modFetch_jrn (id : Nat) (f : Fetch → Fetch) (b : Bridge) : (b.modFetch id f).jrn = b.jrn := (rfl)
@[simp] theorem Bridge.modFetch_image (id : Nat) (f : Fetch → Fetch) (b : Bridge) : (b.modFetch id f).image = b.image := (rfl)
@[simp] theorem Bridge.modFetch_knl (id : Nat) (f : Fetch → Fetch) (b : Bridge) : (b.modFetch id f).knl = b.knl := (rfl)
@[simp] theorem Bridge.modFetch_boot (id : Nat) (f : Fetch → Fetch) (b : Bridge) : (b.modFetch id f).boot = b.boot := (rfl)
@[simp] theorem Bridge.modFetch_fuses (id : Nat) (f : Fetch → Fetch) (b : Bridge) : (b.modFetch id f).fuses = b.fuses := (rfl)
@[simp] theorem Bridge.modFetch_pwr (id : Nat) (f : Fetch → Fetch) (b : Bridge) : (b.modFetch id f).pwr = b.pwr := (rfl)
@[simp] theorem Bridge.modFetch_tlm (id : Nat) (f : Fetch → Fetch) (b : Bridge) : (b.modFetch id f).tlm = b.tlm := (rfl)
@[simp] theorem Bridge.modFetch_citan (id : Nat) (f : Fetch → Fetch) (b : Bridge) : (b.modFetch id f).citan = b.citan := (rfl)
@[simp] theorem Bridge.modFetch_cxl (id : Nat) (f : Fetch → Fetch) (b : Bridge) : (b.modFetch id f).cxl = b.cxl := (rfl)
@[simp] theorem Bridge.modFetch_out (id : Nat) (f : Fetch → Fetch) (b : Bridge) : (b.modFetch id f).out = b.out := (rfl)
@[simp] theorem Bridge.modFetch_lands (id : Nat) (f : Fetch → Fetch) (b : Bridge) : (b.modFetch id f).lands = b.lands := (rfl)
@[simp] theorem Bridge.modFetch_mark (id : Nat) (f : Fetch → Fetch) (b : Bridge) : (b.modFetch id f).mark = b.mark := (rfl)
@[simp] theorem Bridge.modFetch_free (id : Nat) (f : Fetch → Fetch) (b : Bridge) : (b.modFetch id f).free = b.free := (rfl)
-- modSem
@[simp] theorem Bridge.modSem_glb (i : Nat) (f : Sem → Sem) (b : Bridge) : (b.modSem i f).glb = b.glb := (rfl)
@[simp] theorem Bridge.modSem_ch (i : Nat) (f : Sem → Sem) (b : Bridge) : (b.modSem i f).ch = b.ch := (rfl)
@[simp] theorem Bridge.modSem_herd (i : Nat) (f : Sem → Sem) (b : Bridge) : (b.modSem i f).herd = b.herd := (rfl)
@[simp] theorem Bridge.modSem_port (i : Nat) (f : Sem → Sem) (b : Bridge) : (b.modSem i f).port = b.port := (rfl)
@[simp] theorem Bridge.modSem_faults (i : Nat) (f : Sem → Sem) (b : Bridge) : (b.modSem i f).faults = b.faults := (rfl)
@[simp] theorem Bridge.modSem_icu (i : Nat) (f : Sem → Sem) (b : Bridge) : (b.modSem i f).icu = b.icu := (rfl)
@[simp] theorem Bridge.modSem_jrn (i : Nat) (f : Sem → Sem) (b : Bridge) : (b.modSem i f).jrn = b.jrn := (rfl)
@[simp] theorem Bridge.modSem_image (i : Nat) (f : Sem → Sem) (b : Bridge) : (b.modSem i f).image = b.image := (rfl)
@[simp] theorem Bridge.modSem_knl (i : Nat) (f : Sem → Sem) (b : Bridge) : (b.modSem i f).knl = b.knl := (rfl)
@[simp] theorem Bridge.modSem_boot (i : Nat) (f : Sem → Sem) (b : Bridge) : (b.modSem i f).boot = b.boot := (rfl)
@[simp] theorem Bridge.modSem_fuses (i : Nat) (f : Sem → Sem) (b : Bridge) : (b.modSem i f).fuses = b.fuses := (rfl)
@[simp] theorem Bridge.modSem_pwr (i : Nat) (f : Sem → Sem) (b : Bridge) : (b.modSem i f).pwr = b.pwr := (rfl)
@[simp] theorem Bridge.modSem_tlm (i : Nat) (f : Sem → Sem) (b : Bridge) : (b.modSem i f).tlm = b.tlm := (rfl)
@[simp] theorem Bridge.modSem_scan (i : Nat) (f : Sem → Sem) (b : Bridge) : (b.modSem i f).scan = b.scan := (rfl)
@[simp] theorem Bridge.modSem_citan (i : Nat) (f : Sem → Sem) (b : Bridge) : (b.modSem i f).citan = b.citan := (rfl)
@[simp] theorem Bridge.modSem_cxl (i : Nat) (f : Sem → Sem) (b : Bridge) : (b.modSem i f).cxl = b.cxl := (rfl)
@[simp] theorem Bridge.modSem_out (i : Nat) (f : Sem → Sem) (b : Bridge) : (b.modSem i f).out = b.out := (rfl)
@[simp] theorem Bridge.modSem_lands (i : Nat) (f : Sem → Sem) (b : Bridge) : (b.modSem i f).lands = b.lands := (rfl)
@[simp] theorem Bridge.modSem_mark (i : Nat) (f : Sem → Sem) (b : Bridge) : (b.modSem i f).mark = b.mark := (rfl)
@[simp] theorem Bridge.modSem_free (i : Nat) (f : Sem → Sem) (b : Bridge) : (b.modSem i f).free = b.free := (rfl)
-- modCopy
@[simp] theorem Bridge.modCopy_glb (c : Nat) (f : Copy → Copy) (b : Bridge) : (b.modCopy c f).glb = b.glb := (rfl)
@[simp] theorem Bridge.modCopy_ch (c : Nat) (f : Copy → Copy) (b : Bridge) : (b.modCopy c f).ch = b.ch := (rfl)
@[simp] theorem Bridge.modCopy_ten (c : Nat) (f : Copy → Copy) (b : Bridge) : (b.modCopy c f).ten = b.ten := (rfl)
@[simp] theorem Bridge.modCopy_port (c : Nat) (f : Copy → Copy) (b : Bridge) : (b.modCopy c f).port = b.port := (rfl)
@[simp] theorem Bridge.modCopy_faults (c : Nat) (f : Copy → Copy) (b : Bridge) : (b.modCopy c f).faults = b.faults := (rfl)
@[simp] theorem Bridge.modCopy_icu (c : Nat) (f : Copy → Copy) (b : Bridge) : (b.modCopy c f).icu = b.icu := (rfl)
@[simp] theorem Bridge.modCopy_jrn (c : Nat) (f : Copy → Copy) (b : Bridge) : (b.modCopy c f).jrn = b.jrn := (rfl)
@[simp] theorem Bridge.modCopy_image (c : Nat) (f : Copy → Copy) (b : Bridge) : (b.modCopy c f).image = b.image := (rfl)
@[simp] theorem Bridge.modCopy_knl (c : Nat) (f : Copy → Copy) (b : Bridge) : (b.modCopy c f).knl = b.knl := (rfl)
@[simp] theorem Bridge.modCopy_boot (c : Nat) (f : Copy → Copy) (b : Bridge) : (b.modCopy c f).boot = b.boot := (rfl)
@[simp] theorem Bridge.modCopy_fuses (c : Nat) (f : Copy → Copy) (b : Bridge) : (b.modCopy c f).fuses = b.fuses := (rfl)
@[simp] theorem Bridge.modCopy_pwr (c : Nat) (f : Copy → Copy) (b : Bridge) : (b.modCopy c f).pwr = b.pwr := (rfl)
@[simp] theorem Bridge.modCopy_tlm (c : Nat) (f : Copy → Copy) (b : Bridge) : (b.modCopy c f).tlm = b.tlm := (rfl)
@[simp] theorem Bridge.modCopy_scan (c : Nat) (f : Copy → Copy) (b : Bridge) : (b.modCopy c f).scan = b.scan := (rfl)
@[simp] theorem Bridge.modCopy_citan (c : Nat) (f : Copy → Copy) (b : Bridge) : (b.modCopy c f).citan = b.citan := (rfl)
@[simp] theorem Bridge.modCopy_cxl (c : Nat) (f : Copy → Copy) (b : Bridge) : (b.modCopy c f).cxl = b.cxl := (rfl)
@[simp] theorem Bridge.modCopy_out (c : Nat) (f : Copy → Copy) (b : Bridge) : (b.modCopy c f).out = b.out := (rfl)
@[simp] theorem Bridge.modCopy_lands (c : Nat) (f : Copy → Copy) (b : Bridge) : (b.modCopy c f).lands = b.lands := (rfl)
@[simp] theorem Bridge.modCopy_mark (c : Nat) (f : Copy → Copy) (b : Bridge) : (b.modCopy c f).mark = b.mark := (rfl)
@[simp] theorem Bridge.modCopy_free (c : Nat) (f : Copy → Copy) (b : Bridge) : (b.modCopy c f).free = b.free := (rfl)
-- modFs
@[simp] theorem Bridge.modFs_glb (k i : Nat) (f : FaultSrc → FaultSrc) (b : Bridge) : (b.modFs k i f).glb = b.glb := (rfl)
@[simp] theorem Bridge.modFs_ch (k i : Nat) (f : FaultSrc → FaultSrc) (b : Bridge) : (b.modFs k i f).ch = b.ch := (rfl)
@[simp] theorem Bridge.modFs_herd (k i : Nat) (f : FaultSrc → FaultSrc) (b : Bridge) : (b.modFs k i f).herd = b.herd := (rfl)
@[simp] theorem Bridge.modFs_ten (k i : Nat) (f : FaultSrc → FaultSrc) (b : Bridge) : (b.modFs k i f).ten = b.ten := (rfl)
@[simp] theorem Bridge.modFs_port (k i : Nat) (f : FaultSrc → FaultSrc) (b : Bridge) : (b.modFs k i f).port = b.port := (rfl)
@[simp] theorem Bridge.modFs_icu (k i : Nat) (f : FaultSrc → FaultSrc) (b : Bridge) : (b.modFs k i f).icu = b.icu := (rfl)
@[simp] theorem Bridge.modFs_jrn (k i : Nat) (f : FaultSrc → FaultSrc) (b : Bridge) : (b.modFs k i f).jrn = b.jrn := (rfl)
@[simp] theorem Bridge.modFs_image (k i : Nat) (f : FaultSrc → FaultSrc) (b : Bridge) : (b.modFs k i f).image = b.image := (rfl)
@[simp] theorem Bridge.modFs_knl (k i : Nat) (f : FaultSrc → FaultSrc) (b : Bridge) : (b.modFs k i f).knl = b.knl := (rfl)
@[simp] theorem Bridge.modFs_boot (k i : Nat) (f : FaultSrc → FaultSrc) (b : Bridge) : (b.modFs k i f).boot = b.boot := (rfl)
@[simp] theorem Bridge.modFs_fuses (k i : Nat) (f : FaultSrc → FaultSrc) (b : Bridge) : (b.modFs k i f).fuses = b.fuses := (rfl)
@[simp] theorem Bridge.modFs_pwr (k i : Nat) (f : FaultSrc → FaultSrc) (b : Bridge) : (b.modFs k i f).pwr = b.pwr := (rfl)
@[simp] theorem Bridge.modFs_tlm (k i : Nat) (f : FaultSrc → FaultSrc) (b : Bridge) : (b.modFs k i f).tlm = b.tlm := (rfl)
@[simp] theorem Bridge.modFs_scan (k i : Nat) (f : FaultSrc → FaultSrc) (b : Bridge) : (b.modFs k i f).scan = b.scan := (rfl)
@[simp] theorem Bridge.modFs_citan (k i : Nat) (f : FaultSrc → FaultSrc) (b : Bridge) : (b.modFs k i f).citan = b.citan := (rfl)
@[simp] theorem Bridge.modFs_cxl (k i : Nat) (f : FaultSrc → FaultSrc) (b : Bridge) : (b.modFs k i f).cxl = b.cxl := (rfl)
@[simp] theorem Bridge.modFs_out (k i : Nat) (f : FaultSrc → FaultSrc) (b : Bridge) : (b.modFs k i f).out = b.out := (rfl)
@[simp] theorem Bridge.modFs_lands (k i : Nat) (f : FaultSrc → FaultSrc) (b : Bridge) : (b.modFs k i f).lands = b.lands := (rfl)
@[simp] theorem Bridge.modFs_mark (k i : Nat) (f : FaultSrc → FaultSrc) (b : Bridge) : (b.modFs k i f).mark = b.mark := (rfl)
@[simp] theorem Bridge.modFs_free (k i : Nat) (f : FaultSrc → FaultSrc) (b : Bridge) : (b.modFs k i f).free = b.free := (rfl)
-- land
@[simp] theorem Bridge.land_glb (frame line : Nat) (c : Option Line) (b : Bridge) : (b.land frame line c).glb = b.glb := (rfl)
@[simp] theorem Bridge.land_ch (frame line : Nat) (c : Option Line) (b : Bridge) : (b.land frame line c).ch = b.ch := (rfl)
@[simp] theorem Bridge.land_herd (frame line : Nat) (c : Option Line) (b : Bridge) : (b.land frame line c).herd = b.herd := (rfl)
@[simp] theorem Bridge.land_ten (frame line : Nat) (c : Option Line) (b : Bridge) : (b.land frame line c).ten = b.ten := (rfl)
@[simp] theorem Bridge.land_port (frame line : Nat) (c : Option Line) (b : Bridge) : (b.land frame line c).port = b.port := (rfl)
@[simp] theorem Bridge.land_faults (frame line : Nat) (c : Option Line) (b : Bridge) : (b.land frame line c).faults = b.faults := (rfl)
@[simp] theorem Bridge.land_icu (frame line : Nat) (c : Option Line) (b : Bridge) : (b.land frame line c).icu = b.icu := (rfl)
@[simp] theorem Bridge.land_jrn (frame line : Nat) (c : Option Line) (b : Bridge) : (b.land frame line c).jrn = b.jrn := (rfl)
@[simp] theorem Bridge.land_image (frame line : Nat) (c : Option Line) (b : Bridge) : (b.land frame line c).image = b.image := (rfl)
@[simp] theorem Bridge.land_knl (frame line : Nat) (c : Option Line) (b : Bridge) : (b.land frame line c).knl = b.knl := (rfl)
@[simp] theorem Bridge.land_boot (frame line : Nat) (c : Option Line) (b : Bridge) : (b.land frame line c).boot = b.boot := (rfl)
@[simp] theorem Bridge.land_fuses (frame line : Nat) (c : Option Line) (b : Bridge) : (b.land frame line c).fuses = b.fuses := (rfl)
@[simp] theorem Bridge.land_pwr (frame line : Nat) (c : Option Line) (b : Bridge) : (b.land frame line c).pwr = b.pwr := (rfl)
@[simp] theorem Bridge.land_tlm (frame line : Nat) (c : Option Line) (b : Bridge) : (b.land frame line c).tlm = b.tlm := (rfl)
@[simp] theorem Bridge.land_scan (frame line : Nat) (c : Option Line) (b : Bridge) : (b.land frame line c).scan = b.scan := (rfl)
@[simp] theorem Bridge.land_citan (frame line : Nat) (c : Option Line) (b : Bridge) : (b.land frame line c).citan = b.citan := (rfl)
@[simp] theorem Bridge.land_cxl (frame line : Nat) (c : Option Line) (b : Bridge) : (b.land frame line c).cxl = b.cxl := (rfl)
@[simp] theorem Bridge.land_out (frame line : Nat) (c : Option Line) (b : Bridge) : (b.land frame line c).out = b.out := (rfl)
@[simp] theorem Bridge.land_mark (frame line : Nat) (c : Option Line) (b : Bridge) : (b.land frame line c).mark = b.mark := (rfl)
@[simp] theorem Bridge.land_free (frame line : Nat) (c : Option Line) (b : Bridge) : (b.land frame line c).free = b.free := (rfl)
-- modMark
@[simp] theorem Bridge.modMark_glb (f : Mark → Mark) (b : Bridge) : (b.modMark f).glb = b.glb := (rfl)
@[simp] theorem Bridge.modMark_ch (f : Mark → Mark) (b : Bridge) : (b.modMark f).ch = b.ch := (rfl)
@[simp] theorem Bridge.modMark_herd (f : Mark → Mark) (b : Bridge) : (b.modMark f).herd = b.herd := (rfl)
@[simp] theorem Bridge.modMark_ten (f : Mark → Mark) (b : Bridge) : (b.modMark f).ten = b.ten := (rfl)
@[simp] theorem Bridge.modMark_port (f : Mark → Mark) (b : Bridge) : (b.modMark f).port = b.port := (rfl)
@[simp] theorem Bridge.modMark_faults (f : Mark → Mark) (b : Bridge) : (b.modMark f).faults = b.faults := (rfl)
@[simp] theorem Bridge.modMark_icu (f : Mark → Mark) (b : Bridge) : (b.modMark f).icu = b.icu := (rfl)
@[simp] theorem Bridge.modMark_jrn (f : Mark → Mark) (b : Bridge) : (b.modMark f).jrn = b.jrn := (rfl)
@[simp] theorem Bridge.modMark_image (f : Mark → Mark) (b : Bridge) : (b.modMark f).image = b.image := (rfl)
@[simp] theorem Bridge.modMark_knl (f : Mark → Mark) (b : Bridge) : (b.modMark f).knl = b.knl := (rfl)
@[simp] theorem Bridge.modMark_boot (f : Mark → Mark) (b : Bridge) : (b.modMark f).boot = b.boot := (rfl)
@[simp] theorem Bridge.modMark_fuses (f : Mark → Mark) (b : Bridge) : (b.modMark f).fuses = b.fuses := (rfl)
@[simp] theorem Bridge.modMark_pwr (f : Mark → Mark) (b : Bridge) : (b.modMark f).pwr = b.pwr := (rfl)
@[simp] theorem Bridge.modMark_tlm (f : Mark → Mark) (b : Bridge) : (b.modMark f).tlm = b.tlm := (rfl)
@[simp] theorem Bridge.modMark_scan (f : Mark → Mark) (b : Bridge) : (b.modMark f).scan = b.scan := (rfl)
@[simp] theorem Bridge.modMark_citan (f : Mark → Mark) (b : Bridge) : (b.modMark f).citan = b.citan := (rfl)
@[simp] theorem Bridge.modMark_cxl (f : Mark → Mark) (b : Bridge) : (b.modMark f).cxl = b.cxl := (rfl)
@[simp] theorem Bridge.modMark_out (f : Mark → Mark) (b : Bridge) : (b.modMark f).out = b.out := (rfl)
@[simp] theorem Bridge.modMark_lands (f : Mark → Mark) (b : Bridge) : (b.modMark f).lands = b.lands := (rfl)
@[simp] theorem Bridge.modMark_mark (f : Mark → Mark) (b : Bridge) : (b.modMark f).mark = f b.mark := (rfl)
@[simp] theorem Bridge.modMark_free (f : Mark → Mark) (b : Bridge) : (b.modMark f).free = b.free := (rfl)
-- level
@[simp] theorem Bridge.level_glb (i : Nat) (high : Bool) (b : Bridge) : (b.level i high).glb = b.glb := (rfl)
@[simp] theorem Bridge.level_ch (i : Nat) (high : Bool) (b : Bridge) : (b.level i high).ch = b.ch := (rfl)
@[simp] theorem Bridge.level_herd (i : Nat) (high : Bool) (b : Bridge) : (b.level i high).herd = b.herd := (rfl)
@[simp] theorem Bridge.level_ten (i : Nat) (high : Bool) (b : Bridge) : (b.level i high).ten = b.ten := (rfl)
@[simp] theorem Bridge.level_port (i : Nat) (high : Bool) (b : Bridge) : (b.level i high).port = b.port := (rfl)
@[simp] theorem Bridge.level_faults (i : Nat) (high : Bool) (b : Bridge) : (b.level i high).faults = b.faults := (rfl)
@[simp] theorem Bridge.level_icu (i : Nat) (high : Bool) (b : Bridge) : (b.level i high).icu = b.icu.setLevel i high := (rfl)
@[simp] theorem Bridge.level_jrn (i : Nat) (high : Bool) (b : Bridge) : (b.level i high).jrn = b.jrn := (rfl)
@[simp] theorem Bridge.level_image (i : Nat) (high : Bool) (b : Bridge) : (b.level i high).image = b.image := (rfl)
@[simp] theorem Bridge.level_knl (i : Nat) (high : Bool) (b : Bridge) : (b.level i high).knl = b.knl := (rfl)
@[simp] theorem Bridge.level_boot (i : Nat) (high : Bool) (b : Bridge) : (b.level i high).boot = b.boot := (rfl)
@[simp] theorem Bridge.level_fuses (i : Nat) (high : Bool) (b : Bridge) : (b.level i high).fuses = b.fuses := (rfl)
@[simp] theorem Bridge.level_pwr (i : Nat) (high : Bool) (b : Bridge) : (b.level i high).pwr = b.pwr := (rfl)
@[simp] theorem Bridge.level_tlm (i : Nat) (high : Bool) (b : Bridge) : (b.level i high).tlm = b.tlm := (rfl)
@[simp] theorem Bridge.level_scan (i : Nat) (high : Bool) (b : Bridge) : (b.level i high).scan = b.scan := (rfl)
@[simp] theorem Bridge.level_citan (i : Nat) (high : Bool) (b : Bridge) : (b.level i high).citan = b.citan := (rfl)
@[simp] theorem Bridge.level_cxl (i : Nat) (high : Bool) (b : Bridge) : (b.level i high).cxl = b.cxl := (rfl)
@[simp] theorem Bridge.level_out (i : Nat) (high : Bool) (b : Bridge) : (b.level i high).out = b.out := (rfl)
@[simp] theorem Bridge.level_lands (i : Nat) (high : Bool) (b : Bridge) : (b.level i high).lands = b.lands := (rfl)
@[simp] theorem Bridge.level_mark (i : Nat) (high : Bool) (b : Bridge) : (b.level i high).mark = b.mark := (rfl)
@[simp] theorem Bridge.level_free (i : Nat) (high : Bool) (b : Bridge) : (b.level i high).free = b.free := (rfl)
-- prepare
@[simp] theorem Bridge.prepare_glb (c : Change) (n : Nat) (b : Bridge) : (b.prepare c n).glb = b.glb := (rfl)
@[simp] theorem Bridge.prepare_ch (c : Change) (n : Nat) (b : Bridge) : (b.prepare c n).ch = b.ch := (rfl)
@[simp] theorem Bridge.prepare_herd (c : Change) (n : Nat) (b : Bridge) : (b.prepare c n).herd = b.herd := (rfl)
@[simp] theorem Bridge.prepare_ten (c : Change) (n : Nat) (b : Bridge) : (b.prepare c n).ten = b.ten := (rfl)
@[simp] theorem Bridge.prepare_port (c : Change) (n : Nat) (b : Bridge) : (b.prepare c n).port = b.port := (rfl)
@[simp] theorem Bridge.prepare_faults (c : Change) (n : Nat) (b : Bridge) : (b.prepare c n).faults = b.faults := (rfl)
@[simp] theorem Bridge.prepare_icu (c : Change) (n : Nat) (b : Bridge) : (b.prepare c n).icu = b.icu := (rfl)
@[simp] theorem Bridge.prepare_jrn (c : Change) (n : Nat) (b : Bridge) : (b.prepare c n).jrn = b.jrn := (rfl)
@[simp] theorem Bridge.prepare_image (c : Change) (n : Nat) (b : Bridge) : (b.prepare c n).image = b.image := (rfl)
@[simp] theorem Bridge.prepare_knl (c : Change) (n : Nat) (b : Bridge) : (b.prepare c n).knl = b.knl := (rfl)
@[simp] theorem Bridge.prepare_boot (c : Change) (n : Nat) (b : Bridge) : (b.prepare c n).boot = b.boot := (rfl)
@[simp] theorem Bridge.prepare_fuses (c : Change) (n : Nat) (b : Bridge) : (b.prepare c n).fuses = b.fuses := (rfl)
@[simp] theorem Bridge.prepare_pwr (c : Change) (n : Nat) (b : Bridge) : (b.prepare c n).pwr = b.pwr := (rfl)
@[simp] theorem Bridge.prepare_tlm (c : Change) (n : Nat) (b : Bridge) : (b.prepare c n).tlm = b.tlm := (rfl)
@[simp] theorem Bridge.prepare_scan (c : Change) (n : Nat) (b : Bridge) : (b.prepare c n).scan = b.scan := (rfl)
@[simp] theorem Bridge.prepare_cxl (c : Change) (n : Nat) (b : Bridge) : (b.prepare c n).cxl = b.cxl := (rfl)
@[simp] theorem Bridge.prepare_out (c : Change) (n : Nat) (b : Bridge) : (b.prepare c n).out = b.out := (rfl)
@[simp] theorem Bridge.prepare_lands (c : Change) (n : Nat) (b : Bridge) : (b.prepare c n).lands = b.lands := (rfl)
@[simp] theorem Bridge.prepare_mark (c : Change) (n : Nat) (b : Bridge) : (b.prepare c n).mark = b.mark := (rfl)
@[simp] theorem Bridge.prepare_free (c : Change) (n : Nat) (b : Bridge) : (b.prepare c n).free = b.free := (rfl)
@[simp] theorem Bridge.fresh_glb (b : Bridge) : b.fresh.glb = b.glb := (rfl)
@[simp] theorem Bridge.fresh_ch (b : Bridge) : b.fresh.ch = b.ch := (rfl)
@[simp] theorem Bridge.fresh_herd (b : Bridge) : b.fresh.herd = b.herd := (rfl)
@[simp] theorem Bridge.fresh_ten (b : Bridge) : b.fresh.ten = b.ten := (rfl)
@[simp] theorem Bridge.fresh_port (b : Bridge) : b.fresh.port = b.port := (rfl)
@[simp] theorem Bridge.fresh_faults (b : Bridge) : b.fresh.faults = { b.faults with react := [] } := (rfl)
@[simp] theorem Bridge.fresh_icu (b : Bridge) : b.fresh.icu = b.icu := (rfl)
@[simp] theorem Bridge.fresh_jrn (b : Bridge) : b.fresh.jrn = b.jrn := (rfl)
@[simp] theorem Bridge.fresh_image (b : Bridge) : b.fresh.image = b.image := (rfl)
@[simp] theorem Bridge.fresh_knl (b : Bridge) : b.fresh.knl = b.knl := (rfl)
@[simp] theorem Bridge.fresh_boot (b : Bridge) : b.fresh.boot = b.boot := (rfl)
@[simp] theorem Bridge.fresh_fuses (b : Bridge) : b.fresh.fuses = b.fuses := (rfl)
@[simp] theorem Bridge.fresh_pwr (b : Bridge) : b.fresh.pwr = b.pwr := (rfl)
@[simp] theorem Bridge.fresh_tlm (b : Bridge) : b.fresh.tlm = b.tlm := (rfl)
@[simp] theorem Bridge.fresh_scan (b : Bridge) : b.fresh.scan = b.scan := (rfl)
@[simp] theorem Bridge.fresh_citan (b : Bridge) : b.fresh.citan = b.citan := (rfl)
@[simp] theorem Bridge.fresh_cxl (b : Bridge) : b.fresh.cxl = b.cxl := (rfl)
@[simp] theorem Bridge.fresh_out (b : Bridge) : b.fresh.out = [] := (rfl)
@[simp] theorem Bridge.fresh_lands (b : Bridge) : b.fresh.lands = [] := (rfl)
@[simp] theorem Bridge.fresh_mark (b : Bridge) : b.fresh.mark = b.mark := (rfl)
@[simp] theorem Bridge.fresh_free (b : Bridge) : b.fresh.free = b.free := (rfl)
-- channels, functions, instances and mailboxes
@[simp] theorem Bridge.fresh_chan (b : Bridge) (n : Nat) : b.fresh.chan n = b.chan n := (rfl)
@[simp] theorem Bridge.fresh_func (b : Bridge) (i : Nat) : b.fresh.func i = b.func i := (rfl)
@[simp] theorem Bridge.fresh_inst (b : Bridge) (i : Nat) : b.fresh.inst i = b.inst i := (rfl)
@[simp] theorem Bridge.fresh_mbx (b : Bridge) (i : Nat) : b.fresh.mbx i = b.mbx i := (rfl)
@[simp] theorem Bridge.fresh_phy (b : Bridge) (n : Nat) : b.fresh.phy n = b.phy n := (rfl)
@[simp] theorem Bridge.emit_chan (e : Emit) (b : Bridge) (m : Nat) : (b.emit e).chan m = b.chan m := (rfl)
@[simp] theorem Bridge.emit_func (e : Emit) (b : Bridge) (m : Nat) : (b.emit e).func m = b.func m := (rfl)
@[simp] theorem Bridge.emit_inst (e : Emit) (b : Bridge) (m : Nat) : (b.emit e).inst m = b.inst m := (rfl)
@[simp] theorem Bridge.emit_mbx (e : Emit) (b : Bridge) (m : Nat) : (b.emit e).mbx m = b.mbx m := (rfl)
@[simp] theorem Bridge.emits_chan (es : List Emit) (b : Bridge) (m : Nat) : (b.emits es).chan m = b.chan m := (rfl)
@[simp] theorem Bridge.emits_func (es : List Emit) (b : Bridge) (m : Nat) : (b.emits es).func m = b.func m := (rfl)
@[simp] theorem Bridge.emits_inst (es : List Emit) (b : Bridge) (m : Nat) : (b.emits es).inst m = b.inst m := (rfl)
@[simp] theorem Bridge.emits_mbx (es : List Emit) (b : Bridge) (m : Nat) : (b.emits es).mbx m = b.mbx m := (rfl)
@[simp] theorem Bridge.modCh_func (n : Nat) (f : Channel → Channel) (b : Bridge) (m : Nat) : (b.modCh n f).func m = b.func m := (rfl)
@[simp] theorem Bridge.modCh_inst (n : Nat) (f : Channel → Channel) (b : Bridge) (m : Nat) : (b.modCh n f).inst m = b.inst m := (rfl)
@[simp] theorem Bridge.modCh_mbx (n : Nat) (f : Channel → Channel) (b : Bridge) (m : Nat) : (b.modCh n f).mbx m = b.mbx m := (rfl)
@[simp] theorem Bridge.modHerd_chan (f : Herder → Herder) (b : Bridge) (m : Nat) : (b.modHerd f).chan m = b.chan m := (rfl)
@[simp] theorem Bridge.modHerd_func (f : Herder → Herder) (b : Bridge) (m : Nat) : (b.modHerd f).func m = b.func m := (rfl)
@[simp] theorem Bridge.modHerd_inst (f : Herder → Herder) (b : Bridge) (m : Nat) : (b.modHerd f).inst m = b.inst m := (rfl)
@[simp] theorem Bridge.modHerd_mbx (f : Herder → Herder) (b : Bridge) (m : Nat) : (b.modHerd f).mbx m = b.mbx m := (rfl)
@[simp] theorem Bridge.modTen_chan (f : Tenancy → Tenancy) (b : Bridge) (m : Nat) : (b.modTen f).chan m = b.chan m := (rfl)
@[simp] theorem Bridge.modTen_func (f : Tenancy → Tenancy) (b : Bridge) (m : Nat) : (b.modTen f).func m = b.func m := (rfl)
@[simp] theorem Bridge.modPort_chan (f : HostPort → HostPort) (b : Bridge) (m : Nat) : (b.modPort f).chan m = b.chan m := (rfl)
@[simp] theorem Bridge.modPort_inst (f : HostPort → HostPort) (b : Bridge) (m : Nat) : (b.modPort f).inst m = b.inst m := (rfl)
@[simp] theorem Bridge.modPort_mbx (f : HostPort → HostPort) (b : Bridge) (m : Nat) : (b.modPort f).mbx m = b.mbx m := (rfl)
@[simp] theorem Bridge.modInst_chan (i : Nat) (f : Inst → Inst) (b : Bridge) (m : Nat) : (b.modInst i f).chan m = b.chan m := (rfl)
@[simp] theorem Bridge.modInst_func (i : Nat) (f : Inst → Inst) (b : Bridge) (m : Nat) : (b.modInst i f).func m = b.func m := (rfl)
@[simp] theorem Bridge.modFunc_chan (i : Nat) (f : Func → Func) (b : Bridge) (m : Nat) : (b.modFunc i f).chan m = b.chan m := (rfl)
@[simp] theorem Bridge.modFunc_inst (i : Nat) (f : Func → Func) (b : Bridge) (m : Nat) : (b.modFunc i f).inst m = b.inst m := (rfl)
@[simp] theorem Bridge.modFunc_mbx (i : Nat) (f : Func → Func) (b : Bridge) (m : Nat) : (b.modFunc i f).mbx m = b.mbx m := (rfl)
@[simp] theorem Bridge.modMbx_chan (i : Nat) (f : Mailbox → Mailbox) (b : Bridge) (m : Nat) : (b.modMbx i f).chan m = b.chan m := (rfl)
@[simp] theorem Bridge.modMbx_func (i : Nat) (f : Mailbox → Mailbox) (b : Bridge) (m : Nat) : (b.modMbx i f).func m = b.func m := (rfl)
@[simp] theorem Bridge.modGlb_chan (f : Global → Global) (b : Bridge) (m : Nat) : (b.modGlb f).chan m = b.chan m := (rfl)
@[simp] theorem Bridge.modGlb_func (f : Global → Global) (b : Bridge) (m : Nat) : (b.modGlb f).func m = b.func m := (rfl)
@[simp] theorem Bridge.modGlb_inst (f : Global → Global) (b : Bridge) (m : Nat) : (b.modGlb f).inst m = b.inst m := (rfl)
@[simp] theorem Bridge.modGlb_mbx (f : Global → Global) (b : Bridge) (m : Nat) : (b.modGlb f).mbx m = b.mbx m := (rfl)
@[simp] theorem Bridge.modFlt_chan (f : Faults → Faults) (b : Bridge) (m : Nat) : (b.modFlt f).chan m = b.chan m := (rfl)
@[simp] theorem Bridge.modFlt_func (f : Faults → Faults) (b : Bridge) (m : Nat) : (b.modFlt f).func m = b.func m := (rfl)
@[simp] theorem Bridge.modFlt_inst (f : Faults → Faults) (b : Bridge) (m : Nat) : (b.modFlt f).inst m = b.inst m := (rfl)
@[simp] theorem Bridge.modFlt_mbx (f : Faults → Faults) (b : Bridge) (m : Nat) : (b.modFlt f).mbx m = b.mbx m := (rfl)
@[simp] theorem Bridge.modBlk_chan (k : Nat) (f : FaultBlock → FaultBlock) (b : Bridge) (m : Nat) : (b.modBlk k f).chan m = b.chan m := (rfl)
@[simp] theorem Bridge.modBlk_func (k : Nat) (f : FaultBlock → FaultBlock) (b : Bridge) (m : Nat) : (b.modBlk k f).func m = b.func m := (rfl)
@[simp] theorem Bridge.modBlk_inst (k : Nat) (f : FaultBlock → FaultBlock) (b : Bridge) (m : Nat) : (b.modBlk k f).inst m = b.inst m := (rfl)
@[simp] theorem Bridge.modBlk_mbx (k : Nat) (f : FaultBlock → FaultBlock) (b : Bridge) (m : Nat) : (b.modBlk k f).mbx m = b.mbx m := (rfl)
@[simp] theorem Bridge.modJrn_chan (f : Journal → Journal) (b : Bridge) (m : Nat) : (b.modJrn f).chan m = b.chan m := (rfl)
@[simp] theorem Bridge.modJrn_func (f : Journal → Journal) (b : Bridge) (m : Nat) : (b.modJrn f).func m = b.func m := (rfl)
@[simp] theorem Bridge.modJrn_inst (f : Journal → Journal) (b : Bridge) (m : Nat) : (b.modJrn f).inst m = b.inst m := (rfl)
@[simp] theorem Bridge.modJrn_mbx (f : Journal → Journal) (b : Bridge) (m : Nat) : (b.modJrn f).mbx m = b.mbx m := (rfl)
@[simp] theorem Bridge.modKnl_chan (f : Kennel → Kennel) (b : Bridge) (m : Nat) : (b.modKnl f).chan m = b.chan m := (rfl)
@[simp] theorem Bridge.modKnl_func (f : Kennel → Kennel) (b : Bridge) (m : Nat) : (b.modKnl f).func m = b.func m := (rfl)
@[simp] theorem Bridge.modKnl_inst (f : Kennel → Kennel) (b : Bridge) (m : Nat) : (b.modKnl f).inst m = b.inst m := (rfl)
@[simp] theorem Bridge.modKnl_mbx (f : Kennel → Kennel) (b : Bridge) (m : Nat) : (b.modKnl f).mbx m = b.mbx m := (rfl)
@[simp] theorem Bridge.modFuses_chan (f : Fuses → Fuses) (b : Bridge) (m : Nat) : (b.modFuses f).chan m = b.chan m := (rfl)
@[simp] theorem Bridge.modFuses_func (f : Fuses → Fuses) (b : Bridge) (m : Nat) : (b.modFuses f).func m = b.func m := (rfl)
@[simp] theorem Bridge.modFuses_inst (f : Fuses → Fuses) (b : Bridge) (m : Nat) : (b.modFuses f).inst m = b.inst m := (rfl)
@[simp] theorem Bridge.modFuses_mbx (f : Fuses → Fuses) (b : Bridge) (m : Nat) : (b.modFuses f).mbx m = b.mbx m := (rfl)
@[simp] theorem Bridge.modPwr_chan (f : Power → Power) (b : Bridge) (m : Nat) : (b.modPwr f).chan m = b.chan m := (rfl)
@[simp] theorem Bridge.modPwr_func (f : Power → Power) (b : Bridge) (m : Nat) : (b.modPwr f).func m = b.func m := (rfl)
@[simp] theorem Bridge.modPwr_inst (f : Power → Power) (b : Bridge) (m : Nat) : (b.modPwr f).inst m = b.inst m := (rfl)
@[simp] theorem Bridge.modPwr_mbx (f : Power → Power) (b : Bridge) (m : Nat) : (b.modPwr f).mbx m = b.mbx m := (rfl)
@[simp] theorem Bridge.modTlm_chan (f : Telemetry → Telemetry) (b : Bridge) (m : Nat) : (b.modTlm f).chan m = b.chan m := (rfl)
@[simp] theorem Bridge.modTlm_func (f : Telemetry → Telemetry) (b : Bridge) (m : Nat) : (b.modTlm f).func m = b.func m := (rfl)
@[simp] theorem Bridge.modTlm_inst (f : Telemetry → Telemetry) (b : Bridge) (m : Nat) : (b.modTlm f).inst m = b.inst m := (rfl)
@[simp] theorem Bridge.modTlm_mbx (f : Telemetry → Telemetry) (b : Bridge) (m : Nat) : (b.modTlm f).mbx m = b.mbx m := (rfl)
@[simp] theorem Bridge.modScan_chan (f : Scans → Scans) (b : Bridge) (m : Nat) : (b.modScan f).chan m = b.chan m := (rfl)
@[simp] theorem Bridge.modScan_func (f : Scans → Scans) (b : Bridge) (m : Nat) : (b.modScan f).func m = b.func m := (rfl)
@[simp] theorem Bridge.modScan_inst (f : Scans → Scans) (b : Bridge) (m : Nat) : (b.modScan f).inst m = b.inst m := (rfl)
@[simp] theorem Bridge.modScan_mbx (f : Scans → Scans) (b : Bridge) (m : Nat) : (b.modScan f).mbx m = b.mbx m := (rfl)
@[simp] theorem Bridge.modSch_func (n : Nat) (f : Sched → Sched) (b : Bridge) (m : Nat) : (b.modSch n f).func m = b.func m := (rfl)
@[simp] theorem Bridge.modSch_inst (n : Nat) (f : Sched → Sched) (b : Bridge) (m : Nat) : (b.modSch n f).inst m = b.inst m := (rfl)
@[simp] theorem Bridge.modSch_mbx (n : Nat) (f : Sched → Sched) (b : Bridge) (m : Nat) : (b.modSch n f).mbx m = b.mbx m := (rfl)
@[simp] theorem Bridge.modAcc_func (n : Nat) (f : Access → Access) (b : Bridge) (m : Nat) : (b.modAcc n f).func m = b.func m := (rfl)
@[simp] theorem Bridge.modAcc_inst (n : Nat) (f : Access → Access) (b : Bridge) (m : Nat) : (b.modAcc n f).inst m = b.inst m := (rfl)
@[simp] theorem Bridge.modAcc_mbx (n : Nat) (f : Access → Access) (b : Bridge) (m : Nat) : (b.modAcc n f).mbx m = b.mbx m := (rfl)
@[simp] theorem Bridge.modPhy_func (n : Nat) (f : Phy → Phy) (b : Bridge) (m : Nat) : (b.modPhy n f).func m = b.func m := (rfl)
@[simp] theorem Bridge.modPhy_inst (n : Nat) (f : Phy → Phy) (b : Bridge) (m : Nat) : (b.modPhy n f).inst m = b.inst m := (rfl)
@[simp] theorem Bridge.modPhy_mbx (n : Nat) (f : Phy → Phy) (b : Bridge) (m : Nat) : (b.modPhy n f).mbx m = b.mbx m := (rfl)
@[simp] theorem Bridge.modLl_func (n : Nat) (f : Link → Link) (b : Bridge) (m : Nat) : (b.modLl n f).func m = b.func m := (rfl)
@[simp] theorem Bridge.modLl_inst (n : Nat) (f : Link → Link) (b : Bridge) (m : Nat) : (b.modLl n f).inst m = b.inst m := (rfl)
@[simp] theorem Bridge.modLl_mbx (n : Nat) (f : Link → Link) (b : Bridge) (m : Nat) : (b.modLl n f).mbx m = b.mbx m := (rfl)
@[simp] theorem Bridge.modHc_func (n : Nat) (f : HerdCh → HerdCh) (b : Bridge) (m : Nat) : (b.modHc n f).func m = b.func m := (rfl)
@[simp] theorem Bridge.modHc_inst (n : Nat) (f : HerdCh → HerdCh) (b : Bridge) (m : Nat) : (b.modHc n f).inst m = b.inst m := (rfl)
@[simp] theorem Bridge.modHc_mbx (n : Nat) (f : HerdCh → HerdCh) (b : Bridge) (m : Nat) : (b.modHc n f).mbx m = b.mbx m := (rfl)
@[simp] theorem Bridge.modSvc_func (n : Nat) (f : Service → Service) (b : Bridge) (m : Nat) : (b.modSvc n f).func m = b.func m := (rfl)
@[simp] theorem Bridge.modSvc_inst (n : Nat) (f : Service → Service) (b : Bridge) (m : Nat) : (b.modSvc n f).inst m = b.inst m := (rfl)
@[simp] theorem Bridge.modSvc_mbx (n : Nat) (f : Service → Service) (b : Bridge) (m : Nat) : (b.modSvc n f).mbx m = b.mbx m := (rfl)
@[simp] theorem Bridge.modRtv_func (n : Nat) (f : Rtv → Rtv) (b : Bridge) (m : Nat) : (b.modRtv n f).func m = b.func m := (rfl)
@[simp] theorem Bridge.modRtv_inst (n : Nat) (f : Rtv → Rtv) (b : Bridge) (m : Nat) : (b.modRtv n f).inst m = b.inst m := (rfl)
@[simp] theorem Bridge.modRtv_mbx (n : Nat) (f : Rtv → Rtv) (b : Bridge) (m : Nat) : (b.modRtv n f).mbx m = b.mbx m := (rfl)
@[simp] theorem Bridge.modLane_func (n k : Nat) (f : Lane → Lane) (b : Bridge) (m : Nat) : (b.modLane n k f).func m = b.func m := (rfl)
@[simp] theorem Bridge.modLane_inst (n k : Nat) (f : Lane → Lane) (b : Bridge) (m : Nat) : (b.modLane n k f).inst m = b.inst m := (rfl)
@[simp] theorem Bridge.modLane_mbx (n k : Nat) (f : Lane → Lane) (b : Bridge) (m : Nat) : (b.modLane n k f).mbx m = b.mbx m := (rfl)
@[simp] theorem Bridge.modRing_chan (fn k : Nat) (f : Ring → Ring) (b : Bridge) (m : Nat) : (b.modRing fn k f).chan m = b.chan m := (rfl)
@[simp] theorem Bridge.modRing_func (fn k : Nat) (f : Ring → Ring) (b : Bridge) (m : Nat) : (b.modRing fn k f).func m = b.func m := (rfl)
@[simp] theorem Bridge.modRing_inst (fn k : Nat) (f : Ring → Ring) (b : Bridge) (m : Nat) : (b.modRing fn k f).inst m = b.inst m := (rfl)
@[simp] theorem Bridge.modRing_mbx (fn k : Nat) (f : Ring → Ring) (b : Bridge) (m : Nat) : (b.modRing fn k f).mbx m = b.mbx m := (rfl)
@[simp] theorem Bridge.modJob_chan (id : Nat) (f : Job → Job) (b : Bridge) (m : Nat) : (b.modJob id f).chan m = b.chan m := (rfl)
@[simp] theorem Bridge.modJob_func (id : Nat) (f : Job → Job) (b : Bridge) (m : Nat) : (b.modJob id f).func m = b.func m := (rfl)
@[simp] theorem Bridge.modJob_inst (id : Nat) (f : Job → Job) (b : Bridge) (m : Nat) : (b.modJob id f).inst m = b.inst m := (rfl)
@[simp] theorem Bridge.modJob_mbx (id : Nat) (f : Job → Job) (b : Bridge) (m : Nat) : (b.modJob id f).mbx m = b.mbx m := (rfl)
@[simp] theorem Bridge.modFetch_chan (id : Nat) (f : Fetch → Fetch) (b : Bridge) (m : Nat) : (b.modFetch id f).chan m = b.chan m := (rfl)
@[simp] theorem Bridge.modFetch_func (id : Nat) (f : Fetch → Fetch) (b : Bridge) (m : Nat) : (b.modFetch id f).func m = b.func m := (rfl)
@[simp] theorem Bridge.modFetch_inst (id : Nat) (f : Fetch → Fetch) (b : Bridge) (m : Nat) : (b.modFetch id f).inst m = b.inst m := (rfl)
@[simp] theorem Bridge.modFetch_mbx (id : Nat) (f : Fetch → Fetch) (b : Bridge) (m : Nat) : (b.modFetch id f).mbx m = b.mbx m := (rfl)
@[simp] theorem Bridge.modSem_chan (i : Nat) (f : Sem → Sem) (b : Bridge) (m : Nat) : (b.modSem i f).chan m = b.chan m := (rfl)
@[simp] theorem Bridge.modSem_func (i : Nat) (f : Sem → Sem) (b : Bridge) (m : Nat) : (b.modSem i f).func m = b.func m := (rfl)
@[simp] theorem Bridge.modCopy_chan (c : Nat) (f : Copy → Copy) (b : Bridge) (m : Nat) : (b.modCopy c f).chan m = b.chan m := (rfl)
@[simp] theorem Bridge.modCopy_func (c : Nat) (f : Copy → Copy) (b : Bridge) (m : Nat) : (b.modCopy c f).func m = b.func m := (rfl)
@[simp] theorem Bridge.modCopy_inst (c : Nat) (f : Copy → Copy) (b : Bridge) (m : Nat) : (b.modCopy c f).inst m = b.inst m := (rfl)
@[simp] theorem Bridge.modCopy_mbx (c : Nat) (f : Copy → Copy) (b : Bridge) (m : Nat) : (b.modCopy c f).mbx m = b.mbx m := (rfl)
@[simp] theorem Bridge.modFs_chan (k i : Nat) (f : FaultSrc → FaultSrc) (b : Bridge) (m : Nat) : (b.modFs k i f).chan m = b.chan m := (rfl)
@[simp] theorem Bridge.modFs_func (k i : Nat) (f : FaultSrc → FaultSrc) (b : Bridge) (m : Nat) : (b.modFs k i f).func m = b.func m := (rfl)
@[simp] theorem Bridge.modFs_inst (k i : Nat) (f : FaultSrc → FaultSrc) (b : Bridge) (m : Nat) : (b.modFs k i f).inst m = b.inst m := (rfl)
@[simp] theorem Bridge.modFs_mbx (k i : Nat) (f : FaultSrc → FaultSrc) (b : Bridge) (m : Nat) : (b.modFs k i f).mbx m = b.mbx m := (rfl)
@[simp] theorem Bridge.land_chan (frame line : Nat) (c : Option Line) (b : Bridge) (m : Nat) : (b.land frame line c).chan m = b.chan m := (rfl)
@[simp] theorem Bridge.land_func (frame line : Nat) (c : Option Line) (b : Bridge) (m : Nat) : (b.land frame line c).func m = b.func m := (rfl)
@[simp] theorem Bridge.land_inst (frame line : Nat) (c : Option Line) (b : Bridge) (m : Nat) : (b.land frame line c).inst m = b.inst m := (rfl)
@[simp] theorem Bridge.land_mbx (frame line : Nat) (c : Option Line) (b : Bridge) (m : Nat) : (b.land frame line c).mbx m = b.mbx m := (rfl)
@[simp] theorem Bridge.modMark_chan (f : Mark → Mark) (b : Bridge) (m : Nat) : (b.modMark f).chan m = b.chan m := (rfl)
@[simp] theorem Bridge.modMark_func (f : Mark → Mark) (b : Bridge) (m : Nat) : (b.modMark f).func m = b.func m := (rfl)
@[simp] theorem Bridge.modMark_inst (f : Mark → Mark) (b : Bridge) (m : Nat) : (b.modMark f).inst m = b.inst m := (rfl)
@[simp] theorem Bridge.modMark_mbx (f : Mark → Mark) (b : Bridge) (m : Nat) : (b.modMark f).mbx m = b.mbx m := (rfl)
@[simp] theorem Bridge.level_chan (i : Nat) (high : Bool) (b : Bridge) (m : Nat) : (b.level i high).chan m = b.chan m := (rfl)
@[simp] theorem Bridge.level_func (i : Nat) (high : Bool) (b : Bridge) (m : Nat) : (b.level i high).func m = b.func m := (rfl)
@[simp] theorem Bridge.level_inst (i : Nat) (high : Bool) (b : Bridge) (m : Nat) : (b.level i high).inst m = b.inst m := (rfl)
@[simp] theorem Bridge.level_mbx (i : Nat) (high : Bool) (b : Bridge) (m : Nat) : (b.level i high).mbx m = b.mbx m := (rfl)
@[simp] theorem Bridge.prepare_chan (c : Change) (n : Nat) (b : Bridge) (m : Nat) : (b.prepare c n).chan m = b.chan m := (rfl)
@[simp] theorem Bridge.prepare_func (c : Change) (n : Nat) (b : Bridge) (m : Nat) : (b.prepare c n).func m = b.func m := (rfl)
@[simp] theorem Bridge.prepare_inst (c : Change) (n : Nat) (b : Bridge) (m : Nat) : (b.prepare c n).inst m = b.inst m := (rfl)
@[simp] theorem Bridge.prepare_mbx (c : Change) (n : Nat) (b : Bridge) (m : Nat) : (b.prepare c n).mbx m = b.mbx m := (rfl)

end Sys2Proof.Machine
end

