-- ==== Sys2Proof/Laws/Settle.lean ====
section
/-! SUPPORT. What settles after a command's own effect, and when the gates let a command through. -/

namespace Sys2Proof.Machine

open Sys2Proof

/-- A run over a list keeps what each of its parts keeps. -/
theorem Bridge.each_keeps {α β : Type} (g : Bridge → β) (xs : List α) (f : α → Bridge → Bridge) (h : ∀ x b, g (f x b) = g b) (b : Bridge) :
    g (b.each xs f) = g b := by
  unfold Bridge.each
  induction xs generalizing b with
  | nil => rfl
  | cons x t ih => rw [List.foldl_cons, ih, h]

/-- A run of levels changes the interrupt controller alone. -/
theorem Bridge.each_level {α : Type} (xs : List α) (i : α → Nat) (high : α → Bool) (a b : Bridge) (h : b = { a with icu := b.icu }) :
    b.each xs (fun x b => b.level (i x) (high x)) = { a with icu := (b.each xs (fun x b => b.level (i x) (high x))).icu } := by
  unfold Bridge.each
  induction xs generalizing b with
  | nil => exact h
  | cons x t ih => rw [List.foldl_cons]; refine ih _ ?_; rw [h]; rfl

/-- Levels that follow the state change the interrupt controller alone. -/
theorem Bridge.syncLevels_rest (was b : Bridge) : was.syncLevels b = { b with icu := (was.syncLevels b).icu } := by
  have h := Bridge.each_level ((was.watchWords.zip (b.each ((was.levels.zip b.levels).filter (fun x => x.1.2 != x.2.2))
      (fun x b => b.level x.2.1 x.2.2)).watchWords).filter (fun x => x.1.2 != x.2.2)) (fun x => x.2.1) (fun _ => true) b _
    (Bridge.each_level ((was.levels.zip b.levels).filter (fun x => x.1.2 != x.2.2)) (fun x => x.2.1) (fun x => x.2.2) b b rfl)
  simp only [Bridge.syncLevels, Bridge.when]
  split
  · rw [Bridge.level, h]
  · exact h

/-- FAULT_N's level is sent after what the command sent, and nothing else changes. -/
theorem Bridge.faultPin_rest (was b : Bridge) : was.faultPin b = { b with out := (was.faultPin b).out } := by
  unfold Bridge.faultPin Bridge.when; split <;> rfl

theorem Bridge.faultPin_out (was b : Bridge) : b.out <+: (was.faultPin b).out := by
  unfold Bridge.faultPin Bridge.when; split
  · exact List.prefix_append _ _
  · exact List.prefix_refl _

/-- Where nothing goes on by itself, what settles is interrupt levels and FAULT_N. -/
theorem Bridge.settle_still {was b : Bridge} (h : was.goesOn b = false) :
    was.settle b = { b with icu := (was.settle b).icu, out := (was.settle b).out } := by
  unfold Bridge.settle
  rw [h, Bridge.faultPin_rest, Bridge.syncLevels_rest]
  rfl

theorem Bridge.settle_out {was b : Bridge} (h : was.goesOn b = false) : b.out <+: (was.settle b).out := by
  unfold Bridge.settle
  rw [h]
  refine List.IsPrefix.trans ?_ (Bridge.faultPin_out _ _)
  rw [Bridge.syncLevels_rest]
  exact List.prefix_refl _

/-- A command's run follows from its own effect. -/
theorem State.run_follows {f : Bridge → Bridge} {s : State} {b : Bridge} (h : f s.br.fresh = b) : Follows s b (s.run f) := by
  subst h
  refine ⟨rfl, rfl, rfl, fun hs => ⟨?_, ?_, ?_⟩⟩
  · show landAll (s.br.fresh.settle _).lands s.near = _
    rw [Bridge.settle_still hs]
  · exact Bridge.settle_out hs
  · show ({ s.br.fresh.settle _ with lands := [] } : Bridge) = _
    exact congrArg (fun x : Bridge => ({ x with lands := [] } : Bridge)) (Bridge.settle_still hs)

/-- A gate for commands that need the bridge to live. -/
theorem Live.gate {s : State} {b : Bridge} (h : Live s b) (f : Bridge → Bridge) : Bridge.live f s.br.fresh = f b := by
  have : s.br.fresh.heldAll = false := h.alive
  simp [Bridge.live, this, h.found]

/-- The gate for events of the host link. -/
theorem LinkTakes.gate {s : State} {b : Bridge} (h : LinkTakes s b) (f : Bridge → Bridge) : Bridge.link f s.br.fresh = f b := by
  have h1 : s.br.fresh.heldAll = false := h.alive
  have h2 : (s.br.fresh.pwr.perstLow || !s.br.fresh.port.up) = false := by
    show (s.br.pwr.perstLow || !s.br.port.up) = false
    rw [h.perst, h.up]; rfl
  rw [Bridge.link, Bridge.live, h1, h2, h.found]; rfl

/-- The gate for requests of the host. -/
theorem HostTakes.gate {s : State} {b : Bridge} (h : HostTakes s b) (f : Bridge → Bridge) : Bridge.host f s.br.fresh = f b := by
  unfold Bridge.host
  rw [h.toLinkTakes.gate]
  simp [h.running]

/-- The gate for requests that take credits. -/
theorem TlpTakes.gate {s : State} {posted : Bool} {data : Nat} {b : Bridge} (h : TlpTakes s posted data b) (f : Bridge → Bridge) :
    Bridge.host (·.withCredit posted data f) s.br.fresh = f b := by
  rw [h.toHostTakes.gate, Bridge.withCredit, if_pos h.credit]

/-- The gate for configuration requests. -/
theorem TlpTakes.configGate {s : State} {data : Nat} {b : Bridge} (h : TlpTakes s false data b) (f : Bridge → Bridge) :
    Bridge.config data f s.br.fresh = f b := h.gate f

/-- The gate for configuration writes with a row of their own. -/
theorem TlpTakes.rowGate {s : State} {b : Bridge} (h : TlpTakes s false 1 b) {fn : Nat} (hr : b.cfgRetry fn = false) (f : Bridge → Bridge) :
    Bridge.configRow fn f s.br.fresh = f b := by
  rw [Bridge.configRow, h.configGate, if_neg (by simp [hr])]

/-- The gate for the Function Level Reset bit. -/
theorem TlpTakes.flrGate {s : State} {b : Bridge} (h : TlpTakes s false 1 b) (hl : b.glb.level ≠ 0) (f : Bridge → Bridge) :
    Bridge.flrRow f s.br.fresh = f b := by
  rw [Bridge.flrRow, h.configGate, if_neg hl]

/-- The gate for register accesses. -/
theorem RegTakes.gate {s : State} {write : Bool} {fn : Nat} {b : Bridge} (h : RegTakes s write fn b) (f : Bridge → Bridge) :
    Bridge.access write fn f s.br.fresh = f b := by
  unfold Bridge.access
  rcases h with ⟨h1, h2⟩ | ⟨h1, h2, h3⟩
  · rw [if_pos h1, h2.gate]
  · rw [if_neg (by omega), h2.gate, if_pos h3]

/-- The gate for register writes. -/
theorem RegTakes.writeGate {s : State} {fn : Nat} {b : Bridge} (h : RegTakes s true fn b) (f : Bridge → Bridge) :
    Bridge.reg fn f s.br.fresh = f b := h.gate f

/-- The gate for register reads. -/
theorem RegTakes.readGate {s : State} {fn : Nat} {b : Bridge} (h : RegTakes s false fn b) (f : Bridge → Bridge) :
    Bridge.regRead fn f s.br.fresh = f b := h.gate f

/-- The bridge lives while resident firmware takes a command. -/
theorem CitanTakes.liveGate {s : State} {fn slot op : Nat} {cls : Caller} {b : Bridge} {c : Cmd} (h : CitanTakes s fn slot op cls b c)
    (f : Bridge → Bridge) : Bridge.live f s.br.fresh = f s.br.fresh := by
  have : s.br.fresh.heldAll = false := h.alive
  simp [Bridge.live, this]

/-- A command that resident firmware takes, whose own checks find nothing, acts on the bridge as it finds it. -/
theorem CitanTakes.gate {s : State} {fn slot op : Nat} {cls : Caller} {b : Bridge} {c : Cmd} (h : CitanTakes s fn slot op cls b c)
    {lenOk : Cmd → Bool} {check : Cmd → Bridge → Option Answer} {act : Cmd → Bridge → Bridge} (hl : lenOk c = true) (hc : check c b = none) :
    s.br.fresh.citanRun op cls lenOk check act fn slot = act c b := by
  have hg := h.given
  have hf := h.found
  unfold Bridge.citanRun
  simp only [h.serves, h.oldest, ← hg, ← hf, h.opcode, hl, h.common, hc]
  simp

end Sys2Proof.Machine
end

