-- ==== Sys2Proof/Certificates/Slice0/Obligations.lean ====
section
/-! DEFINITION. The statements for the provers. A clause `Completes i s b` says that command `i` in state `s` answers a next state, and that
this state follows from the own effect `b` (Safety). -/

open Sys2Proof Sys2Proof.Machine

-- The machine as a whole ------------------------------------------------------------------------------------------------------------

/-- A step takes the command at the front of the queue and runs it with the queue's rest. -/
def Obligations.StepRunsTheFrontCommand : Prop :=
  ∀ (s : State) (c : Instr) (rest : List Instr), s.pending = c :: rest → step s = exec c { s with pending := rest }

/-- A step with no command waiting: one FCLK passes (log entry 1, the model's choice), and the timestamp of 64 bits wraps. At a boundary of
1,536 FCLK (R29) the tick and what is due at it follow; at FCLK 32 and 128 the plan is sealed and the glide ends, where no command did it
before; in every other FCLK, a change of PCX_INTA_EN in the one before is evaluated, and nothing of the bridge's state changes but what
belongs to the FCLK: the timestamp, the overruns of it and the marks of what stood at its start. -/
def Obligations.EmptyQueuePassesOneFclk : Prop :=
  ∀ (s : State) (t : Nat), s.pending = [] → t = (s.br.glb.time + 1) % 2 ^ 64 →
    (t % 1536 ≠ 0 → t % 1536 ≠ 32 → t % 1536 ≠ 128 → ∃ u, step s = .next u ∧ Follows s (s.br.fresh.toTime t) u)
      ∧ (t % 1536 = 32 → s.br.glb.sealedNow = false → ∃ u, step s = .next u ∧ Follows s (s.br.fresh.toTime t).sealPlan u)
      ∧ (t % 1536 = 128 → s.br.glb.glideDone = false → ∃ u, step s = .next u ∧ Follows s (s.br.fresh.toTime t).endGlide u)
      ∧ (t % 1536 = 0 → ∃ u, step s = .next u ∧ Follows s (doStrideTick s.br.fresh).tickDue u)
      ∧ (s.br.port.intaDue = false → s.br.fresh.toTime t = { s.br.fresh with
          glb := { s.br.glb with time := t, overrunNow := 0 }, mark := (s.br.fresh.toTime t).mark })

/-- What reset leaves, for values that the rules give: R19, R26 (LEVEL 0), R29 (timestamp 0), R330 (every mailbox slot FREE), R336 (no
semaphore held), R383 (no event counted, no source severe), R408 (ARMED, PIN_EN and OUT_EN 1, FORCE_LOCK and FAULT_EN 0), R418 and R421 (no
flag of a core port set). That the near tier lists nothing is the model's choice (log entry 11), and the empty queue is the block's form. -/
def Obligations.ResetValues : Prop :=
  State.reset.br.glb.level = 0 ∧ State.reset.br.glb.time = 0 ∧ State.reset.br.glb.chFenced = 0
    ∧ (∀ f k, ((State.reset.br.mbx f).slot k).state = .free) ∧ (∀ k, (State.reset.br.semOf k).holder = none)
    ∧ (∀ k s, (State.reset.br.faults.source k s).count = 0 ∧ (State.reset.br.faults.source k s).severe = false)
    ∧ State.reset.br.faults.armed = true ∧ State.reset.br.faults.pinEn = true ∧ State.reset.br.faults.outEn = true
    ∧ State.reset.br.faults.forceLock = false ∧ State.reset.br.faults.faultEn = false ∧ State.reset.br.faults.log = []
    ∧ (∀ k, (State.reset.br.icu.port k).withdrawn = false ∧ (State.reset.br.icu.port k).taken = false)
    ∧ State.reset.near = [] ∧ State.reset.pending = []

/-- Reset's near tier is in canonical form. -/
def Obligations.ResetKeepsInvariant : Prop := State.Inv State.reset

/-- Every step keeps the near tier's canonical form, whatever command it runs: two lines never stand under one number, so that a line's
ciphertext is one value (R106, R80). -/
def Obligations.EveryStepKeepsInvariant : Prop := ∀ s t : State, State.Inv s → step s = .next t → State.Inv t

/-- No command stops the block: each answers a next state, which leaves the queue as it was and nothing landing. -/
def Obligations.EveryCommandAnswers : Prop :=
  ∀ (i : Instr) (s : State), ∃ t, exec i s = .next t ∧ t.pending = s.pending ∧ t.br.lands = []

/-- The commands that reach a bridge held in power-on reset, after the power-loss sequence or after a trip: what the board, the clocks, the
sled positions and the kennel do of themselves (R443, R458, R488, R489, R500, R510). -/
def reachesHeld : Instr → Bool
  | .strideTick | .planSeal | .glideEnd | .pllLockLoss | .tamperFire .. | .tamperSourceClear .. | .vbatMeasure ..
  | .powerFail | .powerOnReset .. | .supplyFault .. | .startUp .. | .perstAssert | .perstDeassert .. | .thermalTrip | .sledInserted ..
  | .sledDeparted .. | .jtagInstruction .. => true
  | _ => false

/-- While the bridge is held (R443, R488, R489), every other command finds no one to take it: it has no effect of its own. -/
def Obligations.HeldBridgeTakesNoCommand : Prop :=
  ∀ (i : Instr) (s : State), s.br.heldAll = true → reachesHeld i = false → Completes i s s.br.fresh

/-- The commands that are requests of the host in the Transaction Layer. -/
def hostRequest : Instr → Bool
  | .windowMemoryRead .. | .windowMemoryWrite .. | .configRead .. | .configWrite .. | .functionLevelReset .. | .vfEnableChange ..
  | .memEnableWrite .. | .hdmDecoderCommit .. | .powerStateWrite .. | .msixEnableChange .. | .interruptDisableWrite .. | .busMasterEnableWrite ..
  | .unsupportedRequest .. | .pmeTurnOff | .vendorDefinedMessage .. | .cxlMemrd .. | .cxlMemrddata .. | .cxlMemwr .. | .cxlMemwrptl ..
  | .cxlMemspecrd .. | .cxlM2sOther .. | .functionMaskWrite .. | .setSlotPowerLimit .. | .counterClear .. | .eccLastClear ..
  | .wcbHighWaterReset .. | .mailboxDoorbell .. | .mailboxCommandWrite .. | .mailboxDoneAck .. | .notifyAck .. | .mailboxCtrlWrite ..
  | .jobDoorbell .. | .ringEnable .. | .ringDisable .. | .semAcquireRead .. | .semReleaseWrite .. | .faultForce .. | .forceLockSet
  | .snapshotTrigger | .snapshotRearm | .debugLockSet | .prbsInjectOne .. | .telemetryLatch | .intaPendingClear .. | .intaEnableWrite ..
  | .msixTableWrite .. => true
  | _ => false

/-- No request of the host reaches the bridge while the host link is down or PERST_N is low (R190, R490): none has an effect of its own.
During the power-loss sequence the host port takes no request (R443): the link's arrival is all a request comes to.
It rests on log entry 80 (the model's). -/
def Obligations.NoHostRequestUnheard : Prop :=
  (∀ (i : Instr) (s : State), hostRequest i = true → (s.br.port.up = false ∨ s.br.pwr.perstLow = true) → Completes i s s.br.fresh)
    ∧ (∀ (i : Instr) (s : State), hostRequest i = true → s.br.heldAll = false → s.br.pwr.perstLow = false → s.br.port.up = true →
      s.br.fresh.hostArrives.jrn.step ≠ 0 → Completes i s s.br.fresh.hostArrives)

/-- The near tier's lines that a command does not write or empty read as before (R106): what a command of own effect `b` lands on is what
that effect and what settles after it land on. The last landing on a line is what the line holds: written, or emptied. Power-on reset
(POWER_ON_RESET, and SUPPLY_FAULT below the threshold) leaves the near tier empty (log entry 11, the model's choice). -/
def Obligations.NearTierFrame : Prop :=
  (∀ (s t : State) (b : Bridge) (frame line : Nat), Follows s b t →
      (∀ e ∈ (s.br.fresh.settle b).lands, e.1 ≠ frame * 64 + line) → nearAt t.near frame line = nearAt s.near frame line)
    ∧ (∀ (ls : List (Nat × Option Line)) (m : Near) (frame line : Nat) (c : Option Line), Near.wf m →
      nearAt (landAll (ls ++ [(frame * 64 + line, c)]) m) frame line = c)
    ∧ ∀ (kept : Bool) (s t : State), (exec (.powerOnReset kept) s = .next t ∨ exec (.supplyFault true) s = .next t) → t.near = []

/-- Where nothing goes on by itself after the own effect `b` of a command, the bridge is left as `b` says in every field but interrupt
levels, and what `b` sent is sent. -/
def Obligations.StillBridgeStaysAsLeft : Prop :=
  ∀ was b : Bridge, was.goesOn b = false →
    (was.settle b).glb = b.glb ∧ (was.settle b).ch = b.ch ∧ (was.settle b).herd = b.herd ∧ (was.settle b).ten = b.ten
      ∧ (was.settle b).port = b.port ∧ (was.settle b).faults = b.faults ∧ (was.settle b).jrn = b.jrn ∧ (was.settle b).knl = b.knl
      ∧ (was.settle b).boot = b.boot ∧ (was.settle b).fuses = b.fuses ∧ (was.settle b).pwr = b.pwr ∧ (was.settle b).tlm = b.tlm
      ∧ (was.settle b).scan = b.scan ∧ (was.settle b).citan = b.citan ∧ (was.settle b).cxl = b.cxl ∧ (was.settle b).image = b.image
      ∧ (was.settle b).lands = b.lands ∧ (was.settle b).free = b.free ∧ b.out <+: (was.settle b).out

-- Numbered rules --------------------------------------------------------------------------------------------------------------------

/-- R389. Every event of a source that its block implements and that is not muted (R387) enters the block's history queue of 8, over the
oldest entry, with the timestamp, the source, the kind, the FORCED flag and the low 32 bits of the detail; whether the log takes the event
or suppresses it makes no difference. No other entry of the queue changes. -/
def Obligations.HistoryQueueRecordsEveryEvent : Prop :=
  ∀ (b : Bridge) (k s : Nat) (forced : Bool) (detail : Nat) (inst : Option Nat) (kind : FaultKind), faultKind k s = some kind →
    (forced || !b.muted k s) = true →
    let x := (b.countEvent k s forced detail inst).faults.blk k
    x.hist = Tbl.put (b.faults.blk k).next { time := b.glb.time, src := s, forced := forced, kind := kind, detail := detail % 2 ^ 32 } (b.faults.blk k).hist
      ∧ x.next = ((b.faults.blk k).next + 1) % 8
      ∧ ∀ j, j ≠ (b.faults.blk k).next → Tbl.find j x.hist = Tbl.find j (b.faults.blk k).hist

/-- R419. A core completes a source it holds by writing its number: resident firmware has served the source by then (log entry 13, the model's
choice), the level is sampled again, and the source is PENDING where it is high
and ENABLE is 1, else IDLE. A completion is discarded, and sets BAD_COMPLETE, where the core does not hold the source, or the number is
1022, 1023 or a reserved source: nothing else changes. -/
def Obligations.CompletionResamplesOrIsDiscarded : Prop :=
  (∀ (s : State) (b : Bridge) (k : Fin 5) (i : Nat), Live s b → i < 1022 → icuReserved i = false →
      (b.icu.source i).state = .inService → (b.icu.source i).core = k →
      let x := (b.served i).icu.source i
      Completes (.icuComplete k i) s
        { b.served i with icu := (b.served i).icu.modSrc i (fun y => { y with state := if x.level && x.enable then .pending else .idle, core := 0 }) })
    ∧ (∀ (s : State) (b : Bridge) (k : Fin 5) (i : Nat), Live s b →
      (1022 ≤ i ∨ icuReserved i = true ∨ (b.icu.source i).state ≠ .inService ∨ (b.icu.source i).core ≠ k) →
      Completes (.icuComplete k i) s { b with icu := { b.icu with badComplete := true } })

/-- R331. Resident firmware writes a notification into the buffer only while NOTIFY is 0, and then sets NOTIFY; up to 8 further ones wait;
one beyond those is dropped and sets NOTIFY_LOST. Software's acknowledgement clears NOTIFY, or lets the oldest that waits into the buffer. -/
def Obligations.NotificationsWaitInOrder : Prop :=
  (∀ (fn kind tag : Nat) (data : List Byte) (b : Bridge), (b.mbx fn).notifyFull = false →
      ((b.notify fn kind tag data).mbx fn).notifyFull = true ∧ ((b.notify fn kind tag data).mbx fn).waiting = (b.mbx fn).waiting
        ∧ ((b.notify fn kind tag data).mbx fn).notify
          = bufOf (leBytes 2 kind ++ leBytes 2 data.length ++ leBytes 4 tag ++ leBytes 8 b.glb.time ++ leBytes 8 b.stride ++ data))
    ∧ (∀ (fn kind tag : Nat) (data : List Byte) (b : Bridge), (b.mbx fn).notifyFull = true → (b.mbx fn).waiting.length < 8 →
      ∃ w, b.notify fn kind tag data = b.modMbx fn (fun m => { m with waiting := m.waiting ++ [w] }))
    ∧ (∀ (fn kind tag : Nat) (data : List Byte) (b : Bridge), (b.mbx fn).notifyFull = true → 8 ≤ (b.mbx fn).waiting.length →
      b.notify fn kind tag data = b.modMbx fn (fun m => { m with notifyLost := true }))
    ∧ (∀ (s : State) (b : Bridge) (fn : Fin 256), RegTakes s true fn b → (b.mbx fn).notifyFull = true → (b.mbx fn).waiting = [] →
      Completes (.notifyAck fn) s (b.modMbx fn (fun m => { m with notifyFull := false })))
    ∧ (∀ (s : State) (b : Bridge) (fn : Fin 256) (w : List Word) (rest : List (List Word)), RegTakes s true fn b →
      (b.mbx fn).notifyFull = true → (b.mbx fn).waiting = w :: rest →
      Completes (.notifyAck fn) s (((b.modMbx fn (fun m => { m with notify := (List.range 64).zip w, waiting := rest })).level 898 true).mbxIrq fn
        (b.mbx fn).notifyIrq))

/-- R334. While a function other than PF0 has no live instance (none, creating or tearing), its mailbox takes IDENTIFY and ECHO of group 0x01
only; every other command, whatever its row, completes with DENIED and does nothing else. -/
def Obligations.NoInstanceNoCommands : Prop :=
  ∀ (op : Nat) (cls : Caller) (lenOk : Cmd → Bool) (check : Cmd → Bridge → Option Answer) (act : Cmd → Bridge → Bridge) (fn slot : Nat) (b : Bridge),
    fn ≠ 0 → (b.inst fn).state ≠ .live → b.citanServes = true → b.nextPosted fn slot = true →
    (b.cmdOf fn slot).ref.op = op → op ≠ 0x101 → op ≠ 0x102 →
    b.citanRun op cls lenOk check act fn slot = b.visited.respond (b.cmdOf fn slot).ref 3 0 0 []

/-- R110. The decay: every non-zero heat h becomes h - max(1, h >> DECAY_SHIFT), and one that comes to 0 is listed no more. A tick makes it due
where its stride is a multiple of 2^DECAY_PERIOD, and at no other; HEAT_DECAY is that decay, once; where no command has asked for it, it comes
with all else that the tick makes due.
It rests on log entry 1 (the model's). -/
def Obligations.HeatDecaysAtItsTicks : Prop :=
  (∀ (s : State) (b : Bridge), Live s b → b.herd.decayDue = true →
      Completes .heatDecay s (b.modHerd (fun h => { h with
        decayDue := false
        heat := (h.heat.map (fun e => (e.1, e.2 - Nat.max 1 (e.2 >>> h.tune.decayShift)))).filter (fun e => decide (e.2 ≠ 0)) })))
    ∧ (∀ (s : State) (b : Bridge), Live s b → b.herd.decayDue = false → Completes .heatDecay s b)
    ∧ (∀ b : Bridge, b.decayTick.herd.decayDue = true ↔ 2 ^ b.herd.tune.decayPeriod ∣ b.stride)
    ∧ (∀ b : Bridge, b.heldAll = false →
      b.tickDue.herd.heat = if b.herd.decayDue then
        (b.herd.heat.map (fun e => (e.1, e.2 - Nat.max 1 (e.2 >>> b.herd.tune.decayShift)))).filter (fun e => decide (e.2 ≠ 0)) else b.herd.heat)

/-- R53. When a channel is fenced, its scheduler admits nothing further: an admission decision, a management send, a scrub read and a step of
the online self-test find it so, and change nothing. -/
def Obligations.FencedChannelAdmitsNothing : Prop :=
  ∀ (s : State) (b : Bridge) (n : Fin 16), Live s b → b.chFenced n = true →
    Completes (.admissionDecision n) s b ∧ (∀ send, Completes (.workUnitArrival n send) s b)
      ∧ (∀ first lines, Completes (.scrubReadStart n first lines) s b)
      ∧ (∀ window out inb eng, Completes (.onlineSelfTestStep n window out inb eng none false) s b)

/-- R336. Acquiring and releasing a semaphore: a reader in the access set gets a free one, the holder gets it again, another reader is told
the holder; a reader outside the set gets NO_ACCESS and is counted. The holder's release frees it (and its FCLK is kept, for a teardown of the
holder in the same one); any other function's is discarded and counted. -/
def Obligations.SemaphoresHaveOneHolder : Prop :=
  (∀ (s : State) (b : Bridge) (fn : Fin 256) (k : Fin 64), RegTakes s false fn b → (b.semOf k).access.getLsbD fn = true → (b.semOf k).holder = none →
      Completes (.semAcquireRead fn k) s ((b.modSem k (fun _ => { b.semOf k with holder := some fn, broken := false, relAt := none })).emit
        (.regData (9 + 2 * b2n (b.semOf k).broken + 256 * fn))))
    ∧ (∀ (s : State) (b : Bridge) (fn : Fin 256) (k : Fin 64) (h : Nat), RegTakes s false fn b → (b.semOf k).access.getLsbD fn = true →
      (b.semOf k).holder = some h →
      Completes (.semAcquireRead fn k) s (b.emit (.regData (b2n (decide (h = fn)) + 8 + 256 * h))))
    ∧ (∀ (s : State) (b : Bridge) (fn : Fin 256) (k : Fin 64), RegTakes s false fn b → (b.semOf k).access.getLsbD fn = false →
      Completes (.semAcquireRead fn k) s ((b.modTen (fun t => { t with semDenied := cnt32 t.semDenied 1 })).emit (.regData 4)))
    ∧ (∀ (s : State) (b : Bridge) (fn : Fin 256) (k : Fin 64), RegTakes s true fn b → (b.semOf k).holder = some fn.val →
      Completes (.semReleaseWrite fn k) s (b.modSem k (fun x => { x with holder := none, relAt := some (fn.val, b.glb.time) })))
    ∧ (∀ (s : State) (b : Bridge) (fn : Fin 256) (k : Fin 64), RegTakes s true fn b → (b.semOf k).holder ≠ some fn.val →
      Completes (.semReleaseWrite fn k) s (b.modTen (fun t => { t with semBadrel := cnt32 t.semBadrel 1 })))

-- Scheduler -------------------------------------------------------------------------------------------------------------------------

/-- R29, R31. STRIDE_TICK, once the stride that ends is sealed and its glide is over, takes the timestamp to the next multiple of 1,536, and
the tick follows. PLAN_SEAL and GLIDE_END come once in a stride, at FCLK 32 and 128 or later: at the first, what the tick made due is done and
every channel's plan is sealed; at the second, the locations reserved since the tick are freed, but those that a unit in overrun still uses
(R119). At a tick the changes that are ready take effect, and the translation entries that they touch become invalid (R78): nothing else that
they change is lost by that. It rests on log entry 1 (the model's). -/
def Obligations.TicksSealsAndGlides : Prop :=
  (∀ s : State, s.br.glb.sealedNow = true → s.br.glb.glideDone = true →
      Completes .strideTick s (s.br.fresh.toTime ((s.br.glb.time / 1536 + 1) * 1536)).tick)
    ∧ (∀ (s : State) (b x : Bridge), Live s b → b.glb.sealedNow = false →
      x = (if b.glb.time < b.glb.time / 1536 * 1536 + 32 then b.toTime (b.glb.time / 1536 * 1536 + 32) else b) →
      Completes .planSeal s (Bridge.each channels (fun n b => b.sealChannel n) (x.modGlb (fun g => { g with sealedNow := true })).tickDue))
    ∧ (∀ (s : State) (b x : Bridge), Live s b → b.glb.sealedNow = true → b.glb.glideDone = false → b.citan.prepared = [] →
      x = (if b.glb.time < b.glb.time / 1536 * 1536 + 128 then b.toTime (b.glb.time / 1536 * 1536 + 128) else b) →
      Completes .glideEnd s (x.modGlb (fun g => { g with glideDone := true })).freeIdle)
    ∧ (∀ b : Bridge, b.freeIdle.herd.freeing = b.herd.freeing.filter (fun e => b.locBusy e.1))
    ∧ (∀ was b : Bridge, (was.dropStale b).glb = b.glb ∧ (was.dropStale b).herd = b.herd ∧ (was.dropStale b).ten = b.ten
      ∧ (was.dropStale b).citan = b.citan ∧ (was.dropStale b).jrn = b.jrn ∧ (was.dropStale b).port = b.port)
    ∧ (∀ b : Bridge, ∃ was : Bridge, was.herd.desc = b.herd.desc ∧ was.citan = b.citan ∧ was.glb = b.glb
      ∧ b.tickMaps = was.dropStale (Bridge.each channels (fun n b => b.evacStopped n) ((was.applyPrepared).applyDemotions).prepareFolds))
    ∧ (∀ (b : Bridge) (p : Prepared), b.citan.prepared = [p] → p.isReady = true → p.awaits = true → p.cmd = none →
      b.applyPrepared = { b with citan := { b.citan with prepared := [] } }.applyChange p.change)

/-- R37, R44, R49, R50. A management send is queued in class 1. An admission decision first takes the destination part of a copy that an
earlier stride left, while its link carries traffic and no window has it; then the head list's first unit where the plan is sealed for it: each
resource from the class's reservation or else from the pool, the class 1 cap and the copies' ceiling kept; and the unit is admitted.
R47. YELLOW_AGEING: units of classes 2 and 3 that are yellow by their own colour and have waited four ticks are aged, once each, and counted. No
other unit changes. -/
def Obligations.UnitsAreQueuedAndAdmitted : Prop :=
  ((∀ (s : State) (b : Bridge) (n : Fin 16) (send : Bool), Live s b → b.chFenced n = false →
        Completes (.workUnitArrival n send) s (b.enqueue n { id := 0, cls := 1, inst := 0, kind := .mgmt send, port := 1 }))
      ∧ (∀ (s : State) (b : Bridge) (n : Fin 16) (u : WorkUnit) (rest : List WorkUnit), Live s b → b.chFenced n = false →
        b.pwr.state ≤ 2 → (b.chan n).sch.carried = [] → (b.chan n).sch.head = u :: rest →
        (b.chan n).sch.headLacks u.cls (b.planOf n u).cost = (false, false, false) →
        b.windowBlock n = (false, false, false) → b.ready n u (b.planOf n u) = true →
        (u.cls ≠ 5 ∨ (b.chan n).sch.ceilOk (b.planOf n u).cost = true) →
        Completes (.admissionDecision n) s
          ((b.modSch n (fun s => s.takeHead u.cls (b.planOf n u).cost)).admitUnit n u (b.planOf n u)
            ((b.chan n).sch.headFromRsv u.cls (b.planOf n u).cost) {}))
      ∧ (∀ (s : State) (b : Bridge) (n : Fin 16) (u : WorkUnit) (rest : List WorkUnit) (c first k : Nat), Live s b → b.chFenced n = false →
        b.pwr.state ≤ 2 → (b.chan n).sch.carried = u :: rest → u.kind = .copyDst c first k → b.linkOpen n = true →
        (b.windowBlock n).1 = false →
        Completes (.admissionDecision n) s ((b.admitUnit n u (b.planOf n u) {} {}).modSch n (fun s => { s with mig := s.mig.sub { out := k } }))))
    ∧ (∀ (s : State) (b : Bridge) (n : Fin 16), Live s b →
      let due : WorkUnit → Bool := fun u => (u.cls = 2 || u.cls = 3) && decide (4 ≤ u.ticks) && !u.aged && decide (b.ownColour n u = .yellow)
      Completes (.yellowAgeing n) s (b.modSch n (fun s => { s with
        aged := cnt32 s.aged (s.queue.filter due).length, queue := s.queue.map (fun u => if due u then { u with aged := true } else u) })))

/-- R34, R79, R91. UNIT_COMPLETE: a scrub's rewriting, a self-test step or a management send whose sends are out finishes, and the rewritten
line is in the near tier where it stands there; a drain, with no part left on another link, takes effect at its location and frees its entry. A
drain with a remote part does so at the REMOTE_COMPLETION_REPORT. All wait for accesses admitted earlier to the same place (R54).
R33, R51. A unit of an earlier stride still running at FCLK 128 of the next or later, by the link's round trip later where it has inbound
slots, is counted once in its stride, shown and noted as the channel's source 25; a channel on which one runs longer by the grace time has its
link taken down.
It rests on log entry 14 (the model's). -/
def Obligations.UnitsFinishOrOverrun : Prop :=
  ((∀ (s : State) (b : Bridge) (n : Fin 16) (uid : Nat) (r : Running), Live s b → b.runningUnit n uid = some r → r.await = [] →
        (∀ p ∈ r.places, b.earlierOn r.seq p = false) → b.unsent r = false →
        ((∃ c, r.unit.kind = .selfTest c) ∨ (∃ x, r.unit.kind = .mgmt x)) →
        Completes (.unitComplete n uid) s (b.finishUnit n uid))
      ∧ (∀ (s : State) (b : Bridge) (n : Fin 16) (uid ln : Nat) (l : Loc) (w : Codeword) (r : Running), Live s b →
        b.runningUnit n uid = some r → r.await = [] → (∀ p ∈ r.places, b.earlierOn r.seq p = false) → b.unsent r = false →
        r.unit.kind = .scrubWb ln l w →
        Completes (.unitComplete n uid) s ((b.finishUnit n uid).backDone r))
      ∧ (∀ (s : State) (b : Bridge) (n : Fin 16) (uid ln : Nat) (r : Running), Live s b → b.runningUnit n uid = some r → r.await = [] →
        (∀ p ∈ r.places, b.earlierOn r.seq p = false) → b.unsent r = false → r.unit.kind = .drain ln → r.remote = false →
        Completes (.unitComplete n uid) s (b.drainDone n uid ln r))
      ∧ (∀ (s : State) (b : Bridge) (n : Fin 16) (uid ln : Nat) (r : Running), Live s b → b.runningUnit n uid = some r → r.await = [] →
        (∀ p ∈ r.places, b.earlierOn r.seq p = false) → r.unit.kind = .drain ln → r.report = true →
        Completes (.remoteCompletionReport n uid) s (b.drainDone n uid ln r)))
    ∧ ((∀ (s : State) (b : Bridge) (n : Fin 16) (uid : Nat) (r : Running), Live s b → b.runningUnit n uid = some r →
        1536 + 128 + (if r.cost.inb = 0 then 0 else (b.chan n).sch.rtt) ≤ b.since r.stride * 1536 + b.phase →
        (b.chan n).sch.overAt ≠ r.stride + 1 →
        Completes (.schedulerOverrun n uid) s (((b.modSch n (fun s => { s with overruns := cnt32 s.overruns 1, overAt := r.stride + 1 })).modGlb
          (fun g => { g with overrun := putBit g.overrun n true, overrunNow := putBit g.overrunNow n true })).note n 25 uid))
      ∧ (∀ (s : State) (b : Bridge) (n : Fin 16) (r : Running), Live s b → r ∈ (b.chan n).sch.running →
        1536 + 128 + (if r.cost.inb = 0 then 0 else (b.chan n).sch.rtt) + (b.chan n).ll.graceUs * 1500 ≤ b.since r.stride * 1536 + b.phase →
        (b.chan n).ll.state = .up →
        Completes (.overrunGraceExpiry n) s ((b.lanesToDetect n).linkFalls n)))

/-- R57, R83, R505. A scrub read of 1 to 8 lines of one granule, within what class 6 may take at once, is queued in class 6 on a channel that is
not fenced and whose scrubber is not, where the lines' extent is the channel's; so is a step of the online self-test, which its last step
counts as a cycle.
It rests on log entry 81 (the model's). -/
def Obligations.ScrubAndSelfTestAreQueued : Prop :=
  (∀ (s : State) (b : Bridge) (n : Fin 16) (first lines : Nat), Live s b → b.chFenced n = false → (b.chan n).sch.scrubOff = false →
      1 ≤ lines → lines ≤ (b.chan n).sch.unitMost b.glb.shares.2.2 → first / 64 = (first + lines - 1) / 64 →
      (b.descOn n (first / 64 / 512)).isSome = true →
      Completes (.scrubReadStart n first lines) s (b.enqueue n { id := 0, cls := 6, inst := 0, kind := .scrubRead first lines, port := 3 }))
    ∧ (∀ (s : State) (b : Bridge) (n : Fin 16) (out inb eng : Nat), Live s b → b.chFenced n = false →
      out ≤ (b.chan n).sch.unitMost b.glb.shares.2.2 → inb ≤ (b.chan n).sch.unitMost b.glb.shares.2.2 →
      eng ≤ (b.chan n).sch.unitMost b.glb.shares.2.2 →
      Completes (.onlineSelfTestStep n false out inb eng none false) s
          (b.enqueue n { id := 0, cls := 6, inst := 0, kind := .selfTest { out := out, inb := inb, eng := eng }, port := 3 })
        ∧ Completes (.onlineSelfTestStep n false out inb eng none true) s
          (({ b with pwr := { b.pwr with stCycles := cnt32 b.pwr.stCycles 1 } } : Bridge).enqueue n
            { id := 0, cls := 6, inst := 0, kind := .selfTest { out := out, inb := inb, eng := eng }, port := 3 }))

-- Host requests and host data -------------------------------------------------------------------------------------------------------

/-- R66, R218, R222. A window read in PCI Express mode of at most 4,096 bytes inside one 4 KiB block, by a function that takes memory requests,
and of which the host has the credits (R219), reaches the tenancy unit at once where no request is held before it; behind one it is held (R88,
R92). A read of no bytes completes with four zero bytes once the writes before it are entered.
R21, R86. A read of memory that is not in service (base service, or a fenced tenancy unit) is answered with poison; nothing is metered and no
channel reached.
R203, R204, R218. A window request in CXL mode, of a function that takes none, or beyond the function's window BAR is an Unsupported Request. -/
def Obligations.WindowReads : Prop :=
  (∀ (s : State) (b : Bridge) (fn : Fin 256) (tag addr len : Nat), TlpTakes s false 0 b → b.port.up = true → b.port.cxl = false →
      b.takesMemory fn = true → b.inWindow fn addr = true → len ≤ 4096 → addr % 4096 + len ≤ 4096 →
      let b1 := b.modPort (fun p => { p with nextReq := p.nextReq + 1 })
      (b.port.held = [] → b.pwr.holdOver = false → len ≠ 0 → Completes (.windowMemoryRead fn tag addr len) s (b1.readReq false fn tag addr len b.glb.time))
        ∧ (b.port.held = [] → b.pwr.holdOver = false → len = 0 →
          Completes (.windowMemoryRead fn tag addr len) s (b1.emit (.cpl fn tag 0 (List.replicate 4 0) false)))
        ∧ (b.port.held ≠ [] → len ≠ 0 → Completes (.windowMemoryRead fn tag addr len) s
          (b1.hold b.port.nextReq (.read fn tag addr len b.glb.time) (.read fn tag addr len b.glb.time))))
    ∧ (∀ (cxl : Bool) (fn tag addr len since : Nat) (b : Bridge), (b.glb.level < 2 ∨ b.ten.fenced = true) →
      b.readReq cxl fn tag addr len since = b.poisonRead cxl fn tag addr len fn)
    ∧ (∀ (s : State) (b : Bridge) (fn : Fin 256) (tag addr len : Nat), HostTakes s b → b.port.up = true →
      (b.port.cxl = true ∨ b.takesMemory fn = false ∨ b.inWindow fn addr = false) →
      Completes (.windowMemoryRead fn tag addr len) s (b.unsupported fn false tag)
        ∧ ∀ data be ep, Completes (.windowMemoryWrite fn addr data be ep) s (b.unsupported fn true 0))

/-- R86, R88, R92, R222. A window write of at most Max_Payload_Size inside one 4 KiB block is counted and entered: where nothing is held before
it, it runs, and it is held where an entry it needs is not free; behind a held request it is held. A request that is held keeps its place and
its credits (R219); a write for which the host holds no credits is a receiver overflow.
R88, R92. Once a held request can go on, it does, and those behind it follow in order. -/
def Obligations.WindowWrites : Prop :=
  (∀ (s : State) (b : Bridge) (fn : Fin 256) (addr : Nat) (data : List Byte) (be : List Bool), HostTakes s b → b.port.up = true →
      b.port.cxl = false → b.takesMemory fn = true → b.inWindow fn addr = true → data.length ≤ b.mpsBytes →
      addr % 4096 + data.length ≤ 4096 →
      (b.port.hasCredit true (ceilDiv data.length 16) = false → ∀ ep, Completes (.windowMemoryWrite fn addr data be ep) s (b.aerUnc 17 0 false)) ∧
      (b.port.hasCredit true (ceilDiv data.length 16) = true →
      let b1 := (b.modPort (fun p => { p with rxWr := p.rxWr + data.length })).modPort (fun p => { p with nextReq := p.nextReq + 1 })
      (b.port.held = [] → b.pwr.holdOver = false → ∀ b2, b1.runReq (.write fn addr data be false) = (none, b2) →
          Completes (.windowMemoryWrite fn addr data be false) s b2)
        ∧ (b.port.held = [] → b.pwr.holdOver = false → ∀ w b2, b1.runReq (.write fn addr data be false) = (some w, b2) →
          Completes (.windowMemoryWrite fn addr data be false) s (b2.hold b.port.nextReq (.write fn addr data be false) w))
        ∧ (b.port.held ≠ [] → Completes (.windowMemoryWrite fn addr data be false) s
          (b1.hold b.port.nextReq (.write fn addr data be false) (.write fn addr data be false)))))
    ∧ (∀ (b : Bridge) (k : Nat) (q w : PortReq) (c : Bool × Nat), q.credit = some c → (b.hold k q w).port.held = b.port.held ++ [(k, w)]
      ∧ ((b.hold k q w).port.creditUse c.1).1 = (b.port.creditUse c.1).1 + 1
      ∧ ((b.hold k q w).port.creditUse c.1).2 = (b.port.creditUse c.1).2 + c.2)
    ∧ (∀ (s : State) (b b1 : Bridge) (k : Nat) (q : PortReq) (rest : List (Nat × PortReq)), Live s b → b.port.held = (k, q) :: rest →
      b.runReq q = (none, b1) → Completes .wcbEntryWaitEnd s ((b1.modPort (fun p => { p with held := rest })).releaseHeld rest.length))

/-- R90, R106. Data of a line on the near tier reaches the running host read, scrub read, drain, retriever unit or second read of a mirrored line
(R84) that asked for it and awaits it, after earlier accesses of that line, with what the near tier holds there.
It rests on log entries 3 and 38 (the model's). -/
def Obligations.NearDataReachesItsUnit : Prop :=
  ∀ (s : State) (b : Bridge) (n : Fin 16) (uid idx ln f : Nat) (check : LineCheck) (r : Running), Live s b →
    b.runningUnit n uid = some r → r.places[idx]? = some (ln, .near f) → r.await.contains idx = true → b.earlierOn r.seq (ln, .near f) = false →
    (∀ rid a k, r.unit.kind = .hostRead rid a k →
        Completes (.readDataReturn n uid idx check) s (b.hostNear n uid idx rid f ln r.gen (nearAt s.near f (ln % 64)) check r.unit.inst))
      ∧ (∀ lane a k, r.unit.kind = .retriever lane a k →
        Completes (.readDataReturn n uid idx check) s (b.pieceNear n uid idx lane f ln r.gen (nearAt s.near f (ln % 64)) check r.unit.inst))
      ∧ (∀ l, r.unit.kind = .drain l →
        Completes (.readDataReturn n uid idx check) s (b.drainNear n uid ln f r.gen (nearAt s.near f (ln % 64)) check r.unit.inst))
      ∧ (∀ a k, r.unit.kind = .scrubRead a k → Completes (.readDataReturn n uid idx check) s (b.scrubNear n uid idx f ln check (b.ownerOn n ln)))
      ∧ (∀ c u i p lost, r.unit.kind = .second c u i p lost →
        Completes (.readDataReturn n uid idx check) s (b.secondNear n uid idx f ln c u i (nearAt s.near f (ln % 64)) check))

/-- R193, R197, R218. Configuration requests of a function that exists and is not under retry status: a read completes with the register's
value; a write of all four bytes takes effect and completes. A function under retry status (LEVEL 0, an FLR) answers RRS, and a read of
dword 0 FFFF0001h where the host has made RRS visible to its software; one that does not exist, Unsupported Request. It rests on log entry 25 (the model's). -/
def Obligations.ConfigurationRequestsComplete : Prop :=
  ∀ (s : State) (b : Bridge) (fn : Fin 256) (tag dword : Nat),
    (TlpTakes s false 0 b → b.exists fn = true → b.cfgRetry fn = false →
        Completes (.configRead fn tag dword) s
          (b.emit (.cpl fn tag 0 (leBytes 4 (if fn.val = 0 then b.cfgPf0 (4 * dword) else b.cfgVf fn (4 * dword))) false)))
      ∧ (TlpTakes s false 1 b → b.exists fn = true → b.cfgRetry fn = false → ∀ value, Completes (.configWrite fn tag dword value 15) s
            ((if fn.val = 0 then b.cfgWritePf0 (4 * dword) (value &&& 0xFFFFFFFF) else b.cfgWriteVf fn (4 * dword) (value &&& 0xFFFFFFFF)).emit
              (.cpl fn tag 0 [] false)))
      ∧ (TlpTakes s false 0 b → b.exists fn = true → b.cfgRetry fn = true →
        ((dword ≠ 0 ∨ b.port.rrsVis = false) → Completes (.configRead fn tag dword) s (b.emit (.cpl fn tag 2 [] false)))
          ∧ (dword = 0 → b.port.rrsVis = true → Completes (.configRead fn tag dword) s (b.emit (.cpl fn tag 0 [1, 0, 0xFF, 0xFF] false))))
      ∧ (TlpTakes s false 1 b → b.exists fn = true → b.cfgRetry fn = true → ∀ value be,
        Completes (.configWrite fn tag dword value be) s (b.emit (.cpl fn tag 2 [] false)))
      ∧ (TlpTakes s false 0 b → b.exists fn = false → Completes (.configRead fn tag dword) s (b.unsupported fn false tag))

/-- R205, R215, R216. A Function Level Reset of a VF resets the function and leaves it under retry status until its internal reset completes;
that of PF0 resets the VFs, the INTA emulation and PF0, and is recorded as the last reset. VF Enable creates the VFs in full or degraded
service, and its clearing resets them one by one.
It rests on log entry 76 (the model's). -/
def Obligations.FunctionResets : Prop :=
  (∀ (s : State) (b : Bridge) (fn : Fin 256), TlpTakes s false 1 b → b.glb.level ≠ 0 → b.exists fn = true → fn.val ≠ 0 →
      Completes (.functionLevelReset fn) s (b.resetFn fn true))
    ∧ (∀ (s : State) (b : Bridge), TlpTakes s false 1 b → b.glb.level ≠ 0 →
      Completes (.functionLevelReset 0) s ((((b.vfsGo).intaReset false).resetFn 0 true).resetCause 3))
    ∧ (∀ (s : State) (b : Bridge) (fn : Fin 256), Live s b → Completes (.flrComplete fn) s (b.modFunc fn (fun f => { f with flr := false })))
    ∧ (∀ (s : State) (b : Bridge), TlpTakes s false 1 b → b.cfgRetry 0 = false → b.port.vfEnable = false → 2 ≤ b.glb.level →
      Completes (.vfEnableChange true) s (b.modPort (fun p => { p with vfEnable := true })))
    ∧ (∀ (s : State) (b : Bridge), TlpTakes s false 1 b → b.cfgRetry 0 = false →
      Completes (.vfEnableChange false) s ((b.each ((List.range b.port.numVfs).map (· + 1)) (fun n b => if b.port.vfEnable then b.resetFn n false else b)).modPort
        (fun p => { p with vfEnable := false })))

/-- R196, R209, R213, R242, R243, R218, R194, R207: writes of configuration fields with behaviour of their own, and messages. Mem_Enable, with the FCLK in which it
is set (R209); an HDM
decoder's commit, prepared for the next tick where it is sound, else Error Not Committed; D0 of a function; MSI-X Enable and Function Mask
of a VF, with the messages they let out; Interrupt Disable, with the INTA condition; Bus Master Enable cleared; the slot power limit. A
vendor-defined message of type 1 is dropped, one of type 0 is an Unsupported Request. PME_Turn_Off is acknowledged and told to firmware. Bit places that the tables
leave to the PCI Express and CXL specifications are PRESUMED (log entry 25). -/
def Obligations.ConfigurationFieldsAct : Prop :=
  (∀ (s : State) (b : Bridge) (on : Bool), TlpTakes s false 1 b → b.cfgRetry 0 = false →
      Completes (.memEnableWrite on) s (b.modPort (fun p => { p with
        memEnable := on, memAt := if on && !p.memEnable then some b.glb.time else p.memAt })))
    ∧ (∀ (s : State) (b : Bridge) (dec : Fin 8) (base size iw ig skip : Nat) (lock : Bool), HostTakes s b →
      ((Tbl.get ({} : Hdm) dec b.port.hdm).committed && (Tbl.get ({} : Hdm) dec b.port.hdm).lock) = false →
      let h : Hdm := { base := base, size := size, iw := iw, ig := ig, skip := skip, lock := lock }
      (b.port.hdmOk dec h = true → Completes (.hdmDecoderCommit dec base size iw ig skip lock) s (b.prepare (.hdmCommit dec h) 0))
        ∧ (b.port.hdmOk dec h = false → Completes (.hdmDecoderCommit dec base size iw ig skip lock) s
          (b.modPort (fun p => { p with hdm := Tbl.put dec { Tbl.get ({} : Hdm) dec b.port.hdm with err := true } p.hdm }))))
    ∧ (∀ (s : State) (b : Bridge) (fn : Fin 256), TlpTakes s false 1 b → b.cfgRetry fn = false → b.exists fn = true →
      (fn.val = 0 ∨ (b.func 0).power ≠ 3) →
      Completes (.powerStateWrite fn 0) s (b.modFunc fn (fun f => { f with power := 0 })))
    ∧ (∀ (s : State) (b : Bridge) (fn : Fin 256) (on : Bool), TlpTakes s false 1 b → b.cfgRetry fn = false → b.exists fn = true → fn.val ≠ 0 →
      ((b.func fn).msixEn ≠ on → Completes (.msixEnableChange fn on) s ((b.modFunc fn (fun f => { f with msixEn := on })).msixFlush fn))
        ∧ Completes (.functionMaskWrite fn on) s ((b.modFunc fn (fun f => { f with funcMask := on })).msixFlush fn)
        ∧ Completes (.busMasterEnableWrite fn false) s (b.modFunc fn (fun f => { f with bme := false })))
    ∧ (∀ (s : State) (b : Bridge) (on : Bool), TlpTakes s false 1 b → b.cfgRetry 0 = false →
      Completes (.interruptDisableWrite on) s (b.modFunc 0 (fun f => { f with intDisable := on })).intaEval)
    ∧ (∀ (s : State) (b : Bridge) (value : Nat), HostTakes s b →
      Completes (.setSlotPowerLimit value) s (b.modFunc 0 (fun f => f.store 25 0x0FFC0000 (value % 1024 * 2 ^ 18))))
    ∧ (∀ (s : State) (b : Bridge), HostTakes s b → Completes (.vendorDefinedMessage true) s b
      ∧ Completes (.vendorDefinedMessage false) s (b.unsupported 0 true 0))
    ∧ (∀ (s : State) (b : Bridge), HostTakes s b → b.port.up = true →
      Completes .pmeTurnOff s (((b.modPort (fun p => { p with pmeAck := true })).emit (.pme true)).level 775 true))

/-- R218, R237. An Unsupported Request is counted and logged as an advisory or non-fatal error; a non-posted one completes with UR.
R225, R226, R237. Completions of the bridge's own reads: one that no outstanding read awaits is an unexpected completion; the last data of a
CONSUMER read gives the job its value; an error status, or a timeout where it is not disabled, fails the read. Bit places that the tables
leave to the PCI Express and CXL specifications are PRESUMED (log entry 25). -/
def Obligations.RequestsAndCompletionsAnswered : Prop :=
  ((∀ (s : State) (b : Bridge) (fn : Fin 256) (tag : Nat), HostTakes s b → Completes (.unsupportedRequest fn false tag) s
        (((b.modPort (fun p => { p with ur := cnt32 p.ur 1 })).aerUnc 20 fn true).emit (.cpl fn tag 1 [] false)))
      ∧ (∀ (s : State) (b : Bridge) (fn : Fin 256) (tag : Nat), HostTakes s b → Completes (.unsupportedRequest fn true tag) s
        ((b.modPort (fun p => { p with ur := cnt32 p.ur 1 })).aerUnc 20 fn false)))
    ∧ ((∀ (s : State) (b : Bridge) (tag status : Nat) (data : List Byte), LinkTakes s b → Tbl.find tag b.port.outReads = none →
        Completes (.hostCompletionReceive tag status data false) s ((b.modPort (fun p => { p with unexp := cnt32 p.unexp 1 })).aerUnc 16 0 true))
      ∧ (∀ (s : State) (b : Bridge) (tag id : Nat) (data : List Byte) (o : OutRead), LinkTakes s b → Tbl.find tag b.port.outReads = some o →
        o.use = .consumer id →
        Completes (.hostCompletionReceive tag 0 data false) s
          ((((b.modPort (fun p => { p with txRd := p.txRd + (data.take o.len).length })).modPort
            (fun p => { p with outReads := Tbl.del tag p.outReads })).modJob id (fun j =>
              { j with rr := { j.rr with cons := leNat (bytesAt 0 8 (data.take o.len)), reading := false, short := false } })).jobPump id))
      ∧ (∀ (s : State) (b : Bridge) (tag status : Nat) (data : List Byte) (o : OutRead), LinkTakes s b → Tbl.find tag b.port.outReads = some o →
        status ≠ 0 → Completes (.hostCompletionReceive tag status data false) s
          ((((b.when (decide (status = 1 ∧ o.fn = 0)) (·.setStatus 13)).when (decide (status = 4 ∧ o.fn = 0)) (·.setStatus 12)).modPort (fun p => { p with outReads := Tbl.del tag p.outReads })).readFails o.use).askBlocks)
      ∧ (∀ (s : State) (b : Bridge) (tag : Nat) (o : OutRead), Live s b → Tbl.find tag b.port.outReads = some o → (b.func 0).cplDis = false →
        Completes (.completionTimeout tag) s
          ((((b.modPort (fun p => { p with outReads := Tbl.del tag p.outReads, cplTimeout := cnt32 p.cplTimeout 1 })).aerUnc 14 o.fn true).readFails
            o.use).askBlocks)))

/-- R100, R191, R209, R214, R233. CXL.mem in CXL mode: a read that an enabled decoder serves reaches the tenancy unit at its DPA; one that
none serves is unbacked, and its data is poisoned. A write that a decoder serves is run, and an unbacked one is counted and acknowledged.
MemSpecRd is accepted and ignored; any other request is a protocol error of the RAS capability. Bit places that the tables leave to the
PCI Express and CXL specifications are PRESUMED (log entry 25). -/
def Obligations.CxlMemRequests : Prop :=
  ∀ (s : State) (b : Bridge), HostTakes s b → b.takesCxl = true →
    (∀ tag hpa a, b.dpaServed hpa = some a → b.port.held = [] → b.pwr.holdOver = false →
        let c := (b.modPort (fun p => { p with nextReq := p.nextReq + 1 })).readReq true 0 tag (a / 64 * 64) 64 b.glb.time
        Completes (.cxlMemrd tag hpa) s c ∧ Completes (.cxlMemrddata tag hpa) s c)
      ∧ (∀ tag hpa, b.dpaServed hpa = none →
        Completes (.cxlMemrd tag hpa) s ((b.unbackedNone none hpa).poisonRead true 0 tag 0 64 0)
          ∧ Completes (.cxlMemrddata tag hpa) s ((b.unbackedNone none hpa).poisonRead true 0 tag 0 64 0))
      ∧ (∀ tag hpa data, b.dpaServed hpa = none →
        Completes (.cxlMemwr tag hpa data false) s (((b.modPort (fun p => { p with rxWr := p.rxWr + 64 })).unbackedNone none hpa).emit (.cmp tag 0))
          ∧ ∀ be, Completes (.cxlMemwrptl tag hpa data be false) s
            (((b.modPort (fun p => { p with rxWr := p.rxWr + 64 })).unbackedNone none hpa).emit (.cmp tag 0)))
      ∧ (∀ tag hpa a data be b2, b.dpaServed hpa = some a → b.port.held = [] → b.pwr.holdOver = false →
        ((b.modPort (fun p => { p with rxWr := p.rxWr + 64 })).modPort (fun p => { p with nextReq := p.nextReq + 1 })).runReq
          (.cxlWrite tag a data be false) = (none, b2) →
        Completes (.cxlMemwrptl tag hpa data be false) s b2 ∧ (be = BitVec.allOnes 64 → Completes (.cxlMemwr tag hpa data false) s b2))
      ∧ (∀ hpa, Completes (.cxlMemspecrd hpa) s b)
      ∧ (∀ op, Completes (.cxlM2sOther op) s ((b.modPort (fun p => { p with ras := putBit p.ras 9 true })).aerUnc 22 0 false))

/-- R187-R196, R215, R219, R237, R490: the host link. Hot reset and link-down reset the host port, and are recorded as the last reset; training
offers the mode that is latched, or both; a partner that refuses the latched mode leaves the link down until PERST_N; else the link comes up at
the rate, and at the widest width that the partner and the lanes give from logical lane 0, fewer lanes than the partner's are degraded service,
and the receive credits are advertised; L0p widths (asked for after 64 quiet strides), L1 and L1.2 as they are allowed; a link error is logged
under its AER bit. Bit places that the tables leave to the PCI Express and CXL specifications are PRESUMED (log entry 25). -/
def Obligations.HostLinkEvents : Prop :=
  (∀ (s : State) (b : Bridge), LinkTakes s b → Completes .hotReset s ((b.hostReset false).resetCause 2))
    ∧ (∀ (s : State) (b : Bridge), Live s b → b.port.up = true → Completes .hostLinkDown s
      (((b.hostReset true).modPort (fun p => { p with up := false, lstate := 0, quiet := 0, linkDown := cnt32 p.linkDown 1 })).clkOn.resetCause 2))
    ∧ (∀ (s : State) (b : Bridge) (cxl flit bypass reversed : Bool) (rate width lanes w : Nat), Live s b → b.pwr.perstLow = false →
      b.pwr.unfit = false → b.port.fenced = false → b.port.up = false → b.port.noMode = false →
      let x := b.emit (.linkOffer 0 (2 + if b.port.modeLatched then b2n b.port.cxl else 1))
      let r := Nat.min rate (if cxl then 5 else 6)
      let y := x.modPort (fun p => { p with
        modeLatched := true, cxl := cxl, flit := flit || cxl || decide (5 ≤ r), rate := r, width := w, active := w, reversed := reversed
        lanes := lanes % 65536, eq := p.eq ||| eqMask r bypass, up := true, lstate := 0, quiet := 0, pmeAck := false })
      (b.port.modeLatched = true → b.port.cxl ≠ cxl →
          Completes (.hostLinkTraining cxl ⟨flit, bypass⟩ rate width lanes reversed) s (x.modPort (fun p => { p with noMode := true })))
        ∧ ((b.port.modeLatched = true → b.port.cxl = cxl) → widthOf width lanes reversed = some w →
          (w < width → Completes (.hostLinkTraining cxl ⟨flit, bypass⟩ rate width lanes reversed) s
              ((({ y with glb := { y.glb with hostLanesLost := true } } : Bridge).degrade).clkOn.advertise).intaEval)
            ∧ (w = width → b.glb.hostLanesLost = false →
              Completes (.hostLinkTraining cxl ⟨flit, bypass⟩ rate width lanes reversed) s (y.clkOn.advertise).intaEval)))
    ∧ (∀ (s : State) (b : Bridge) (width : Nat), LinkTakes s b → b.port.up = true → b.port.flit = true → width ≤ b.port.width →
      width ∈ [1, 2, 4, 8, 16] →
      Completes (.l0pWidthRequest width) s
        ((b.modPort (fun p => { p with active := width, lstate := b2n (decide (width < p.width)), quiet := 0 })).emit (.linkOffer 1 width)))
    ∧ (∀ (s : State) (b : Bridge), Live s b → b.port.up = true → b.port.flit = true → 2 ≤ b.port.active → 64 ≤ b.port.quiet →
      Completes .l0pNarrowRequest s (b.emit (.linkOffer 2 (b.port.active / 2))))
    ∧ (∀ (s : State) (b : Bridge), Live s b → b.port.up = true → b.port.lstate < 2 → bitOf ((b.func 0).word 28) 1 = true →
      Completes .aspmL1Entry s (b.modPort (fun p => { p with lstate := 2 })))
    ∧ (∀ (s : State) (b : Bridge), Live s b → b.port.up = true → b.port.lstate = 2 → b.l12Allowed = true →
      Completes .l12Entry s ((b.modPort (fun p => { p with lstate := 3, clkreq := false })).emit (.pin .clkreqN true)))
    ∧ (∀ (s : State) (b : Bridge), Live s b →
      (∀ x ∈ [(0, 0), (1, 6), (2, 7), (3, 8), (4, 12), (5, 14)], Completes (.hostLinkError x.1) s ((b.aerCor x.2).note 0x24 8 x.1))
        ∧ (∀ x ∈ [(6, 4), (7, 13), (8, 17)], Completes (.hostLinkError x.1) s (b.aerUnc x.2 0 false))
        ∧ (bitOf ((b.func 0).word 70) 8 = true → Completes (.hostLinkError 9) s (b.aerUnc 19 0 false))
        ∧ (b.port.cxl = true →
          Completes (.hostLinkError 10) s ((b.modPort (fun p => { p with ras := putBit p.ras 8 true })).aerUnc 22 0 false)))

-- Registers -------------------------------------------------------------------------------------------------------------------------

/-- R5, R6, R27, R220. A 4-byte read of a register gives its value; one of the low half of a pair gives that half and keeps the high half for the
reader, whose read of the high half gives what was kept; an offset that no map lists reads 0. A 4-byte write of the scratch register is
stored. An access of another form is counted and noted; as a read it gives 0. None of these changes anything else.
R221. A write to a PBA changes nothing, whatever its form. A write of a function that arrives poisoned is not done: it is counted and is an
uncorrectable error (R238).
It rests on log entries 39, 74 and 86 (the model's). -/
def Obligations.RegisterAccesses : Prop :=
  (∀ (s : State) (b : Bridge) (who : Fin 261) (a : Nat), RegTakes s false who b → a % 4 = 0 → semAt who a = none →
      ((who.val = 0 ∨ 256 ≤ who.val) → firmwareOwned a = false) →
      (b.regOf who a = none → Completes (.loRegisterRead who a 4) s (b.emit (.regData 0)))
        ∧ (∀ v, b.regOf who a = some (.word v) → Completes (.loRegisterRead who a 4) s (b.emit (.regData (v % 2 ^ 32))))
        ∧ (∀ v, b.regOf who a = some (.lo v) → Completes (.loRegisterRead who a 4) s
          ((b.modFunc who (fun f => { f with latch := Tbl.put a (BitVec.ofNat 32 (v / 2 ^ 32)) f.latch })).emit (.regData (v % 2 ^ 32))))
        ∧ (∀ v, b.regOf who a = some (.hi v) → Completes (.loRegisterRead who a 4) s (b.emit (.regData (b.latchOf who (a - 4))))))
    ∧ (∀ (s : State) (b : Bridge) (who : Fin 261) (v : Nat), RegTakes s true who b → (who.val = 0 ∨ 256 ≤ who.val) → v < 2 ^ 32 →
      Completes (.registerWrite who 0x40 ⟨v, false⟩ 4) s { b with glb := { b.glb with scratch := BitVec.ofNat 32 v } })
    ∧ (∀ (s : State) (b : Bridge) (who : Fin 261) (a v size : Nat), goodForm a size = false →
      (RegTakes s true who b → pbaAt who a = false →
          Completes (.registerWrite who a ⟨v, false⟩ size) s ((b.modPort (fun p => { p with sizeErr := cnt32 p.sizeErr 1 })).note 0x24 10 a))
        ∧ (RegTakes s false who b → Completes (.loRegisterRead who a size) s
          (((b.modPort (fun p => { p with sizeErr := cnt32 p.sizeErr 1 })).note 0x24 10 a).emit (.regData 0))))
    ∧ (∀ (s : State) (b : Bridge) (who : Fin 261) (a v size : Nat), RegTakes s true who b → pbaAt who a = true →
      Completes (.registerWrite who a ⟨v, false⟩ size) s b)
    ∧ (∀ (s : State) (b : Bridge) (who : Fin 261) (a v size : Nat), RegTakes s true who b → who.val < 256 →
      Completes (.registerWrite who a ⟨v, true⟩ size) s ((b.modPort (fun p => { p with poisonRx := cnt32 p.poisonRx 1 })).aerUnc 12 who false))

/-- R63, R65, R104, R105, R143, R185, R247, R274, R314, R349, R411, R433, R451, R509, R525, R537. A write of a counter-clear register clears
the counters of its block that the mask names, but for what they have gained in the FCLK of the write (R65), and nothing of another block;
a counter that its bit names and that has gained nothing in the FCLK is 0, and one that its bit does not name stands. -/
def Obligations.CountersAreCleared : Prop :=
  (∀ (s : State) (b : Bridge) (m : Nat), RegTakes s true 0 b →
    (∀ n : Fin 16, Completes (.counterClear (0x1000000 + n * 0x80000 + 0x18) m) s (b.clearCh n (Channel.clearSch m))
        ∧ Completes (.counterClear (0x1000000 + n * 0x80000 + 0x2010) m) s (b.clearCh n (Channel.clearRtv m))
        ∧ Completes (.counterClear (0x1000000 + n * 0x80000 + 0x4010) m) s (b.clearCh n (Channel.clearPhy m))
        ∧ Completes (.counterClear (0x1000000 + n * 0x80000 + 0x5010) m) s (b.clearCh n (Channel.clearLl m))
        ∧ Completes (.eccLastClear n) s (b.modAcc n (fun a => { a with lastValid := false }))
        ∧ Completes (.wcbHighWaterReset n) s (b.modAcc n (fun a => { a with high := a.occupied })))
      ∧ (∀ k, k < 56 → Completes (.counterClear (0x410010 + k * 0x400) m) s (b.clearBlk k m))
      ∧ Completes (.counterClear 0x200014 m) s (b.clearHerd m)
      ∧ Completes (.counterClear 0x202008 m) s (b.clearJrn m)
      ∧ Completes (.counterClear 0x600008 m) s (b.clearTen m)
      ∧ Completes (.counterClear 0x840008 m) s (b.clearScan m)
      ∧ Completes (.counterClear 0x1900008 m) s (b.clearPort m)
      ∧ Completes (.counterClear 0x1A0000C m) s (b.clearTlm m)
      ∧ Completes (.counterClear 0x1A10014 m) s (b.clearPwr m))
    ∧ (∀ mask k was v : Nat, clr mask k was v = if bitOf mask k then v - was else v)
    ∧ (∀ (b : Bridge) (m : Nat),
      (b.clearHerd m).herd = Herder.clear m b.mark.herd b.herd ∧ (b.clearJrn m).jrn = Journal.clear m b.mark.jrn b.jrn
        ∧ (b.clearTen m).ten = Tenancy.clear m b.mark.ten b.ten ∧ (b.clearScan m).scan = Scans.clear m b.mark.scan b.scan
        ∧ (b.clearPort m).port = HostPort.clear m b.mark.port b.port
        ∧ (b.clearPwr m).pwr = { b.pwr with
            dozes := clr m 0 b.mark.pwr.dozes b.pwr.dozes, dozeAborts := clr m 1 b.mark.pwr.dozeAborts b.pwr.dozeAborts
            stCycles := clr m 2 b.mark.pwr.stCycles b.pwr.stCycles }
        ∧ (b.clearTlm m).tlm = { b.tlm with
            hostRd := clr m 0 b.mark.tlm.hostRd b.tlm.hostRd, hostWr := clr m 1 b.mark.tlm.hostWr b.tlm.hostWr
            sledLines := clr m 2 b.mark.tlm.sledLines b.tlm.sledLines, nearLines := clr m 3 b.mark.tlm.nearLines b.tlm.nearLines
            scanLines := clr m 4 b.mark.tlm.scanLines b.tlm.scanLines })
    ∧ (∀ (was h : Herder) (m : Nat), (Herder.clear m was h).promotes = clr m 0 was.promotes h.promotes ∧ (Herder.clear m was h).copies = h.copies)
    ∧ (∀ (was c : Channel) (m : Nat),
      Channel.clearSch m was c = { c with sch := Sched.clear m was.sch c.sch } ∧ Channel.clearRtv m was c = { c with rtv := Rtv.clear m was.rtv c.rtv }
        ∧ Channel.clearPhy m was c = { c with phy := Phy.clear m was.phy c.phy } ∧ Channel.clearLl m was c = { c with ll := Link.clear m was.ll c.ll }
        ∧ (Sched.clear m was.sch c.sch).defers = clr m 6 was.sch.defers c.sch.defers ∧ (Sched.clear m was.sch c.sch).c = c.sch.c)

/-- R330, R332. A mailbox slot: a word written while it is FREE is stored, in any other state discarded with WR_ERR; a doorbell posts a FREE
slot and gives it its place in the order, for any other it sets DB_ERR; a done acknowledgement frees a DONE slot. MBX_CTRL's enables are
stored, and one that is set while what it tells of stands raises the vector.
R145, R180, R181. A ring that is enabled starts empty, and the fetches it had under way count for it no more (R147); one that is disabled keeps its registers. A doorbell within the ring's size moves its
TAIL; one beyond it sets DB_ERR and is an event of the dispatcher. -/
def Obligations.MailboxSlotsAndRings : Prop :=
  (∀ (s : State) (b : Bridge) (fn : Fin 256) (slot : Fin 8), RegTakes s true fn b →
      (((b.mbx fn).slot slot).state = .free →
          (∀ word value, word < 64 → Completes (.mailboxCommandWrite fn slot word value) s
            (b.modMbx fn (fun m => m.modSlot slot (fun x => { x with cmd := Tbl.put word (BitVec.ofNat 32 value) x.cmd }))))
          ∧ Completes (.mailboxDoorbell fn (2 ^ slot.val)) s ((b.modTen (fun t => { t with nextOrder := b.ten.nextOrder + 1 })).modMbx fn
            (fun m => m.modSlot slot (fun x => { x with state := .posted, order := b.ten.nextOrder }))))
        ∧ (((b.mbx fn).slot slot).state ≠ .free →
          (∀ word value, word < 64 → Completes (.mailboxCommandWrite fn slot word value) s (b.modMbx fn (fun m => { m with wrErr := true })))
          ∧ Completes (.mailboxDoorbell fn (2 ^ slot.val)) s (b.modMbx fn (fun m => { m with dbErr := true })))
        ∧ (((b.mbx fn).slot slot).state = .done →
          Completes (.mailboxDoneAck fn (2 ^ slot.val)) s (b.modMbx fn (fun m => m.modSlot slot (fun x => { x with state := .free }))))
        ∧ (∀ r n : Bool, Completes (.mailboxCtrlWrite fn (b2n r + 2 * b2n n)) s
          ((b.modMbx fn (fun m => { m with respIrq := r, notifyIrq := n })).mbxIrq fn
            ((r && !(b.mbx fn).respIrq && decide ((b.mbx fn).done % 256 ≠ 0)) || (n && !(b.mbx fn).notifyIrq && (b.mbx fn).notifyFull)))))
    ∧ (∀ (s : State) (b : Bridge) (fn : Fin 256) (k : Fin 8), RegTakes s true fn b → k.val < b.ringCount fn →
      ((b.ring fn k).enable = false → Completes (.ringEnable fn k) s
          ((b.modRing fn k (fun r => { r with enable := true, head := 0, tail := 0, bells := [], marks := [] })).modScan (fun s => { s with
            fetch := s.fetch.map (fun e => (e.1, if e.2.fn = fn.val ∧ e.2.ring = k.val then { e.2 with stale := true } else e.2)) })))
        ∧ Completes (.ringDisable fn k) s (b.modRing fn k (fun r => { r with enable := false }))
        ∧ (∀ tail, tail < 65536 → (tail + 65536 - (b.ring fn k).head) % 65536 ≤ 2 ^ (b.ring fn k).sizeLog2 →
          Completes (.jobDoorbell fn k tail) s (b.modRing fn k (fun r => { r with tail := tail, bells := r.bells ++ [(tail, b.port.nextReq)] })))
        ∧ (∀ tail, tail < 65536 → 2 ^ (b.ring fn k).sizeLog2 < (tail + 65536 - (b.ring fn k).head) % 65536 →
          Completes (.jobDoorbell fn k tail) s ((b.modRing fn k (fun r => { r with dbErr := true })).event 0x29 8 false (fn * 8 + k) none)))

/-- R390, R404, R406, R408, R456, R531, R270. A force bit written while FORCE_LOCK is clear raises one forced event, and for a late-write source its
LATE_WR bits; FORCE_LOCK and DEBUG_LOCK take their first write; a written trigger makes a snapshot due, unless the trigger is disarmed;
REARM arms it; a telemetry latch keeps the readings of one FCLK, with the line
totals as they stood at its start; one PRBS error is injected where the lane sends PRBS, else at its start.
It rests on log entries 20 and 43 (the model's). -/
def Obligations.FaultAndServiceRegisters : Prop :=
  ∀ (s : State) (b : Bridge), RegTakes s true 0 b →
    (∀ (k : Nat) (src : Fin 32), b.faults.forceLock = false → ¬(k = 0x2F ∧ src.val = 0) →
        Completes (.faultForce k src) s ((b.modFlt (fun f => { f with lateWr := (lateBlocks k src).foldl (fun t n => Tbl.put n true t) f.lateWr })).event
          k src true 0 none))
      ∧ (b.faults.forceLock = false → Completes (.faultForce 0x2F 0) s
        (((b.modFlt (fun f => { f with lateWr := (lateBlocks 0x2F 0).foldl (fun t n => Tbl.put n true t) f.lateWr })).modMbx 0
          (fun m => { m with lateWr := true })).event 0x2F 0 true 0 none))
      ∧ (b.faults.forceWritten = false → Completes .forceLockSet s (b.modFlt (fun f => { f with forceLock := true, forceWritten := true })))
      ∧ (b.faults.armed = true → bitOf b.faults.due 0 = false → Completes .snapshotTrigger s (b.modFlt (fun f => { f with due := f.due + 1 })))
      ∧ (b.faults.armed = false → Completes .snapshotTrigger s
        ((b.modFlt (fun f => { f with missed := cnt32 f.missed 1 })).countEvent 0x37 9 false 0 none))
      ∧ Completes .snapshotRearm s (b.modFlt (fun f => { f with armed := true }))
      ∧ (∀ was : Bridge, was = { b with tlm := { b.tlm with
          hostRd := b.mark.totals.hostRd, hostWr := b.mark.totals.hostWr, sledLines := b.mark.totals.sledLines,
          nearLines := b.mark.totals.nearLines, scanLines := b.mark.totals.scanLines } } →
        Completes .telemetryLatch s (b.modTlm (fun t => { t with
          latched := some ((List.range 72).map (fun i => (i + 4, BitVec.ofNat 32 (was.readingWord (4 * (i + 4)))))) })))
      ∧ (b.knl.debugWritten = false → Completes .debugLockSet s (b.modKnl (fun k => { k with debugOff := true, debugWritten := true })))
      ∧ (∀ (n : Fin 16) (k : Fin 5), (b.phy n).sendsPrbs k = false →
        Completes (.prbsInjectOne n k) s (b.modLane n k (fun l => { l with injOne := true })))

/-- R242, R243. PF0's INTA emulation: a pending bit clears when 1 is written to it, unless it was set in the same FCLK, and the condition's message is
sent where it differs from the last sent; the enables are stored, and the condition is looked at in the next FCLK (R244); the pacing of 16
FCLK over, it is looked at again. An entry of a function's MSI-X table
takes a dword, and a message that waits and can now be sent is sent. -/
def Obligations.HostInterruptRegisters : Prop :=
  (∀ (s : State) (b : Bridge) (mask : BitVec 64), RegTakes s true 0 b →
      Completes (.intaPendingClear mask) s (b.modPort (fun p => { p with
          intaPend := p.intaPend &&& ~~~ (mask &&& ~~~ (if b.port.intaNew.1 = b.glb.time then b.port.intaNew.2 else 0)) })).intaEval
        ∧ Completes (.intaEnableWrite mask) s (b.modPort (fun p => { p with intaEn := mask, intaDue := true })))
    ∧ (∀ (t : Nat) (b : Bridge), b.port.intaDue = true →
      b.toTime t = ((b.advance t).modPort (fun p => { p with intaDue := false })).intaEval)
    ∧ (∀ (s : State) (b : Bridge), Live s b → Completes .intaMessagePacing s (b.modPort (fun p => { p with intaPaced := false })).intaEval)
    ∧ (∀ (s : State) (b : Bridge) (fn : Fin 256) (v : Fin 64) (value : Nat), RegTakes s true fn b → b.takesMemory fn = true →
      v.val < Nat.max 1 (b.vectors fn) →
      Completes (.msixTableWrite fn v 0 value) s
          ((b.modFunc fn (Func.setEntry v (fun e => { e with addr := e.addr / 2 ^ 32 * 2 ^ 32 + value % 2 ^ 32 / 4 * 4 }))).msixFlush fn)
        ∧ Completes (.msixTableWrite fn v 1 value) s
          ((b.modFunc fn (Func.setEntry v (fun e => { e with addr := value % 2 ^ 32 * 2 ^ 32 + e.addr % 2 ^ 32 }))).msixFlush fn)
        ∧ Completes (.msixTableWrite fn v 2 value) s ((b.modFunc fn (Func.setEntry v (fun e => { e with data := value % 2 ^ 32 }))).msixFlush fn)
        ∧ Completes (.msixTableWrite fn v 3 value) s ((b.modFunc fn (Func.setEntry v (fun e => { e with masked := bitOf value 0 }))).msixFlush fn))

/-- R415-R423. The interrupt controller: a claim takes the deliverable source of highest priority, which its core then holds and which sets the
TAKEN flag of the other cores it is aimed at; a claim that finds none answers 1022 after a withdrawal, else 1023, and under the global disable
1023; either clears the core's flags. THRESHOLD and GDIS are stored. A level that rises counts and is offered. A group fires at its time
threshold. A stride timer records its stride and raises its source.
It rests on log entries 78 and 79 (the model's). -/
def Obligations.InterruptControllerCommands : Prop :=
  ∀ (s : State) (b : Bridge), Live s b →
    (∀ (k : Fin 5) (i : Nat), bitOf b.glb.coreFenced k = false → b.icu.gdis = false → b.icu.fenced = false → b.bestFor k = some i → i < 1022 →
        let u := b.icu.modCore k (fun p => { p with last := i, withdrawn := false, taken := false, withdrawnLater := false })
        let u := u.modSrc i (fun x => { x with state := .inService, core := k })
        Completes (.icuClaim k) s (({ b with icu := ((targets (b.icu.source i).target).filter (fun j => decide (j ≠ k.val))).foldl (fun u j => u.modCore j CorePort.setTaken) u } : Bridge).emit
          (.regData i)))
      ∧ (∀ k : Fin 5, bitOf b.glb.coreFenced k = false → (b.icu.gdis = true ∨ b.icu.fenced = true ∨ b.bestFor k = none) →
        let v := if b.icu.gdis = false ∧ b.icu.fenced = false ∧ (b.icu.port k).withdrawn = true ∧ (b.icu.port k).withdrawnLater = true then 1022 else 1023
        Completes (.icuClaim k) s (({ b with icu := b.icu.modCore k (fun p => { p with last := v, withdrawn := false, taken := false, withdrawnLater := false }) } : Bridge).emit
          (.regData v)))
      ∧ (∀ (k : Fin 5) (v : Nat), v < 16 → Completes (.icuThresholdWrite k v) s { b with icu := b.icu.modCore k (fun p => { p with threshold := v }) })
      ∧ (∀ on, Completes (.icuGlobalDisableWrite on) s { b with icu := { b.icu with gdis := on } })
      ∧ (∀ i, i ≠ 969 → icuReserved i = false → b.icu.fenced = false → (b.icu.source i).level = false →
        Completes (.icuSourceLevelChange i true) s
          { b with icu := (b.icu.modSrc i (fun x => { x with level := true, events := satAdd 255 x.events 1 })).offer i })
      ∧ (∀ g : Fin 32, (b.icu.grp g).round = true → (b.icu.grp g).timeTh ≠ 0 → (b.icu.grp g).timeTh ≤ (b.icu.grp g).ticks → g ≠ 0 → b.icu.fenced = false →
        Completes (.icuGroupTimeExpiry g) s { b with icu := b.icu.fire g })
      ∧ (∀ t : Fin 4, Completes (.strideTimerExpiry t) s
        (({ b with icu := { b.icu with timers := Tbl.put t b.stride b.icu.timers } } : Bridge).level (971 + t) true))

-- Citan commands ---------------------------------------------------------------------------------------------------------------------

/-- R351, R364, R365. Group 0x01's reports, each answered at once with OK: IDENTIFY with the firmware's, the part's and the caller's
identity; ECHO with its own parameters; SERVICE_REPORT with the fenced and spare units, vetoes and channels; OP_STATUS with zeros where
the caller has no operation of the TAG, with state 1 and its progress where it runs, with state 2, its status and its last stride where it
has ended; TAMPER_REPORT with latch, count and log. R271, R364, R365, R504, R506. LANE_TEST of a fenced or unadmitted channel whose lanes
are free takes its link down and its lanes towards TEST at the commanded rate, and waits; at the end of its duration, with no lane locked,
the command is answered and the lanes train again. SELF_TEST of a unit out of service starts an operation, which ends with its result.
DIAG_HOLD arms or disarms the hold; DIAG_RELEASE ends it and loads the maps. It rests on log entries 18 and 68 (the model's). -/
def Obligations.ReportsAndDiagnostics : Prop :=
  ((∀ (s : State) (b : Bridge) (fn : Fin 256) (slot : Fin 8) (c : Cmd), CitanTakes s fn slot 0x101 .any b c → c.len = 0 →
        Completes (.identify fn slot) s (b.respond c.ref 0 0 0 (leBytes 2 0x100 ++ leBytes 1 b.boot.slot ++ leBytes 1 b.glb.level
          ++ leBytes 4 (if b.boot.rom then 0 else (b.fwSlot b.boot.slot).version) ++ leBytes 4 glbId ++ leBytes 8 b.serial
          ++ leBytes 1 b.glb.baseCause ++ leBytes 1 (popCount b.glb.coreActive 5) ++ leBytes 1 c.ref.fn ++ leBytes 1 0)))
      ∧ (∀ (s : State) (b : Bridge) (fn : Fin 256) (slot : Fin 8) (c : Cmd), CitanTakes s fn slot 0x102 .any b c → c.len ≤ 232 →
        Completes (.echo fn slot) s (b.respond c.ref 0 0 0 (bytesAt 16 c.len c.bytes)))
      ∧ (∀ (s : State) (b : Bridge) (fn : Fin 256) (slot : Fin 8) (c : Cmd), CitanTakes s fn slot 0x103 .manager b c → c.len = 0 →
        Completes (.serviceReport fn slot) s (b.respond c.ref 0 0 0 (leBytes 4 b.glbUnitFenced ++ leBytes 4 b.glbSpareUse ++ leBytes 4 b.glbSpareHbm
          ++ leBytes 4 b.glb.veto ++ channels.flatMap (fun n => leBytes 2 (b.channelSummary n)))))
      ∧ (∀ (s : State) (b : Bridge) (fn : Fin 256) (slot : Fin 8) (c : Cmd), CitanTakes s fn slot 0x104 .any b c → c.len = 4 →
        ((∀ o ∈ b.citan.ops, o.tag ≠ c.u 16 4) → Completes (.opStatus fn slot) s (b.respond c.ref 0 0 0 (leBytes 16 0)))
          ∧ (∀ o, b.citan.ops = [o] → o.running = true → o.tag = c.u 16 4 → o.fn = c.ref.fn →
            Completes (.opStatus fn slot) s
              (b.respond c.ref 0 0 0 (leBytes 1 1 ++ leBytes 1 0 ++ leBytes 2 o.op ++ leBytes 4 (b.progressOf o) ++ leBytes 8 0)))
          ∧ ∀ o, b.citan.ops = [o] → o.running = false → o.tag = c.u 16 4 → o.fn = c.ref.fn →
            Completes (.opStatus fn slot) s
              (b.respond c.ref 0 0 0 (leBytes 1 2 ++ leBytes 1 o.status ++ leBytes 2 o.op ++ leBytes 4 0 ++ leBytes 8 o.endStride)))
      ∧ (∀ (s : State) (b : Bridge) (fn : Fin 256) (slot : Fin 8) (c : Cmd), CitanTakes s fn slot 0x109 .manager b c → c.len = 0 →
        Completes (.tamperReport fn slot) s (b.respond c.ref 0 0 0 (leBytes 1 (b2n b.knl.latch) ++ leBytes 1 0 ++ leBytes 2 b.knl.count ++ b.knl.logBytes))))
    ∧ ((∀ (s : State) (b : Bridge) (fn : Fin 256) (slot : Fin 8) (c : Cmd), CitanTakes s fn slot 0x105 .manager b c → c.len = 8 →
        c.u 16 1 < 16 → c.u 17 1 < 8 → c.u 18 1 < 4 → c.reserved 19 1 = none → 1 ≤ c.u 20 2 → c.u 20 2 ≤ 1000 → c.reserved 22 2 = none →
        (b.chFenced (c.u 16 1) = true ∨ (b.chan (c.u 16 1)).svc.admitted = false) → b.lanesBusy (c.u 16 1) = false →
        let d := ((b.taken c.ref).modPhy (c.u 16 1) (fun p => { (p.allLanes (fun l => { l with testBase := (l.prbsBits, l.prbsErr) })) with
          attempt := 0, fail := 0, test := c.u 17 1, testRate := some (c.u 18 1) })).lanesToDetect (c.u 16 1)
        let d := d.linkFalls (c.u 16 1)
        Completes (.laneTest fn slot) s { d with citan := { d.citan with waits := d.citan.waits ++ [(c.ref, 2 ^ c.u 16 1)] } })
      ∧ (∀ (s : State) (b : Bridge) (n : Fin 16), Live s b → (b.phy n).testRate.isSome = true → (b.phy n).state = .test →
        (∀ k, ((b.phy n).ln k).prbsLock = false) →
        Completes (.laneTestDurationExpiry n []) s
          (((((b.each [0, 1, 2, 3, 4] (fun k b => b.modLane n k (fun l => l))).endLaneTest n 0).emit (.lanes n .nothing)).modPhy n
            (fun p => { p with attempt := 0 })).lanesToDetect n |>.linkFalls n))
      ∧ (∀ (s : State) (b : Bridge) (fn : Fin 256) (slot : Fin 8) (c : Cmd), CitanTakes s fn slot 0x106 .manager b c → c.len = 4 →
        c.u 16 1 = 1 → c.u 17 1 < 16 → c.u 18 1 = 0 → (c.u 19 1 = 1 ∨ c.u 19 1 = 2) → b.testable 1 (c.u 17 1) 0 = true →
        b.opBusy (65536 + c.u 17 1) = false →
        Completes (.selfTest fn slot) s (b.startOp c (65536 + c.u 17 1) (if c.u 19 1 = 1 then 3 else 7)))
      ∧ (∀ (s : State) (b : Bridge) (unit : Nat) (o : Operation), Live s b → b.opOn 0x106 (65536 + unit) = some o →
        Completes (.selfTestEnd 1 unit 0 0) s (b.endOp o 0 (leBytes 4 0)))
      ∧ (∀ (s : State) (b : Bridge) (fn : Fin 256) (slot : Fin 8) (c : Cmd), CitanTakes s fn slot 0x107 .manager b c → c.len = 1 → c.u 16 1 < 2 →
        Completes (.diagHold fn slot) s
          (({ b with boot := { b.boot with hold := decide (c.u 16 1 = 1) } } : Bridge).respond c.ref 0 0 0 []))
      ∧ (∀ (s : State) (b : Bridge) (fn : Fin 256) (slot : Fin 8) (c : Cmd), CitanTakes s fn slot 0x108 .manager b c → c.len = 0 →
        b.boot.heldAt = true → b.jrn.replaying = false → b.pwr.levelDue = false →
        Completes (.diagRelease fn slot) s ((({ b with boot := { b.boot with hold := false } } : Bridge).respond c.ref 0 0 0 []).loadMaps)))

/-- R323, R458, R460, R464. TAMPER_RELEASE with the count and serial number that stand, its MAC good once a release key is programmed, no source
active and the kennel working, clears the latch; in base service it does no more, else a KEK is there again and firmware is told. KEY_CHANGE
seals a new generation of the instance's key, generated or as the import unwraps to, and prepares its switch for the next tick; while the kennel
is unavailable it answers FENCED.
It rests on log entries 5, 17 and 60 (the model's). -/
def Obligations.KeyAndTamperCommands : Prop :=
  (∀ (s : State) (b : Bridge) (fn : Fin 256) (slot : Fin 8) (c : Cmd), CitanTakes s fn slot 0x10A .manager b c → c.len = 64 →
      c.u 16 2 = b.knl.count → c.reserved 18 6 = none → c.u 24 8 = b.serial → (bitOf (b.fuse 3) 3 = false ∨ c.macGood b = true) → b.knl.lost = false →
      b.knl.active = 0 →
      let d := b.modKnl (fun k => { k with latch := false })
      Completes (.tamperRelease fn slot true) s ((if b.glb.level = 1 then d else d.ensureKek.level 931 true).respond c.ref 0 0 0 []))
    ∧ (∀ (s : State) (b : Bridge) (fn : Fin 256) (slot : Fin 8) (c : Cmd), CitanTakes s fn slot 0x601 .manager b c → c.len = 144 →
      (b.inst (c.u 16 1)).state = .live → c.u 17 1 ≤ 1 → c.reserved 18 62 = none → b.keyOp = false → b.tamperSet = false → b.knl.lost = false →
      firstBad c.keyChecks = none → (c.u 17 1 = 1 → (c.unwrapped b).isSome = true) →
      let d := b.modKnl (fun k => { (k.sealKey (c.u 16 1) b.knl.nextGen) with
        nextGen := b.knl.nextGen + 1
        imported := if c.u 17 1 = 1 then Tbl.put b.knl.nextGen ((c.unwrapped b).getD 0) k.imported else k.imported })
      Completes (.keyChange fn slot true) s (d.atTick c (.keyChange (c.u 16 1) b.knl.nextGen (decide (c.u 17 1 = 1))) 0 []))
    ∧ (∀ (s : State) (b : Bridge) (fn : Fin 256) (slot : Fin 8) (c : Cmd) (healthy : Bool), CitanTakes s fn slot 0x601 .manager b c → c.len = 144 →
      (b.inst (c.u 16 1)).state = .live → c.u 17 1 ≤ 1 → c.reserved 18 62 = none → b.keyOp = false → b.tamperSet = false → b.knl.lost = true →
      Completes (.keyChange fn slot healthy) s (b.respond c.ref 7 0 0 []))

/-- R320-R323, R363, R366-R368. Instances: INST_CREATE reserves the instance's resources, seals its key, and prepares its switch behind
its records; INST_TEARDOWN begins the teardown and prepares it; once the instance is drained, 128 FCLK after its tick, its maps and key
are gone, behind their records; INST_QUERY of no instance answers zeros; SEG_READ gives the words of a range of segments. It rests on log entries 5, 22 and 54
(the model's). -/
def Obligations.InstanceCommands : Prop :=
  (∀ (s : State) (b : Bridge) (fn : Fin 256) (slot : Fin 8) (c : Cmd), CitanTakes s fn slot 0x201 .manager b c → c.len = 144 →
      c.u 16 1 ≠ 0 → (b.inst (c.u 16 1)).state = .none → c.u 17 1 ≤ 1 → firstBad (c.grantChecks (c.u 16 1) b) = none → c.reserved 76 4 = none →
      firstBad c.keyChecks = none → b.tamperSet = false → b.knl.lost = false → Journals b → b.poolsLack (c.u 16 1) {} c.grant = false →
      c.unwrapFails b = false →
      let i := c.u 16 1
      let g := c.grant
      let d := c.newKey i (((b.layout i {} g).getD b).modInst i (fun x =>
        { state := .creating, grant := x.grant.counting g, gen := b.knl.nextGen, imported := decide (c.u 17 1 = 1), tagErr := x.tagErr }))
      Completes (.instCreate fn slot true) s
        (({ d with scan := { d.scan with done := Tbl.del i d.scan.done, rowsOf := Tbl.del i d.scan.rowsOf } } : Bridge).atTick c (.instCreate i)
          (g.plain + 2 * g.mirrored + g.segs + 6)
          (leBytes 4 (ceilDiv g.plain 512) ++ leBytes 4 (ceilDiv g.mirrored 512) ++ leBytes 1 (windowLog g.segs) ++ leBytes 3 0)))
    ∧ (∀ (s : State) (b : Bridge) (fn : Fin 256) (slot : Fin 8) (c : Cmd), CitanTakes s fn slot 0x202 .manager b c → c.len = 1 → c.u 16 1 ≠ 0 →
      (b.inst (c.u 16 1)).state = .live → Journals b →
      let d := (b.taken c.ref).beginTeardown (c.u 16 1) (c.ref.fn, c.ref.slot, c.ref.order)
      Completes (.instTeardown fn slot) s (d.prepare (.instTeardown (c.u 16 1)) ((d.inst (c.u 16 1)).grant.segs + 6)))
    ∧ (∀ (s : State) (b : Bridge) (i : Fin 256) (t : Nat), Live s b → (b.inst i).state = .tearing → (b.inst i).tornAt = some t →
      (b.inst i).tearCmd = none → t * 1536 + 128 ≤ b.glb.time → b.drained i = true →
      let d := (b.releaseMaps i).modInst i Inst.gone
      Completes (.teardownDrained i) s (Bridge.each channels (fun n b => b.modAcc n (fun a => { a with
        cached := a.cached.filter (fun e => decide (e.2.1 ≠ i.val)) })) (({ d with knl := d.knl.eraseKey i } : Bridge).logGroup (b.mapRecs { d with knl := d.knl.eraseKey i }))))
    ∧ (∀ (s : State) (b : Bridge) (fn : Fin 256) (slot : Fin 8) (c : Cmd), CitanTakes s fn slot 0x203 .own b c → c.len = 1 →
      (b.inst (c.u 16 1)).state = .none → Completes (.instQuery fn slot) s (b.respond c.ref 0 0 0 (leBytes 106 0)))
    ∧ (∀ (s : State) (b : Bridge) (fn : Fin 256) (slot : Fin 8) (c : Cmd), CitanTakes s fn slot 0x204 .manager b c → c.len = 9 →
      (b.inst (c.u 16 1)).state = .live → c.reserved 17 3 = none → c.u 20 4 + c.u 24 1 ≤ (b.inst (c.u 16 1)).grant.segs → 1 ≤ c.u 24 1 →
      c.u 24 1 ≤ 28 →
      Completes (.segRead fn slot) s (b.respond c.ref 0 0 0 ((List.range (c.u 24 1)).flatMap (fun k =>
        leBytes 8 (((b.segAt (c.u 16 1) (c.u 20 4 + k)).map SegEntry.word).getD 0)))))

/-- R78, R338, R366-R371, R386, R439. Settings take their command, write its records to the journal and are prepared for the next tick:
INST0_SET, VF_WINDOW_LIMIT, PRECOLOUR_SET, HINT_SET, TUNE_SET, SHARES_SET, RESERVE_SET, PERSIST_SET, VETO_SET and CLASSIFY_SET; nothing else
of the bridge changes. SEM_ACCESS and SEM_RELEASE are prepared with no record.
It rests on log entries 17 and 54 (the model's). -/
def Obligations.SettingsArePrepared : Prop :=
  (∀ (s : State) (b : Bridge) (fn : Fin 256) (slot : Fin 8) (c : Cmd), CitanTakes s fn slot 0x205 .manager b c → c.len = 60 → c.u 16 1 = 0 →
      c.u 17 1 = 0 → firstBad (c.grantChecks 0 b) = none → b.tamperSet = false → b.knl.lost = false → Journals b →
      b.poolsLack 0 (b.inst 0).grant c.grant = false → Completes (.inst0Set fn slot) s (b.settingAtTick c (.inst0 c.grant)))
    ∧ (∀ (s : State) (b : Bridge) (fn : Fin 256) (slot : Fin 8) (c : Cmd), CitanTakes s fn slot 0x206 .manager b c → c.len = 1 →
      30 ≤ c.u 16 1 → c.u 16 1 ≤ 47 → Journals b → b.port.cxl = true →
      Completes (.vfWindowLimit fn slot) s (b.settingAtTick c (.vfLimit (c.u 16 1))))
    ∧ (∀ (s : State) (b : Bridge) (fn : Fin 256) (slot : Fin 8) (c : Cmd), CitanTakes s fn slot 0x207 .manager b c → c.len = 12 → c.u 16 1 ≠ 0 →
      (b.inst (c.u 16 1)).state = .live → c.u 17 1 ≤ 2 → c.reserved 18 2 = none → 1 ≤ c.u 24 4 →
      c.u 20 4 + c.u 24 4 ≤ (b.inst (c.u 16 1)).grant.segs → Journals b →
      Completes (.precolourSet fn slot) s (b.settingAtTick c (.precolour (c.u 16 1) (c.u 20 4) (c.u 24 4) (c.u 17 1))))
    ∧ (∀ (s : State) (b : Bridge) (fn : Fin 256) (slot : Fin 8) (c : Cmd), CitanTakes s fn slot 0x208 .manager b c → c.len = 40 → c.u 16 1 < 64 →
      c.reserved 17 7 = none →
      Completes (.semAccess fn slot) s (b.atTick c (.semAccess (c.u 16 1) (BitVec.ofNat 256 (c.u 24 32) ||| 1)) 0 []))
    ∧ (∀ (s : State) (b : Bridge) (fn : Fin 256) (slot : Fin 8) (c : Cmd), CitanTakes s fn slot 0x209 .manager b c → c.len = 8 →
      Completes (.semRelease fn slot) s (b.atTick c (.semRelease (c.u 16 8)) 0 []))
    ∧ (∀ (s : State) (b : Bridge) (fn : Fin 256) (slot : Fin 8) (c : Cmd), CitanTakes s fn slot 0x301 .own b c → c.len = 12 →
      (b.inst (c.u 16 1)).state = .live → c.u 17 1 = 0 → c.u 18 1 < 8 → c.reserved 19 1 = none → 1 ≤ c.u 24 4 → c.u 24 4 ≤ 65536 →
      b.allocIn (c.u 16 1) (c.u 20 4) (c.u 24 4) = c.u 24 4 →
      ((b.withHints.extentsIn (c.u 16 1) (c.u 20 4) (c.u 24 4)).map (Desc.hint 0 (c.u 18 1))).all (fun d => !d.hintClash && !d.pinNear) = true → Journals b →
      Completes (.hintSet fn slot) s (b.atTick c (.hints (c.u 16 1) (c.u 20 4) (c.u 24 4) 0 (c.u 18 1)) 0 []))
    ∧ (∀ (s : State) (b : Bridge) (fn : Fin 256) (slot : Fin 8) (c : Cmd), CitanTakes s fn slot 0x303 .manager b c → c.len = 14 → c.u 16 2 = 0 →
      b.tuneNext.demote < b.tuneNext.promote → c.reserved 29 1 = none → Journals b →
      Completes (.tuneSet fn slot) s (b.settingAtTick c (.tune (c.tune b.tuneNext))))
    ∧ (∀ (s : State) (b : Bridge) (fn : Fin 256) (slot : Fin 8) (c : Cmd), CitanTakes s fn slot 0x304 .manager b c → c.len = 3 →
      c.u 16 1 ≤ 64 → c.u 17 1 ≤ 64 → 1 ≤ c.u 18 1 → c.u 18 1 ≤ 64 → c.u 16 1 + c.u 17 1 + c.u 18 1 ≤ 96 → Journals b →
      Completes (.sharesSet fn slot) s (b.settingAtTick c (.shares (c.u 16 1) (c.u 17 1) (c.u 18 1))))
    ∧ (∀ (s : State) (b : Bridge) (fn : Fin 256) (slot : Fin 8) (c : Cmd), CitanTakes s fn slot 0x305 .manager b c → c.len = 1 →
      c.u 16 1 ≤ 10 → Journals b → Completes (.reserveSet fn slot) s (b.settingAtTick c (.reserve (c.u 16 1))))
    ∧ (∀ (s : State) (b : Bridge) (fn : Fin 256) (slot : Fin 8) (c : Cmd), CitanTakes s fn slot 0x306 .manager b c → c.len = 1 →
      c.u 16 1 ≤ 1 → (c.u 16 1 = 1 → 2000 ≤ b.herd.holdup ∧ b.herd.holdup ≤ 100000) →
      (c.u 16 1 = 1 → channelMask (fun n => (b.chan n).svc.admitted && !(b.chan n).ll.id.persist) = 0) → Journals b →
      Completes (.persistSet fn slot) s (b.settingAtTick c (.persist (decide (c.u 16 1 = 1)))))
    ∧ (∀ (s : State) (b : Bridge) (fn : Fin 256) (slot : Fin 8) (c : Cmd), CitanTakes s fn slot 0x501 .manager b c → c.len = 1 →
      c.u 16 1 < 64 → Journals b → Completes (.vetoSet fn slot) s (b.settingAtTick c (.veto (c.u 16 1))))
    ∧ (∀ (s : State) (b : Bridge) (fn : Fin 256) (slot : Fin 8) (c : Cmd), CitanTakes s fn slot 0x505 .manager b c → c.len = 8 →
      c.u 16 2 ≤ 0x37 → (faultKind (c.u 16 2) (c.u 18 1) = some .corrected ∨ faultKind (c.u 16 2) (c.u 18 1) = some .error) → 1 ≤ c.u 19 1 →
      1 ≤ c.u 20 4 → c.u 20 4 ≤ 1048576 → Journals b →
      Completes (.classifySet fn slot) s (b.settingAtTick c (.classify (c.u 16 2) (c.u 18 1) (c.u 19 1) (c.u 20 4))))

/-- R124, R369-R371, R376. PLACE_QUERY counts the extents of a range, their hints and their granules in the near tier; EVACUATE of a
channel with room elsewhere begins its operation and prepares the start; EVAC_STOP prepares the stop; the last granule moved, the
evacuation is over. MIRROR_RESTORE of a channel with nothing degraded ends its operation at once; a segment whose mirror is whole again is
switched behind its record. R156, R362, R372. JOB_CANCEL of a job that is there, or whose index is recent, and RING_CANCEL, which cancels
every accepted job of a ring of the instance at one moment, are answered with what was dropped and what still runs, and counted as in time or
too late. It rests on log entries 17 and 70 (the model's). -/
def Obligations.PlacementAndCancelCommands : Prop :=
  ((∀ (s : State) (b : Bridge) (fn : Fin 256) (slot : Fin 8) (c : Cmd), CitanTakes s fn slot 0x302 .own b c → c.len = 12 →
        (b.inst (c.u 16 1)).state = .live → c.reserved 17 3 = none → 1 ≤ c.u 24 4 → c.u 24 4 ≤ 65536 →
        let xs := b.extentsIn (c.u 16 1) (c.u 20 4) (c.u 24 4)
        let dir := fun (p : Desc → Bool) (e : Nat × DirEntry) => decide (e.2.shown ≠ .filling) && xs.any (fun d => p d && decide (d.ext = e.1 / 512))
        let count := fun (p : Desc → Bool) => (b.herd.dir.filter (dir p)).length
        let pinned := xs.filter (fun d => d.pinNear)
        Completes (.placeQuery fn slot) s (b.respond c.ref 0 0 0 (leBytes 4 (b.allocIn (c.u 16 1) (c.u 20 4) (c.u 24 4)) ++ leBytes 4 pinned.length
          ++ leBytes 4 (xs.filter (fun d => d.keepFar)).length ++ leBytes 4 (xs.filter (fun d => d.noMigrate)).length
          ++ leBytes 8 (count (fun _ => true))
          ++ leBytes 8 (b.herd.dir.filter (fun e => dir (fun _ => true) e && (decide (e.2.shown = .dirty) || decide (e.2.shown = .writingBack)))).length
          ++ leBytes 8 (512 * pinned.length - count (fun d => d.pinNear)) ++ leBytes 8 (count (fun d => d.keepFar))
          ++ leBytes 4 (b.herd.copies.filter (fun x => xs.any (fun d => decide (d.ext = x.2.gran / 512)))).length)))
      ∧ (∀ (s : State) (b : Bridge) (fn : Fin 256) (slot : Fin 8) (c : Cmd), CitanTakes s fn slot 0x307 .manager b c → c.len = 1 → c.u 16 1 < 16 →
        b.chFenced (c.u 16 1) = false → b.herderOn = true → b.evacBusy (c.u 16 1) = false → b.opBusy (65536 + c.u 16 1) = false → Journals b →
        b.evacLeft (c.u 16 1) ≤ b.evacRoom (c.u 16 1) →
        Completes (.evacuate fn slot) s ((b.beginOp c (65536 + c.u 16 1) 0).atTick c (.evacStart (c.u 16 1) false) 0 []))
      ∧ (∀ (s : State) (b : Bridge) (fn : Fin 256) (slot : Fin 8) (c : Cmd), CitanTakes s fn slot 0x308 .manager b c → c.len = 1 → c.u 16 1 < 16 →
        (b.chan (c.u 16 1)).svc.state ≠ .evacuating → (b.chan (c.u 16 1)).herd.evac = true → Journals b →
        Completes (.evacStop fn slot) s (b.atTick c (.evacStop (c.u 16 1)) 0 []))
      ∧ (∀ (s : State) (b : Bridge) (n : Fin 16), Live s b → (b.chan n).herd.evac = true → b.evacLeft n = 0 →
        (∀ o ∈ b.citan.ops, o.running = false) →
        Completes (.evacuationComplete n) s ((b.modHc n (fun h => { h with evac := false, auto := false, stopping := false, took := [] })).normalExts n |>.level 867 true))
      ∧ (∀ (s : State) (b : Bridge) (fn : Fin 256) (slot : Fin 8) (c : Cmd) (o : Operation), CitanTakes s fn slot 0x708 .manager b c → c.len = 1 →
        c.u 16 1 < 16 → b.chFenced (c.u 16 1) = false → (b.chan (c.u 16 1)).svc.admitted = true → b.herderOn = true →
        b.opBusy (65536 + c.u 16 1) = false → Journals b →
        (b.startOp c (65536 + c.u 16 1) 0).opOn 0x708 (65536 + c.u 16 1) = some o → (b.startOp c (65536 + c.u 16 1) 0).degradedOn (c.u 16 1) = 0 →
        Completes (.mirrorRestore fn slot) s ((b.startOp c (65536 + c.u 16 1) 0).endOp o 0 []))
      ∧ (∀ (s : State) (b : Bridge) (n : Fin 16) (i : Fin 256) (idx : Nat) (o : Operation) (e : SegEntry), Live s b →
        b.opOn 0x708 (65536 + n) = some o → Tbl.find (i * 131072 + idx) b.ten.seg = some e → e.valid = true → e.mirrored = true → e.degraded = true →
        e.res.1 = n → b.chFenced n = false → b.chFenced e.alt.1 = false → b.pendingOn (fun c => decide (c = .segRestored n i idx)) = false →
        Completes (.mirrorSegmentRestored n i idx) s (b.prepare (.segRestored n i idx) 2)))
    ∧ ((∀ (s : State) (b b1 : Bridge) (fn : Fin 256) (slot : Fin 8) (c : Cmd) (st n left : Nat), CitanTakes s fn slot 0x401 .own b c → c.len = 8 →
        (b.inst (c.u 16 1)).state = .live → c.u 17 1 < (b.inst (c.u 16 1)).grant.rings → (b.ring (c.u 16 1) (c.u 17 1)).recent (c.u 18 2) = true →
        b.cancelOne (c.u 16 1) (c.u 17 1) (c.u 18 2) (c.u 20 4) = (st, n, left, b1) → st ≠ 2 →
        let d := b1.modScan (fun x => if st = 0 then { x with cancelOk := cnt32 x.cancelOk 1 } else { x with cancelLate := cnt32 x.cancelLate 1 })
        Completes (.jobCancel fn slot) s (d.respond c.ref st 0 0 (cancelResults d.glb.time n left)))
      ∧ (∀ (s : State) (b : Bridge) (fn : Fin 256) (slot : Fin 8) (c : Cmd), CitanTakes s fn slot 0x402 .own b c → c.len = 4 →
        (b.inst (c.u 16 1)).state = .live → c.u 17 1 < (b.inst (c.u 16 1)).grant.rings → c.reserved 18 2 = none →
        let mine := b.scan.job.filter (fun e => decide (e.2.fn = c.u 16 1 ∧ e.2.ring = c.u 17 1))
        let r := mine.foldl (fun (a : Nat × Nat × Nat × Bridge) e =>
          let (k, left, d) := a.2.2.2.cancelJob e.1;
          if k = 0 then (a.1, a.2.1, a.2.2.1 + left, a.2.2.2) else (a.1 + 1, a.2.1 + k, a.2.2.1 + left, d)) (0, 0, 0, b)
        (r.1 = 0 → Completes (.ringCancel fn slot) s ((r.2.2.2.modScan (fun x => { x with cancelLate := cnt32 x.cancelLate 1 })).respond c.ref 5 0 0
            (cancelResults r.2.2.2.glb.time r.2.1 r.2.2.1 ++ leBytes 4 0)))
          ∧ (r.1 ≠ 0 → Completes (.ringCancel fn slot) s ((r.2.2.2.modScan (fun x => { x with cancelOk := cnt32 x.cancelOk 1 })).respond c.ref 0 0 0
            (cancelResults r.2.2.2.glb.time r.2.1 r.2.2.1 ++ leBytes 4 r.1)))))

/-- R17, R373-R375, R401. UNIT_FENCE of a musher core and of an HTL lane fences it and answers; of a channel it drains the channel first,
and at the drain's end the channel is fenced and the command answered. UNIT_UNFENCE of a core is prepared behind its record. LOG_READ
gives the entries from a sequence number on. FAULT_CLEAR clears the source it names. It rests on log entries 18 and 70 (the model's). -/
def Obligations.FaultCommands : Prop :=
  (∀ (s : State) (b : Bridge) (fn : Fin 256) (slot : Fin 8) (c : Cmd), CitanTakes s fn slot 0x502 .manager b c → c.len = 4 → c.u 19 1 < 2 →
      b.unitFenced (c.u 16 1) (c.u 17 1) (c.u 18 1) = false → (∀ o ∈ b.citan.ops, o.running = false) → b.citan.waits = [] → Journals b →
      (c.u 16 1 = 4 → c.u 17 1 < 5 → c.u 18 1 = 0 → 2 ≤ popCount b.glb.coreActive 5 →
          Completes (.unitFence fn slot) s ((b.fenceCore (c.u 17 1) 0 (c.u 17 1)).respond c.ref 0 0 0 []))
        ∧ (c.u 16 1 = 5 → c.u 17 1 < 16 → c.u 18 1 < 16 → c.u 18 1 % 8 < 5 →
          Completes (.unitFence fn slot) s ((b.fenceHtlLane (c.u 17 1) (c.u 18 1)).respond c.ref 0 0 0 []))
        ∧ (c.u 16 1 = 1 → c.u 17 1 < 16 → c.u 18 1 = 0 → (c.u 19 1 = 1 ∨ b.holdsPlain (c.u 17 1) = false) →
          let d := (b.taken c.ref).drainForFence (c.u 17 1)
          Completes (.unitFence fn slot) s { d with citan := { d.citan with waits := d.citan.waits ++ [(c.ref, 2 ^ c.u 17 1)] } }))
    ∧ (∀ (s : State) (b : Bridge) (n : Fin 16) (r : CmdRef), Live s b → b.citan.waits = [(r, 2 ^ n.val)] → r.op = 0x502 →
      Completes (.fenceDrainDone n) s ((({ b with citan := { b.citan with waits := [] } } : Bridge).fenceChannel n 0 0).respond r 0 0 0 []))
    ∧ (∀ (s : State) (b : Bridge) (fn : Fin 256) (slot : Fin 8) (c : Cmd), CitanTakes s fn slot 0x503 .manager b c → c.len = 4 → c.u 16 1 = 4 →
      c.u 17 1 < 5 → c.u 18 1 = 0 → c.reserved 19 1 = none → b.unitFenced 4 (c.u 17 1) 0 = true → b.opBusy (unitObj 4 (c.u 17 1) 0) = false → Journals b →
      Completes (.unitUnfence fn slot) s ((b.startOp c (unitObj 4 (c.u 17 1) 0) 1).prepare (.unfence 4 (c.u 17 1) 0) 2))
    ∧ (∀ (s : State) (b : Bridge) (fn : Fin 256) (slot : Fin 8) (c : Cmd), CitanTakes s fn slot 0x504 .manager b c → c.len = 9 → 1 ≤ c.u 24 1 →
      c.u 24 1 ≤ 6 →
      let es := (b.faults.log.filter (fun e => decide (c.u 16 8 ≤ e.seq))).take (c.u 24 1)
      Completes (.logRead fn slot) s (b.respond c.ref 0 0 0 (leBytes 8 ((es.head?.map (fun e => e.seq)).getD b.faults.nextSeq) ++ leBytes 8 b.faults.nextSeq
        ++ leBytes 1 es.length ++ leBytes 1 (b2n (decide (c.u 16 8 < (b.faults.log.head?.map (fun e => e.seq)).getD b.faults.nextSeq))) ++ leBytes 6 0
        ++ es.flatMap LogEntry.bytes)))
    ∧ (∀ (s : State) (b : Bridge) (fn : Fin 256) (slot : Fin 8) (c : Cmd), CitanTakes s fn slot 0x506 .manager b c → c.len = 4 → c.u 16 2 ≤ 0x37 →
      c.u 18 1 ≠ 0xFF → (faultKind (c.u 16 2) (c.u 18 1)).isSome = true → c.reserved 19 1 = none →
      Completes (.faultClear fn slot) s ((b.clearSource (c.u 16 2) (c.u 18 1)).respond c.ref 0 0 0 []))

/-- R460, R478-R480. FUSE_SPARE of a marginal word takes a spare, or finds none; PROVISION takes the next part of an image, and the last part of a
sound one writes it. ROLLBACK_COMMIT raises the counter to a value the running image allows.
R380, R469-R474. A firmware update: FW_BEGIN opens a session on the slot not running and starts the erase; erased, the slot takes FW_DATA in
parts that do not overlap; FW_VERIFY starts the check, and its end closes the session with the slot's state; FW_ACTIVATE of a slot whose image
passed makes it the next to boot, and FW_STATUS reports both slots.
It rests on log entries 4, 54, 69 and 71 (the model's). -/
def Obligations.ProvisioningAndUpdateCommands : Prop :=
  ((∀ (s : State) (b : Bridge) (fn : Fin 256) (slot : Fin 8) (c : Cmd) (bad : Nat), CitanTakes s fn slot 0x602 .manager b c → c.len = 2 →
        c.u 16 2 < 128 → b.fuses.marginal.getLsbD (c.u 16 2) = true →
        let r := b.fuses.takeSpare (c.u 16 2) bad (List.range 16)
        Completes (.fuseSpare fn slot bad) s (({ b with fuses := r.2 } : Bridge).respond c.ref (if r.1 then 0 else 4) 0 0 []))
      ∧ (∀ (s : State) (b : Bridge) (fn : Fin 256) (slot : Fin 8) (c : Cmd) (good : Bool) (img : ProvImage), CitanTakes s fn slot 0x603 .manager b c →
        c.len = 8 + c.u 19 1 → c.u 16 2 = b.knl.provision → 1 ≤ c.u 19 1 → c.u 19 1 ≤ 216 → c.reserved 20 4 = none →
        (c.u 18 1 = 0 → Completes (.provision fn slot good img) s
            ((b.modKnl (fun k => { k with provision := (k.provision + 1) % 65536 })).respond c.ref 0 0 0 []))
          ∧ (c.u 18 1 = 1 → good = true → (b.modKnl (fun k => { k with provision := 0 })).sectionRefused img = false →
            (img.kek.isSome = true → b.tamperSet = false ∧ b.knl.lost = false) →
            Completes (.provision fn slot good img) s (((b.modKnl (fun k => { k with provision := 0 })).applyImage img).respond c.ref 0 0 0 [])))
      ∧ (∀ (s : State) (b : Bridge) (fn : Fin 256) (slot : Fin 8) (c : Cmd), CitanTakes s fn slot 0xA05 .manager b c → c.len = 2 →
        c.u 16 2 ≤ (b.fwSlot b.boot.slot).rollback → b.rollback < c.u 16 2 → c.u 16 2 ≤ 256 →
        Completes (.rollbackCommit fn slot) s ((b.modFuses (fun f => f.rollTo (c.u 16 2))).respond c.ref 0 0 0 [])))
    ∧ ((∀ (s : State) (b : Bridge) (fn : Fin 256) (slot : Fin 8) (c : Cmd), CitanTakes s fn slot 0xA01 .manager b c → c.len = 8 →
        (c.u 16 1 = 1 ∨ c.u 16 1 = 2) → c.u 16 1 ≠ b.boot.slot → c.reserved 17 3 = none → 1 ≤ c.u 20 4 → c.u 20 4 ≤ 31457280 →
        c.u 20 4 ≤ b.slotSize → b.boot.session = none → b.opBusy (fwObj (c.u 16 1)) = false →
        ∃ k, Completes (.fwBegin fn slot) s (((({ b with free := b.free + 1 } : Bridge).putSession (some { slot := c.u 16 1, size := c.u 20 4 })).modSlot
          (c.u 16 1) (fun _ => { state := 1 })).startOp c (fwObj (c.u 16 1)) k))
      ∧ (∀ (s : State) (b : Bridge) (x : FwSession) (o : Operation), Live s b → b.boot.session = some x → x.erased = false →
        (b.putSession (some { x with erased := true })).opOn 0xA01 (fwObj x.slot) = some o →
        Completes .fwEraseComplete s ((b.putSession (some { x with erased := true })).endOp o 0 []))
      ∧ (∀ (s : State) (b : Bridge) (fn : Fin 256) (slot : Fin 8) (c : Cmd) (x : FwSession), CitanTakes s fn slot 0xA02 .manager b c →
        c.len = 8 + c.u 20 2 → b.boot.session = some x → c.u 16 4 % 8 = 0 → c.u 16 4 < x.size → x.overlaps (c.u 16 4) (c.u 16 4 + c.u 20 2) = false →
        1 ≤ c.u 20 2 → c.u 20 2 ≤ 216 → c.u 16 4 + c.u 20 2 ≤ x.size → c.reserved 22 2 = none → x.erased = true → x.verifying = false →
        let y := x.take (c.u 16 4) (bytesAt 24 (c.u 20 2) c.bytes)
        Completes (.fwData fn slot) s (((b.putSession (some y)).modSlot y.slot (fun z => { z with state := if y.bytes = y.size then 2 else 1 })).respond
          c.ref 0 0 0 []))
      ∧ (∀ (s : State) (b : Bridge) (fn : Fin 256) (slot : Fin 8) (c : Cmd) (x : FwSession), CitanTakes s fn slot 0xA03 .manager b c → c.len = 0 →
        b.boot.session = some x → x.erased = true → x.verifying = false → b.opBusy (fwObj x.slot) = false →
        Completes (.fwVerify fn slot) s ((b.putSession (some { x with verifying := true })).startOp c (fwObj x.slot) 0))
      ∧ (∀ (s : State) (b : Bridge) (x : FwSession) (o : Operation) (good : Bool), Live s b → b.boot.session = some x → x.verifying = true →
        ((b.putSession none).modSlot x.slot (fun _ => x.verified good b)).opOn 0xA03 (fwObj x.slot) = some o →
        Completes (.fwVerifyComplete good) s (((b.putSession none).modSlot x.slot (fun _ => x.verified good b)).endOp o 0
          (leBytes 1 (x.verified good b).result)))
      ∧ (∀ (s : State) (b : Bridge) (fn : Fin 256) (slot : Fin 8) (c : Cmd), CitanTakes s fn slot 0xA04 .manager b c → c.len = 1 →
        (c.u 16 1 = 1 ∨ c.u 16 1 = 2) → (b.fwSlot (c.u 16 1)).state = 3 →
        Completes (.fwActivate fn slot) s
          (({ b with boot := { b.boot with next := some (c.u 16 1), seq := (b.boot.seq + 2) % 2 ^ 32 } } : Bridge).respond c.ref 0 0 0 []))
      ∧ (∀ (s : State) (b : Bridge) (fn : Fin 256) (slot : Fin 8) (c : Cmd), CitanTakes s fn slot 0xA06 .manager b c → c.len = 0 →
        Completes (.fwStatus fn slot) s (b.respond c.ref 0 0 0 (leBytes 1 b.boot.slot ++ leBytes 1 (b.boot.next.getD 1) ++ leBytes 1 (b.fwSlot 1).state
          ++ leBytes 1 (b.fwSlot 2).state ++ leBytes 4 (b.fwSlot 1).version ++ leBytes 4 (b.fwSlot 2).version ++ leBytes 2 b.rollback
          ++ leBytes 1 (if b.boot.session.isSome then 1 else 0)))))

/-- R250, R299, R376, R377, R512, R515. SLED_STATUS reports a position; SLED_REMOVE of an admitted sled starts the service window; SLED_ABORT
in it ends the removal; SLED_ADMIT of a present sled starts its admission. LINK_RATE_LIMIT without NOW stores the limit of each channel of the
mask behind its records, and LINK_PARAMS without IDLE_EN the virtual channels and the grace period; LINK_TRAIN starts every channel that
is DOWN again, and waits.
R378-R380, R426, R471-R474, R495. POWER_SET of Run and idle gating, WHISTLE_SET and THERMAL_SET are prepared for the next tick; POWER_SET of
Doze is answered and its entry begins. TLM_SNAPSHOT and INST_STATS report. A command past its bound is answered TIMEOUT, and what it
prepared stands.
It rests on log entries 17, 62 and 72 (the model's). -/
def Obligations.SledPowerAndTelemetryCommands : Prop :=
  ((∀ (s : State) (b : Bridge) (fn : Fin 256) (slot : Fin 8) (c : Cmd), CitanTakes s fn slot 0x701 .manager b c → c.len = 1 → c.u 16 1 < 16 →
        let x := b.chan (c.u 16 1)
        Completes (.sledStatus fn slot) s (b.respond c.ref 0 0 0 (leBytes 1 x.svc.pinBits ++ leBytes 1 x.svc.state.code ++ leBytes 1 x.phy.state.code
          ++ leBytes 1 x.ll.state.code ++ leBytes 4 x.ll.id.word0 ++ leBytes 4 x.ll.id.word1 ++ leBytes 4 x.ll.id.word2 ++ leBytes 8 x.ll.id.serial
          ++ leBytes 4 0 ++ leBytes 4 (b.herd.desc.filter (fun e => e.2.valid && decide (e.2.home.1 = c.u 16 1))).length
          ++ leBytes 4 (b.reserveLeft (c.u 16 1)))))
      ∧ (∀ (s : State) (b : Bridge) (fn : Fin 256) (slot : Fin 8) (c : Cmd), CitanTakes s fn slot 0x702 .manager b c → c.len = 1 → c.u 16 1 < 16 →
        (b.chan (c.u 16 1)).svc.state = .admitted → b.chFenced (c.u 16 1) = false → b.herderOn = true → b.evacBusy (c.u 16 1) = false →
        b.opBusy (65536 + c.u 16 1) = false → Journals b →
        Completes (.sledRemove fn slot) s ((b.startOp c (65536 + c.u 16 1) 0).toSvc (c.u 16 1) .removeWait))
      ∧ (∀ (s : State) (b : Bridge) (fn : Fin 256) (slot : Fin 8) (c : Cmd), CitanTakes s fn slot 0x703 .manager b c → c.len = 1 → c.u 16 1 < 16 →
        (b.chan (c.u 16 1)).svc.state = .removeWait → (b.chan (c.u 16 1)).herd.evac = false → b.citan.prepared = [] →
        Completes (.sledAbort fn slot) s
          ((((b.modSvc (c.u 16 1) (fun x => { x with aborts := cnt32 x.aborts 1 })).endRemoval (c.u 16 1) 2 0 .admitted)).respond c.ref 0 0 0 []))
      ∧ (∀ (s : State) (b : Bridge) (fn : Fin 256) (slot : Fin 8) (c : Cmd), CitanTakes s fn slot 0x704 .manager b c → c.len = 1 → c.u 16 1 < 16 →
        (b.chan (c.u 16 1)).svc.state = .present → b.opBusy (65536 + c.u 16 1) = false → (b.phy (c.u 16 1)).testRate = none → Journals b →
        Completes (.sledAdmit fn slot) s ((b.startOp c (65536 + c.u 16 1) 0).toSvc (c.u 16 1) .admitting))
      ∧ (∀ (s : State) (b : Bridge) (fn : Fin 256) (slot : Fin 8) (c : Cmd), CitanTakes s fn slot 0x705 .manager b c → c.len = 4 → c.u 16 2 ≠ 0 →
        c.u 18 1 ≤ 3 → c.u 19 1 = 0 → Journals b →
        Completes (.linkRateLimit fn slot) s (((b.logSetting c).each (setBits (c.u 16 2) 16) (fun n b =>
          b.modPhy n (fun p => { p with limit := c.u 18 1 }))).respond c.ref 0 0 0 []))
      ∧ (∀ (s : State) (b : Bridge) (fn : Fin 256) (slot : Fin 8) (c : Cmd), CitanTakes s fn slot 0x706 .manager b c → c.len = 6 → c.u 16 2 ≠ 0 →
        2 ≤ c.u 18 1 → c.u 18 1 ≤ 8 → c.u 19 1 = 255 → 10 ≤ c.u 20 2 → c.u 20 2 ≤ 10000 → Journals b →
        Completes (.linkParams fn slot) s (((b.logSetting c).each (setBits (c.u 16 2) 16) (fun n b =>
          b.modLl n (fun l => { l with vcSet := c.u 18 1 - 1, graceUs := c.u 20 2 }))).respond c.ref 0 0 0 []))
      ∧ (∀ (s : State) (b : Bridge) (fn : Fin 256) (slot : Fin 8) (c : Cmd), CitanTakes s fn slot 0x707 .manager b c → c.len = 4 → c.u 16 2 ≠ 0 →
        c.reserved 18 2 = none → (∀ n ∈ setBits (c.u 16 2) 16, (b.phy n).state = .down) →
        Completes (.linkTrain fn slot) s ((b.each (setBits (c.u 16 2) 16) (fun n b =>
          (b.modPhy n (fun p => { p with attempt := 0 })).lanesToDetect n)).waitFor c (c.u 16 2))))
    ∧ ((∀ (s : State) (b : Bridge) (fn : Fin 256) (slot : Fin 8) (c : Cmd), CitanTakes s fn slot 0x801 .manager b c → c.len = 1 →
        (c.u 16 1 ≤ 1 → Completes (.powerSet fn slot) s (b.atTick c (.power (c.u 16 1)) 0 []))
          ∧ (c.u 16 1 = 2 → b.icu.fenced = false → b.dozeBusy = false → Completes (.powerSet fn slot) s (b.respond c.ref 0 0 0 []).enterDoze))
      ∧ (∀ (s : State) (b : Bridge) (fn : Fin 256) (slot : Fin 8) (c : Cmd), CitanTakes s fn slot 0x802 .manager b c → c.len = 4 + 2 * c.u 16 1 →
        c.u 16 1 ≤ 32 → c.reserved 17 3 = none → c.sourceCheck = none → Completes (.whistleSet fn slot) s (b.settingAtTick c (.whistle c.sources)))
      ∧ (∀ (s : State) (b : Bridge) (fn : Fin 256) (slot : Fin 8) (c : Cmd), CitanTakes s fn slot 0x903 .manager b c → c.len = 2 → c.u 16 2 ≤ 115 →
        Completes (.thermalSet fn slot) s (b.settingAtTick c (.thermal (c.u 16 2))))
      ∧ (∀ (s : State) (b : Bridge) (fn : Fin 256) (slot : Fin 8) (c : Cmd), CitanTakes s fn slot 0x901 .manager b c → c.len = 0 →
        Completes (.tlmSnapshot fn slot) s (b.respond c.ref 0 0 0 (leBytes 2 b.hottest.1 ++ leBytes 2 (b.sensorBits 13) ++ leBytes 2 (b.sensorBits 14)
          ++ leBytes 2 0 ++ leBytes 4 b.powerMw ++ leBytes 8 b.energyMj)))
      ∧ (∀ (s : State) (b : Bridge) (fn : Fin 256) (slot : Fin 8) (c : Cmd), CitanTakes s fn slot 0x902 .own b c → c.len = 1 →
        (b.inst (c.u 16 1)).state ≠ .none →
        Completes (.instStats fn slot) s (b.respond c.ref 0 0 0 (leBytes 8 (b.inst (c.u 16 1)).rdBytes ++ leBytes 8 (b.inst (c.u 16 1)).wrBytes
          ++ leBytes 8 (Tbl.get 0 (c.u 16 1) b.scan.done) ++ leBytes 8 (Tbl.get 0 (c.u 16 1) b.scan.rowsOf) ++ leBytes 4 (b.residentOf (c.u 16 1))
          ++ leBytes 4 (b.dirtyOf (c.u 16 1)))))
      ∧ (∀ (s : State) (b : Bridge) (fn : Fin 256) (slot : Fin 8), Live s b →
        let r := b.slotRef fn slot
        let d := b.respond r 8 0 0 []
        Completes (.commandTimeout fn slot) s { d with citan := { d.citan with
          waits := d.citan.waits.filter (fun w => decide (w.1 ≠ r))
          prepared := d.citan.prepared.map (fun p => if p.cmd = some r then { p with cmd := none } else p) } }))


-- The CXL mailbox ---------------------------------------------------------------------------------------------------------------------

/-- R211. The CXL primary mailbox's reports, in CXL mode; payloads and return codes are PRESUMED (log entry 33): health, supported logs,
the command-effects log, the records of an empty event log, interrupt policy, timestamp and the background operation. Each answer raises
source 774 and PF0 vector 5. R211. The CXL mailbox commands that change the device (PRESUMED payloads, log entry 33): the event interrupt
policy and the host's time are stored; clearing a log empties it and leaves the other logs. -/
def Obligations.CxlMailbox : Prop :=
  (∀ (s : State) (b : Bridge), RegTakes s true 0 b → b.port.cxl = true →
      let answer := fun (code : Nat) (payload : List Byte) (b : Bridge) => ((b.level 774 true).emit (.cxl code payload)).raise 0 5
      (∃ rev sizes, Completes .cxlIdentifyMemoryDevice s (answer 0 (leBytes 16 rev ++ leBytes 8 524288 ++ leBytes 8 524288 ++ leBytes 8 0 ++ leBytes 8 0
          ++ leBytes 8 sizes ++ leBytes 11 0) { b with free := b.free + 2 }))
        ∧ Completes .cxlGetSupportedLogs s (answer 0 (leBytes 2 1 ++ leBytes 6 0 ++ celUuid ++ leBytes 4 celLog.length) b)
        ∧ (∃ payload, payload.length = 18 ∧ Completes .cxlGetHealthInfo s (answer 0 payload b))
        ∧ (∀ off len, off + len ≤ celLog.length → off < 2 ^ 32 → len < 2 ^ 32 →
          Completes (.cxlGetLog (celUuid ++ leBytes 4 off ++ leBytes 4 len)) s (answer 0 (bytesAt off len celLog) b))
        ∧ (∀ p, p.length ≠ 24 → Completes (.cxlGetLog p) s (answer 0x16 [] b))
        ∧ (∀ log, log < 4 → b.cxl.events.filter (fun e => decide (e.log = log)) = [] →
          Completes (.cxlGetEventRecords (leBytes 1 log)) s (answer 0 (leBytes 20 0 ++ leBytes 2 0 ++ leBytes 10 0) b))
        ∧ Completes .cxlGetEventIntPolicy s (answer 0 (leBytes 4 b.cxl.policy) b)
        ∧ Completes .cxlGetTimestamp s (answer 0 (leBytes 8 b.hostTime) b)
        ∧ Completes .cxlBackgroundOpStatus s (answer 0 (leBytes 8 0) b)
        ∧ (∀ op, Completes (.cxlUnsupportedCommand op) s (answer 3 [] b)))
    ∧ (∀ (s : State) (b : Bridge), RegTakes s true 0 b → b.port.cxl = true →
      let answer := fun (code : Nat) (payload : List Byte) (b : Bridge) => ((b.level 774 true).emit (.cxl code payload)).raise 0 5
      (∀ p, p.length = 4 → Completes (.cxlSetEventIntPolicy p) s (answer 0 [] { b with cxl := { b.cxl with policy := fieldAt 0 4 p } }))
        ∧ (∀ p, p.length = 8 → Completes (.cxlSetTimestamp p) s (answer 0 [] { b with cxl := { b.cxl with hostTime := fieldAt 0 8 p, setAt := some b.glb.time } }))
        ∧ (∀ log : Fin 4, Completes (.cxlClearEventRecords [BitVec.ofNat 8 log, 1, 0, 0, 0, 0]) s
          (answer 0 [] { b with cxl := { b.cxl with events := b.cxl.events.filter (fun e => decide (e.log ≠ log)) } })))

-- Faults, the kennel and fuses ------------------------------------------------------------------------------------------------------------

/-- R383, R386, R394, R404, R458, R461, R484, R480. A detected event enters its source; a leak lowers a level by one and changes no other
source; a pin's edge triggers while PIN_EN is 1; one PLL that loses lock is replaced, the second stops the bridge; VBAT is measured, and
its fall below 2.4 V is an event; a tamper source that clears is active no more; a verification of the fuses begins, and ends where
nothing differs. A JTAG instruction is taken where debug is open, or is a boundary scan. R457, R461, R462, R463. A tamper source that is
watched and fires in base service is logged and, for sources 0 to 6, active; the KEK and key operations go, and the keys with their
consequences. One that is not watched, or is active already, changes nothing. It rests on log entries 34, 39 and 42 (the model's). -/
def Obligations.FaultSources : Prop :=
  ((∀ (s : State) (b : Bridge) (k : Nat) (src : Fin 32) (detail : Nat) (inst : Option Nat), Live s b → ¬(k < 16 ∧ src.val = 31 ∧ b.chFenced k = false) →
        Completes (.faultEvent k src detail inst) s (b.event k src false detail inst))
      ∧ (∀ (s : State) (b : Bridge) (k : Nat) (src : Fin 32), Live s b →
        (b.leakDue k src = true → Completes (.bucketLeak k src) s
            (b.modFs k src (fun x => { x with level := b.levelNow k src, leakAt := b.stride + 1 })))
          ∧ (b.leakDue k src = false → Completes (.bucketLeak k src) s b))
      ∧ (∀ (s : State) (b : Bridge), Live s b → b.faults.pinEn = true → b.faults.armed = true → bitOf b.faults.due 2 = false →
        Completes .snapInEdge s (b.modFlt (fun f => { f with due := f.due + 4 })))
      ∧ (∀ s : State, (s.br.pwr.pllSpare = true → Completes .pllLockLoss s
            (({ s.br.fresh with pwr := { s.br.pwr with pllSpare := false } } : Bridge).note 0x33 8 0))
          ∧ (s.br.pwr.pllSpare = false → Completes .pllLockLoss s
            (({ s.br.fresh with pwr := { s.br.pwr with dead := true } } : Bridge).emit (.pin .faultN false))))
      ∧ (∀ (s : State) (mv : Nat), mv < 8192 → (2400 ≤ mv → Completes (.vbatMeasure mv) s
            { s.br.fresh with knl := { s.br.knl with vbat := mv, vbatLow := false } })
          ∧ (mv < 2400 → s.br.knl.vbatLow = false → Completes (.vbatMeasure mv) s
            (({ s.br.fresh with knl := { s.br.knl with vbat := mv, vbatLow := true } } : Bridge).note 0x31 9 mv)))
      ∧ (∀ (s : State) (src : Fin 8), let d : Bridge := { s.br.fresh with knl := { s.br.knl with active := putBit s.br.knl.active src false } }
        (d.knl.active ≠ 0 → Completes (.tamperSourceClear src) s d) ∧ (d.knl.active = 0 → Completes (.tamperSourceClear src) s (d.level 930 false)))
      ∧ (∀ (s : State) (b : Bridge), Live s b → b.fuses.valid = true →
        (b.fuses.due = true → Completes .fuseReverify s (b.modFuses (fun f => { f with verifying := true, due := false })))
          ∧ (b.fuses.due = false → Completes .fuseReverify s b))
      ∧ (∀ (s : State) (b : Bridge), Live s b → b.fuses.verifying = true →
        Completes (.fuseReverifyEnd [] []) s ((b.modFuses (fun f => { f with verifying := false, verifies := cnt32 f.verifies 1 })).level 932 true))
      ∧ (∀ (s : State) (boundary : Bool), bitOf s.br.glb.sideFenced 2 = false →
        Completes (.jtagInstruction boundary) s (s.br.fresh.emit (.side 0 (b2n (boundary || !(s.br.knl.latch || s.br.knl.debugOff || bitOf (s.br.fuse 3) 0)))))))
    ∧ (∀ (s : State) (src : Fin 8) (detail : Nat),
      ((s.br.fresh.watches src = false ∨ bitOf s.br.knl.active src = true) → Completes (.tamperFire src detail) s s.br.fresh)
        ∧ (s.br.fresh.watches src = true → bitOf s.br.knl.active src = false → src.val < 7 → s.br.fresh.off = false → s.br.glb.level ≠ 0 →
          s.br.pwr.state ≠ 3 →
          let d := ((s.br.fresh.modKnl (fun k => { k.logTamper s.br.glb.time src detail true with active := putBit k.active src true })).level 930 true).zeroiseKek.abortKeys
          (d.off = false → d.glb.level ≠ 0 → d.pwr.state ≠ 3 →
            Completes (.tamperFire src detail) s (d.zeroiseKeys.reportTamper src detail))))

/-- R17, R23, R387, R398. A severe source whose unit was spared or retired, and whose repair is not vetoed, heals; a rebuilt descriptor,
or the maps of a lost stack rebuilt in the other, are switched at the next tick. It rests on log entry 14 (the model's). -/
def Obligations.RepairsComplete : Prop :=
  (∀ (s : State) (b : Bridge) (k : Nat) (src : Fin 32), Live s b → (b.faults.source k src).severe = true →
      (b.faults.source k src).sparing = true →
      Completes (.sparingComplete k src) s (b.healSource k src))
    ∧ (∀ (s : State) (b : Bridge) (n : Fin 16) (idx : Nat) (d : Desc), Live s b → Tbl.find (n * 2 ^ 22 + idx) b.herd.desc = some d → d.state = 3 →
      Completes (.descriptorRebuildDone n idx) s (b.prepare (.rebuilt (n * 2 ^ 22 + idx)) 0))
    ∧ (∀ (s : State) (b : Bridge) (k : Fin 2), Live s b → bitOf b.glb.stackFenced k = true → b.glb.stackFenced ≠ 3 →
      Completes (.stackMapRebuildDone k) s (b.prepare (.stackRebuilt k) 0))

-- The Herder ------------------------------------------------------------------------------------------------------------------------------

/-- R113-R126. The Herder's moves, each where the granule is wanted, allowed and free to move: a promotion takes a free frame of its
channel's stack and begins a copy from home; a resident clean granule that may be demoted is marked; a relocation begins; a dirty granule
is written back home; a move of an evacuation begins. A promotion over the instance's quota is counted and does not begin. R55, R119,
R123. Data of a copy that is over finishes its read; once all lines of a read from a sled are in, the read finishes and the copy's writes
follow. It rests on log entry 52 (the model's). -/
def Obligations.HerderMovesAndCopies : Prop :=
  ((∀ (s : State) (b : Bridge) (g frame key hc hg : Nat) (d : Desc), Live s b → b.descOn (b.resChOf g) (g / 512) = some (key, d) →
        b.homeOf key d g = some (hc, hg) → (b.herd.tune.promote ≤ b.heat g ∨ d.pinNear = true) → d.keepFar = false →
        (d.noMigrate = false ∨ d.pinNear = true) → b.herderOn = true → d.state ≠ 3 → b.moving g = false → (∀ e ∈ b.herd.dir, e.1 ≠ g) →
        b.copyChan hc = true → b.copyChan (b.resChOf g) = true → b.chFenced (b.resChOf g) = false → (b.chan hc).herd.evac = false →
        ((b.inst d.inst).grant.quota ≤ b.residentOf d.inst →
            Completes (.promotionStart g frame) s (b.modHerd (fun h => { h with quotaBlock := cnt32 h.quotaBlock 1 })))
          ∧ (b.residentOf d.inst < (b.inst d.inst).grant.quota → b.frameFree frame = true → frame / 2 ^ 24 = stackOf (b.resChOf g) →
            b.copyRoom hc (b.resChOf g) = true →
            Completes (.promotionStart g frame) s
              ((b.modHerd (fun h => { h with dir := Tbl.put g { frame := frame, inst := d.inst, resCh := b.resChOf g } h.dir })).beginCopy
                { kind := .promotion, gran := g, inst := d.inst, srcCh := hc, dstCh := b.resChOf g, src := .sled hc hg, dst := .near frame })))
      ∧ (∀ (s : State) (b : Bridge) (g key : Nat) (e : DirEntry) (d : Desc), Live s b → Tbl.find g b.herd.dir = some e →
        b.descOn e.resCh (g / 512) = some (key, d) → e.state = .clean → b.herderOn = true → b.moving g = false → b.mayDemote g e d = true →
        Completes (.demotionStart g) s (b.modDir g (fun e => { e with demote := true })))
      ∧ (∀ (s : State) (b : Bridge) (g key hc hg slot : Nat) (dc : Fin 16) (d : Desc), Live s b → b.descOn (b.resChOf g) (g / 512) = some (key, d) →
        b.homeOf key d g = some (hc, hg) → b.mayRelocate g dc slot d hc = true →
        let moved := b.startMove .relocation (b.resChOf g) g d hc hg dc slot (decide ((dc.val, slot) = (d.home.1, d.home.2 * 512 + g % 512)))
        Completes (.relocationStart g dc slot) s moved
          ∧ (b.bucketFull (b.resChOf g) g = false → b.herd.retireWait.find? (fun w => decide (w.1 = g)) = none →
            (b.chan (b.homeCh (b.resChOf g) g)).herd.evac = false → Completes (.excBucketRetry g dc slot) s moved))
      ∧ (∀ (s : State) (b : Bridge) (g hc hg : Nat) (e : DirEntry), Live s b → Tbl.find g b.herd.dir = some e → b.homeLoc e.resCh g = some (hc, hg) →
        e.state = .dirty → e.dirty ≠ 0 → b.moving g = false → b.copyChan hc = true → (b.awake = true ∨ b.jrn.step ≠ 0) →
        (e.leaving = true ∨ b.leaversFirst hc = false) →
        let ch := if b.chFenced e.resCh then hc else e.resCh
        b.copyCounts ch hc = true →
        Completes (.writebackStart g) s (b.beginCopy
          { kind := .writeBack, gran := g, inst := e.inst, srcCh := ch, dstCh := hc, src := .near e.frame, dst := .sled hc hg, want := e.dirty }))
      ∧ (∀ (s : State) (b : Bridge) (g key n hg ec ex x : Nat) (dc : Fin 16) (d : Desc), Live s b → b.descOn (b.resChOf g) (g / 512) = some (key, d) →
        b.homeOf key d g = some (n, hg) → b.herderOn = true → (b.chan n).herd.evac = true → d.mirror = false → b.moving g = false →
        b.copyChan n = true → d.state ≠ 3 → b.frameAllows (b.resChOf g) g = true →
        d.evac = some (ec, ex) → b.copyChan ec = true → b.moveRoom n ec = true → (n, hg / 512) ≠ (ec, ex) →
        Completes (.evacuationMoveStart g dc x) s (b.startMove .evacuation (b.resChOf g) g d n hg ec (ex * 512 + g % 512) false)))
    ∧ (∀ (s : State) (b : Bridge) (n : Fin 16) (uid c first k : Nat) (r : Running), Live s b → b.runningUnit n uid = some r →
      r.unit.kind = .copySrc c first k →
      (Tbl.find c b.herd.copies = none → ∀ corr unc, Completes (.copyDataArrive n uid corr unc) s (b.finishUnit n uid))
        ∧ (∀ x dst, Tbl.find c b.herd.copies = some x → x.dst = dst → dst.link.any b.chFenced = false → (∀ p ∈ r.places, b.earlierOn r.seq p = false) →
          (∃ a g, x.src = .sled a g) → r.await = [] →
          ∀ corr unc, Completes (.copyDataArrive n uid corr unc) s ((b.finishUnit n uid).copyOut r c first k)))

-- The journal and power loss ----------------------------------------------------------------------------------------------------------------

/-- R438, R440, R441. A group's COMMIT is written: the first group that waits for it is committed. A compaction begins where one is due,
and its end takes the checkpoint's sequence number. R443-R448. PWR_FAIL_N's fall raises source 969 and, in Run, starts the power-loss
sequence; one more during it changes nothing. A channel whose writes are home is done, and its sled is asked to save; the sled's answer to
its own SAVE is recorded. R446-R449. JOURNAL_REPLAY after a restart that kept the maps ends the replay, finishes teardowns, takes pending
changes and makes the service level due; with no good copy left, or none in reach, the start stops in base service for cause 8. It rests
on log entries 35, 54, 64 and 66 (the model's). -/
def Obligations.JournalAndPowerLoss : Prop :=
  ((∀ (s : State) (b : Bridge), Live s b → b.jrn.ended = none →
        Completes .commitGroupWritten s (({ b with citan := { b.citan with prepared := (commitFirst b.citan.prepared).1 } } : Bridge).logGroup
          ((commitFirst b.citan.prepared).2.elim [] (fun p => b.recordsOf p.change))))
      ∧ (∀ (s : State) (b : Bridge), Live s b → (jrnRegion * 3 ≤ b.jrn.fill * 4 ∨ 2 ^ 24 ≤ b.stride - b.jrn.ckptStride) → b.journalUp = true →
        b.jrn.compacting = false → b.awake = true →
        Completes .compactionStart s (b.modJrn (fun j => { j with compacting := true, ckptStride := b.stride, ckptStart := j.seq, ckptNext := b.liveRecs })))
      ∧ (∀ (s : State) (b : Bridge), Live s b → b.jrn.step = 0 → b.jrn.compacting = true →
        ∃ j : Journal, j.compacting = false ∧ j.ckptSeq = b.jrn.ckptStart ∧ Completes .checkpointComplete s (b.modJrn (fun _ => j))))
    ∧ ((∀ s : State, let d := ({ s.br.fresh with pwr := { s.br.pwr with failLow := true } } : Bridge).level 969 true
        ((s.br.pwr.por = true ∨ s.br.pwr.dead = true ∨ s.br.pwr.held = true ∨ s.br.jrn.step ≠ 0) → Completes .powerFail s d)
          ∧ (s.br.pwr.por = false → s.br.pwr.dead = false → s.br.pwr.held = false → s.br.jrn.step = 0 → s.br.pwr.state ≤ 2 →
            Completes .powerFail s d.powerLoss))
      ∧ (∀ (s : State) (b : Bridge) (n : Fin 16), Live s b → (b.jrn.step = 2 ∨ b.jrn.step = 3) → b.chFenced n = false → bitOf b.jrn.doneCh n = false →
        b.plDrained n = true → (b.plDirty n = false ∨ b.linkOpen n = false) →
        let d := b.modJrn (fun j => { j with doneCh := putBit j.doneCh n true })
        Completes (.channelWritebackDone n) s (if d.holdsCopy n && d.jrn.ended.isNone then d else d.sendSave n).plSteps)
      ∧ (∀ (s : State) (b b1 : Bridge) (n : Fin 16) (tag : Nat), Live s b → (b.chan n).ll.state = .up → b.takeMgmt n = (true, b1) →
        bitOf b1.jrn.saves n = true → (tag + 1) % 256 = (b1.chan n).ll.nextTag % 256 →
        Completes (.saveRspReceive n tag true) s
            (((b1.modJrn (fun j => { j with saves := putBit j.saves n false, saved := putBit j.saved n true })).level (48 * n + 5) true).modLl n
              (fun l => { l with saved := true }))
          ∧ Completes (.saveRspReceive n tag false) s ((b1.modJrn (fun j => { j with saves := putBit j.saves n false })).level (48 * n + 5) true)))
    ∧ ((∀ (s : State) (b : Bridge) (bad diffs : Nat) (refused : List Nat), Live s b → b.jrn.replaying = true → b.pwr.keepMaps = true →
        let d := ((b.finishTeardowns).modJrn (fun j => { j with replaying := false })).takePending
        Completes (.journalReplay bad diffs refused) s ((d.modTen (fun t => { t with vfLimit := t.vfLimitNext })).modPwr (fun p => { p with levelDue := true })))
      ∧ (∀ (s : State) (b : Bridge) (bad diffs : Nat) (refused : List Nat), Live s b → b.jrn.replaying = true → b.pwr.keepMaps = false →
        (b.image = none ∨ ∀ k ∈ [0, 1], b.copyReads k = false ∨ bitOf bad k = true) →
        Completes (.journalReplay bad diffs refused) s (b.stopStart 8)))


-- Lanes ----------------------------------------------------------------------------------------------------------------------------------

/-- R253-R259, R275-R277, R280. What the link's writers write, its readers read back: a byte's code group at either running disparity, and
the disparity after it; a run of bytes, without a code error; an ordered set's 13 data bytes; the fields of an offer or confirm set and of a
training frame's control field, at every value in their ranges; a byte's four PAM4 levels after any level; a flit's header, under a CRC-64
that matches. It rests on log entry 118 (the model's). -/
def Obligations.LinkFormsReadBack : Prop :=
  (∀ (rd : Bool) (byte : Fin 256), groupByte rd (groupOf rd byte).1 = some byte.val ∧ afterGroup rd (groupOf rd byte).1 = (groupOf rd byte).2)
    ∧ (∀ (rd : Bool) (l : List Nat), (∀ x ∈ l, x < 256) → (readGroups rd (groupsOf rd l)).1 = l ∧ (readGroups rd (groupsOf rd l)).2.1 = 0)
    ∧ (∀ (rd : Bool) (id : Ctl) (l : List Nat), l.length = 13 → (∀ x ∈ l, x < 256) → (readSet id (setGroups rd id l)).1 = some l)
    ∧ (∀ f : SetFields, f.lane < 8 → f.chan < 256 → f.rates < 16 → f.rate < 4 → f.width < 8 → f.outMap < 32 → f.inMap < 32 → f.rxOk < 64 →
        f.preset < 8 → f.round < 256 → f.test < 8 → SetFields.ofBytes f.bytes = f)
    ∧ (∀ f : FrameFields, f.lane < 8 → f.reqs.1 < 4 → f.reqs.2.1 < 4 → f.reqs.2.2 < 4 → f.preset < 8 → f.stat.1 < 4 → f.stat.2.1 < 4 →
        f.stat.2.2 < 4 → f.outMap < 32 → f.inMap < 32 → f.count < 16 → readFrame f.word = some f)
    ∧ (∀ (prev : Fin 4) (byte : Fin 256), byteOfLevels prev (levelsOf prev byte).1 = (byte.val, (levelsOf prev byte).2))
    ∧ (∀ (h : FlitHead) (payload : List Nat), h.kind < 4 → h.seq < 4096 → h.ack < 4096 → h.slots.length = 15 → (∀ x ∈ h.slots, x < 4) → h.wvc < 8 →
        (∀ x ∈ payload, x < 256) → FlitHead.of (flitBytes h payload) = h ∧ crcGood (flitBytes h payload) = true)

/-- R256-R260. Training: a disabled channel with a sled goes to DETECT; two lanes with signal take it to SYNC; good offer sets are counted on
their lanes, and lanes with eight in a row on two lanes take SYNC to OFFER; good confirm sets of what both ends chose are counted; the switch
notice and the end of the switch's idle time are recorded, with the new rate's pattern; training frames count towards EQUALIZE's end; alignment
is recorded, and on the last mapped lane the lanes are ACTIVE. Each set is read from its 16 code groups, each frame from its control field,
each alignment from its marker. It rests on log entries 47 and 118 (the model's). -/
def Obligations.LanesTrain : Prop :=
  ∀ (s : State) (b : Bridge) (n : Fin 16) (k : Fin 5), Live s b →
    ((b.phy n).state = .disabled → (b.chan n).svc.present = true →
        Completes (.channelEnable n) s ((b.modPhy n (fun p => { p with attempt := 0 })).lanesToDetect n))
      ∧ ((b.phy n).state = .detect → 2 ≤ (lanes5.filter (fun j => !((b.phy n).ln j).los)).length →
        Completes (.detectSignal n) s (b.modPhy n (fun p => { (p.allLanes Lane.restart) with state := .sync })))
      ∧ (∀ com id rest x, let gs := com :: id :: rest; readFields .ofr gs = some x → ((b.setIn n k .ofr gs).phy n).state = .sync →
        let d := (b.setIn n k .ofr gs).modLane n k (fun l => { (l.step true) with locked := true })
        Completes (.offerSetReceive n k com id rest) s
          (if 2 ≤ (lanes5.filter (fun j => decide (8 ≤ ((d.phy n).ln j).run))).length then d.modPhy n (fun p => { (p.allLanes Lane.restart) with state := .offer })
           else d))
      ∧ (∀ com id g₂ g₃ g₄ rest x, let gs := com :: id :: g₂ :: g₃ :: g₄ :: rest; readFields .cnf gs = some x → x.loopLocked = true → ((b.setIn n k .cnf gs).phy n).state = .confirm →
        x.echoes ((b.setIn n k .cnf gs).setFields n k true) = true →
        let d := (b.setIn n k .cnf gs).modLane n k (Lane.step true)
        Completes (.confirmSetReceive n k com id g₂ g₃ g₄ rest) s
          (if (d.phy n).allIn (d.phy n).inMap (fun l => decide (16 ≤ l.run)) then d.enterRateSwitch n else d))
      ∧ (∀ gs body, (readSet .swt gs).1 = some body → ((b.setIn n k .swt gs).phy n).state = .rateSwitch →
        Completes (.rateSwitchNoticeReceive n ⟨k, gs⟩) s ((b.setIn n k .swt gs).modPhy n (fun p => { p with notices := putBit p.notices k true })))
      ∧ ((b.phy n).state = .rateSwitch → (b.phy n).idleDone = false → 2 ≤ (b.phy n).nextRate →
        Completes (.rateSwitchIdleEnd n) s
          ((b.modPhy n (fun p => { p with idleDone := true, rate := (b.phy n).nextRate })).emit (.lanes n (.trainingFrames (b.phy n).outMap (b.phy n).inMap false))))
      ∧ (∀ low o i count high chk x errs, readFrame (frameControl low o i count high chk) = some x → x.rxReady = true → x.fast = false →
        (b.phy n).state = .equalize → 2 ≤ (b.phy n).rate →
        let d := (b.modLane n k (Lane.applyReq x.reqs x.preset)).modLane n k (fun l => { l with ready := l.ready + 1 })
        Completes (.trainingFrameReceive n k low o i count high chk true errs) s
          (if (d.phy n).allIn (laneMask (maskLanes (d.phy n).outMap ++ maskLanes (d.phy n).inMap)) (fun l => decide (8 ≤ l.ready)) then d.enterAlign n else d))
      ∧ (∀ skew ppm mark c, alignCarry (decide (2 ≤ (b.phy n).rate)) mark = some c → (b.phy n).state = .align → bitOf (b.phy n).inMap k = true →
        skew ≤ 16 → -20 ≤ ppm → ppm ≤ 20 →
        let d := b.modLane n k (fun l => { l with aligned := true, freqOff := clampPpm ppm, locked := true, carry := c })
        Completes (.alignmentReceive n ⟨k, mark⟩ skew ppm) s
          (if (d.phy n).allIn (b.phy n).inMap (fun l => l.aligned) then d.lanesActive n else d))

/-- R260, R262-R270. After training: SYNC or EQUALIZE past its bound fails with its code; loss of signal or lock on a lane is recorded,
and where lanes are in use it is an event of the lane's source; a fast retrain ends in ACTIVE or fails; electrical idle is entered and
left; a lane's PRBS check counts while it is locked. It rests on log entries 14, 42 and 47 (the model's). -/
def Obligations.LanesInService : Prop :=
  ∀ (s : State) (b : Bridge) (n : Fin 16) (k : Fin 5), Live s b →
    ((b.phy n).state = .equalize → Completes (.trainingStateTimeout n) s (b.trainFails n 5))
      ∧ ((b.phy n).state = .sync → Completes (.trainingStateTimeout n) s (b.trainFails n 1))
      ∧ (((b.phy n).ln k).los = false → Completes (.losChange n k true) s ((b.modLane n k (fun l => { l with los := true })).lossOf n k true))
      ∧ Completes (.losChange n k false) s (b.modLane n k (fun l => { l with los := false }))
      ∧ (((b.phy n).ln k).lol = false → Completes (.lolChange n k true) s ((b.modLane n k (fun l => { l with lol := true })).lossOf n k false))
      ∧ Completes (.lolChange n k false) s (b.modLane n k (fun l => { l with lol := false }))
      ∧ ((b.phy n).state = .fastRetrain → Completes (.fastRetrainTimeout n) s (b.retrainFails n))
      ∧ ((b.phy n).state = .fastRetrain → (b.phy n).rateWait = false →
        (b.phy n).allIn (b.phy n).inMap (fun l => decide ((if 2 ≤ (b.phy n).rate then 8 else 16) ≤ l.run)) = true →
        Completes (.fastRetrainDone n) s
          (((b.modPhy n (fun p => { p with fastRt := cnt32 p.fastRt 1, rateWait := false })).emit (.lanes n .alignment)).lanesActive n))
      ∧ (((b.phy n).state = .active ∨ (b.phy n).state = .eidle) → Completes (.idleEntryReceive n) s (b.modPhy n (fun p => { p with idleRcvd := true })))
      ∧ ((b.phy n).state = .eidle →
        let d := fun (b : Bridge) => (b.modPhy n (fun p => { (p.allLanes Lane.restart) with state := .exit, idleSent := false, idleRcvd := false })).emit (.lanes n .exitBurst)
        Completes (.eidleExitStart n) s (d b) ∧ Completes (.exitBurstReceive n) s (d (b.level (48 * n + 11) true)))
      ∧ ((b.phy n).state = .exit → bitOf (b.phy n).inMap k = true → ((b.phy n).ln k).aligned = false →
        Completes (.exitAlignmentTimeout n k) s ((b.markLane n false k).2.startRetrain n))
      ∧ (∀ on bits errs, (b.phy n).checksPrbs k = true →
        Completes (.prbsLockChange n k on bits errs) s (b.modLane n k (fun l => { l with
          prbsLock := on
          prbsBits := if l.prbsLock then (l.prbsBits + bits) % 2 ^ 64 else l.prbsBits
          prbsErr := if l.prbsLock then cnt32 l.prbsErr errs else l.prbsErr })))

-- The link layer ----------------------------------------------------------------------------------------------------------------------------

/-- R276-R292. While the link is up, a received block is read from its lanes, and its errors are charged to them: a good SEQ flit with the number
expected and a valid acknowledgement acknowledges, is counted, and the expected number advances; one ahead of it asks for a replay; a block
whose codeword is uncorrectable, or whose groups or CRC-64 are wrong, is a bad flit, counted and handled. A replay request, the replay timer and the
repeated request act as their rules say.
R286, R289-R293. Credits: a CRED of a class other than 3 raises its limits; CRED_DATA does the same while the link is up; the timer sends what the
bridge has returned; an MCRED lets management sends on; a synchronisation is asked for, answered, and its answer for the nonce in force
sets the slots that are free.
It rests on log entries 16, 23, 48 and 118 (the model's). -/
def Obligations.FlitsReplaysAndCredits : Prop :=
  (∀ (s : State) (b : Bridge) (n : Fin 16), Live s b → (b.chan n).ll.state = .up →
      (∀ h₀ h₁ s₀ s₁ s₂ crc parity, let r := b.blockIn n (h₀ ++ h₁ ++ s₀ ++ s₁ ++ s₂ ++ crc ++ parity)
        let e := b.blockTaken n r
        let h := FlitHead.of r.flit
        (r.bad = 0 → h.kind = 1 → slotsBad h r.flit = false → (e.chan n).ll.state = .up → (e.chan n).ll.ackValid h.ack = true →
            let more := decide ((h.ack + 1 + 4096 - (e.chan n).ll.oldest) % 4096 ≠ 0)
            let d := (e.ackIn n h.ack).modLl n (fun l => { l with replaying := l.replaying && !more, protoErr := cnt32 l.protoErr 0 })
            (h.seq = (e.chan n).ll.exp → Completes (.flitReceive n h₀ h₁ s₀ s₁ s₂ crc parity) s
                (d.modLl n (fun l => { l with exp := (l.exp + 1) % 4096, retrying := false, rxFlits := l.rxFlits + 1 })))
              ∧ (h.seq ≠ (e.chan n).ll.exp → 128 < ((e.chan n).ll.exp + 4096 - h.seq) % 4096 →
                Completes (.flitReceive n h₀ h₁ s₀ s₁ s₂ crc parity) s (d.askRetry n)))
          ∧ (r.bad = 1 → Completes (.flitReceive n h₀ h₁ s₀ s₁ s₂ crc parity) s ((e.modLl n (fun l => { l with fecUncorr := cnt32 l.fecUncorr 1 })).badFlit n))
          ∧ (r.bad = 2 → Completes (.flitReceive n h₀ h₁ s₀ s₁ s₂ crc parity) s (e.badFlit n)))
        ∧ (∀ exp, (exp + 4096 - (b.chan n).ll.oldest) % 4096 ≤ ((b.chan n).ll.txNext + 4096 - (b.chan n).ll.oldest) % 4096 →
          (b.chan n).ll.replayAt.2 = 0 →
          let d := b.modLl n (Link.acked ((exp + 4095) % 4096))
          Completes (.retryReqReceive n exp) s (if exp = (d.chan n).ll.txNext then d.pump n else (d.replay n).pump n))
        ∧ ((b.chan n).ll.unacked ≠ [] → (b.chan n).ll.replayAt.2 = 0 →
          Completes (.replayTimerExpiry n) s ((b.modLl n (fun l => { l with replayTo := cnt32 l.replayTo 1 })).replay n))
        ∧ ((b.chan n).ll.retrying = true → Completes (.retryReqRepeat n) s (b.askRetry n)))
    ∧ (∀ (s : State) (b : Bridge) (n : Fin 16), Live s b → (b.chan n).ll.state = .up →
      (∀ (v : Fin 8) hdr data, v.val ≠ 3 → Completes (.credReceive n v hdr data) s (b.credIn n v hdr data)
          ∧ Completes (.credDataReceive n v hdr data) s (b.credIn n v hdr data))
        ∧ ((b.chan n).ll.count < 5 → Completes (.credSendTimer n) s (b.tellCred n 1))
        ∧ (5 ≤ (b.chan n).ll.count → Completes (.credSendTimer n) s ((b.tellCred n 1).tellCred n 4))
        ∧ (∀ returned, 4 ≤ (b.chan n).ll.count →
          Completes (.mcredReceive n returned) s ((b.modLl n (fun l => { l with avail := Nat.min 255 (l.avail + returned) })).pump n))
        ∧ ((b.chan n).ll.msyncDue = true → (b.chan n).ll.nonce = none → Completes (.msyncStart n) s
          (((b.modLl n (fun l => { l with msyncDue := false })).modLl n (fun l => { l with msyncFails := 0 })).msync n))
        ∧ ((b.chan n).ll.msyncDue = false → Completes (.msyncStart n) s b)
        ∧ (∀ x, (b.chan n).ll.nonce = some x →
          ((b.chan n).ll.msyncFails < 2 → Completes (.msyncTimeout n) s ((b.modLl n (fun l => { l with msyncFails := l.msyncFails + 1 })).msync n))
            ∧ (2 ≤ (b.chan n).ll.msyncFails → Completes (.msyncTimeout n) s ((b.lanesToDetect n).linkFalls n))
            ∧ ∀ free, free < 256 → Completes (.msyncRspReceive n x free) s ((b.modLl n (fun l => { l with
              nonce := none, msyncFails := 0, avail := free, msyncFix := if l.avail = free then l.msyncFix else cnt32 l.msyncFix 1 })).pump n))
        ∧ (∀ nonce, 4 ≤ (b.chan n).ll.count →
          Completes (.msyncReqReceive n nonce) s (b.sendHtl n 3 (.msyncRsp nonce (16 - (b.chan n).ll.mgmtUsed)))))

/-- R283-R285, R293, R388. Messages of the sled: read data for an outstanding tag returns its credit, is checked by its code, and goes to the unit that asked for it, uncorrectable where its
STATUS says that the sled could not read it; data for
no tag is a protocol error, which takes the link down; a register answer tells firmware; a sled event is an event of its source.
It rests on log entry 42 (the model's). -/
def Obligations.SledMessages : Prop :=
  ∀ (s : State) (b : Bridge) (n : Fin 16), Live s b → (b.chan n).ll.state = .up →
    (∀ tag idx w status b1 c uid off (t : RdTag), Tbl.find tag (b.chan n).ll.tags = some t → idx < t.len → bitOf t.got idx = false →
        t.use = .unit c uid off → b.takeRx n (rspVc (b.chan n).ll.count t.vc) true = (true, b1) →
        let t' := { t with got := t.got + 2 ^ idx }
        let d := b1.modLl n (fun l => { l with tags := if t'.got + 1 = 2 ^ t.len then Tbl.del tag l.tags else Tbl.put tag t' l.tags })
        (status = 0 → Completes (.rdataReceive n tag idx w status) s (d.unitLineIn c uid (off + idx) w.read.2 w.read.1))
          ∧ (status ≠ 0 → Completes (.rdataReceive n tag idx w status) s (d.unitLineIn c uid (off + idx) w .uncorrectable)))
      ∧ (∀ tag idx w status, Tbl.find tag (b.chan n).ll.tags = none → Completes (.rdataReceive n tag idx w status) s (b.protoError n 0))
      ∧ (∀ b1, b.takeMgmt n = (true, b1) →
        (∀ tag data, Completes (.sregRspReceive n tag data) s (b1.level (48 * n + 5) true))
          ∧ ∀ code detail, code ≠ 5 →
            Completes (.eventReceive n code detail) s
              (((b1.modLl n (fun l => { l with events := l.events + 1 })).level (48 * n + 4) true).note n (eventSource code) (code * 2 ^ 32 + detail % 2 ^ 32)))

/-- R293-R298. Initialisation: INIT_PARAM of revision 1 with four or more virtual channels, INIT_IDENT of 1 to 8,192 GiB and the serial,
CRED_DATA and INIT_DONE are taken, each followed by the check for the end; a time-out takes the link down. -/
def Obligations.LinkInitialises : Prop :=
  ∀ (s : State) (b : Bridge) (n : Fin 16), Live s b → (b.chan n).ll.state = .init →
    (∀ resume vcs txSeq rxExp rev mgmt, rev / 256 = 1 → 4 ≤ vcs → Completes (.initParamReceive n resume vcs txSeq rxExp rev mgmt) s
        ((b.modLl n (fun l => { l with
          param := some { resume := resume, vcs := vcs, txSeq := txSeq, rxExp := rxExp, rev := rev, mgmt := mgmt }
          newId := { l.newId with rev := rev } })).checkInit n))
      ∧ (∀ v p r c a x f m serial, Completes (.initIdentReceive n true v p r c a x f m serial) s
        ((b.modLl n (fun l => { l with newId := { l.newId with serial := serial }, idents := putBit l.idents 1 true })).checkInit n))
      ∧ (∀ vendor product revision capGib persist restored selfRefresh saveMs serial,
        let i : SledId := { vendor := vendor, product := product, revision := revision, capGib := capGib, persist := persist, restored := restored, selfRefresh := selfRefresh, saveMs := saveMs }
        (1 ≤ capGib → capGib ≤ 8192 →
            Completes (.initIdentReceive n false vendor product revision capGib persist restored selfRefresh saveMs serial) s
              ((b.modLl n (fun l => { l with
                newId := { i with serial := l.newId.serial, rev := l.newId.rev, energyLow := false }, idents := putBit l.idents 0 true })).checkInit n)))
      ∧ (∀ (v : Fin 8) hdr data, (b.chan n).ll.resumeOffered = false → hdr < 65536 → data < 65536 →
        Completes (.credDataReceive n v hdr data) s ((b.modLl n (fun l => { l with
          idents := putBit l.idents (2 + v) true, vc := Tbl.put v { l.cred v with hdrLimit := hdr, dataLimit := data } l.vc })).checkInit n))
      ∧ Completes (.initDoneReceive n) s ((b.modLl n (fun l => { l with doneRcvd := true })).tryUp n)
      ∧ Completes (.initTimeout n) s ((b.lanesToDetect n).linkFalls n)

/-- R52, R265-R269, R299, R306. Power management and speed: an idle link asks to pause, and an accepted request stops it in electrical idle; a speed
change is asked for, refused, or, accepted in ACTIVE, pauses the link and switches; past its
bound the link is taken down. -/
def Obligations.LinkPowerAndSpeed : Prop :=
  ∀ (s : State) (b : Bridge) (n : Fin 16), Live s b →
    ((b.chan n).ll.state = .up → (b.chan n).ll.unacked = [] → (b.chan n).ll.tags = [] → (b.chan n).ll.txq = [] → b.linkWork n = false →
        (b.chan n).ll.pmSent = false → (b.pwr.state = 2 ∨ (b.chan n).ll.idleEn = true) →
        Completes (.idleRequest n) s ((b.modLl n (fun l => { l with pmSent := true, pmRefresh := l.id.selfRefresh })).sendRec n
          (.pmReq (b.chan n).ll.id.selfRefresh)))
      ∧ ((b.chan n).ll.pmSent = true → (b.chan n).ll.state = .up → (b.phy n).state = .active →
        Completes (.pmRspReceive n true) s (((((b.pauseLink n).modLl n (fun l => { l with refreshing := l.pmRefresh })).modPhy n
          (fun p => { p with state := .eidle, idleSent := true }))).emit (.lanes n .idlePattern)))
      ∧ ((b.chan n).ll.pmSent = true → Completes (.pmRspReceive n false) s (b.modLl n (fun l => { l with pmSent := false })))
      ∧ (∀ r, (b.phy n).bestRate = some r → (b.chan n).ll.state = .up → (b.phy n).state = .active → (b.chan n).ll.rateReq = none →
        r ≠ (b.phy n).rate →
        Completes (.rateChangeStart n) s ((b.modLl n (fun l => { l with rateReq := some r })).sendRec n (.rateReq r)))
      ∧ (∀ r, (b.chan n).ll.rateReq = some r →
        Completes (.rateRspReceive n false) s (b.modLl n (fun l => { l with rateReq := none }))
          ∧ ((b.phy n).state = .active → Completes (.rateRspReceive n true) s
            (((b.pauseLink n).modPhy n (fun p => { p with nextRate := r, full := false })).enterRateSwitch n))
          ∧ ((b.phy n).state = .fastRetrain → Completes (.rateRspReceive n true) s (b.modPhy n (fun p => { p with nextRate := r, rateWait := true }))))
      ∧ ((b.chan n).ll.state = .paused → (b.chan n).ll.rateReq.isSome = true → Completes (.rateChangeTimeout n) s ((b.lanesToDetect n).linkFalls n))

/-- R298, R301-R305, R395-R397. Loss of a link: LINK_DOWN, or the sled's reset, takes a link that is up down; in its grace the reads are let go at
READ_HOLD, and its end starts the flush; the flush over, the link is down and the channel fenced. A line of a host read past its hold limit is
asked of the mirror's partner, or given poison; a drain past its own moves into the location's grace store.
It rests on log entries 14 and 67 (the model's). -/
def Obligations.LinkLoss : Prop :=
  ∀ (s : State) (b : Bridge), Live s b →
    (∀ n : Fin 16, (b.chan n).ll.state = .up → Completes (.linkDown n) s ((b.lanesToDetect n).linkFalls n)
        ∧ ∀ reason, Completes (.linkResetReceive n reason) s ((b.lanesToDetect n).linkFalls n))
      ∧ (∀ n : Fin 16, (b.chan n).ll.state = .grace → (b.chan n).ll.hold = false → Completes (.readHold n) s (b.readHold n))
      ∧ (∀ n : Fin 16, (b.chan n).ll.state = .grace → (b.chan n).ll.hold = true →
        Completes (.graceExpiry n) s (b.modLl n (fun l => { l with state := .flush, flushFromInit := false })))
      ∧ (∀ n : Fin 16, (b.chan n).ll.state = .flush → (b.chan n).ll.hold = true → (b.chan n).ll.flushFromInit = false →
        let d := (b.loseLink n).modLl n (fun l => { l with
          state := if l.flushFromInit then .up else .down, tags := [], txq := [], unacked := [], holding := false, hold := false, gdrain := false
          flushes := cnt32 l.flushes 1, nonce := none, flushFromInit := false })
        let d := ((d.level (48 * n + 3) true).level (48 * n + 5) true).fenceChannel n 26 0
        Completes (.flushComplete n) s (if (d.chan n).ll.state = .down ∧ (d.phy n).state = .active then d.startInit n else d))
      ∧ (∀ rid idx r l ch c, b.read rid = some r → r.lines[idx]? = some l → l.ch = some ch → l.done = none → l.partner = false →
        b.exposed r.inst ch l = true → b.partnerOf ch l.ln = some c → Completes (.holdLimitPartner rid idx) s (b.reissue rid idx c))
      ∧ (∀ rid idx r l ch, b.read rid = some r → r.lines[idx]? = some l → l.ch = some ch → l.done = none → b.exposed r.inst ch l = true →
        (l.partner = true ∨ b.partnerOf ch l.ln = none) →
        Completes (.holdLimitPoison rid idx) s (b.linePoison rid idx))
      ∧ (∀ (n : Fin 16) ln e c x g, (b.chan n).acc.openEntry ln = some e → b.place n e.inst ln = .at (.sled c x) → e.offered = true →
        ((b.chan n).acc.wcb.any (fun x => decide (x.ln = ln) && x.sealed)) = false → b.locFenced n (.sled c 0) = false → b.linkBad c = true →
        let e1 := b.sealEntry n ln (b.poisonDue ln (.sled c x))
        (e1.chan n).acc.sealedEntry ln = some g → ∀ d, e1.toGrace c n g = (false, d) →
        Completes (.drainHoldLimit n ln) s (if (d.chan c).ll.state = .up then d.graceDrain c else d))

-- Power and reset, sled positions, scans ---------------------------------------------------------------------------------------------------

/-- R414, R427-R429, R443, R461, R473, R488-R493, R496, R498, R499, R501, R502, R527-R529, R553. Power-on reset leaves the bridge held, with
PERST_N's and PWR_FAIL_N's pins as they are, LEVEL 0 and the near tier empty; a supply fault fires detector 4, and below the threshold
power-on reset follows; start-up loads the fuses and runs; PERST_N falls and rises; Doze is entered, watched, and left, what waited for the
wake following; a trip runs the power-loss sequence; sensors and rails are sampled; a packet and a character raise their sources.
It rests on log entries 11, 56, 66, 72 and 73 (the model's). -/
def Obligations.PowerAndReset : Prop :=
  ∀ s : State,
    (∀ kept, ∃ t, exec (.powerOnReset kept) s = .next t ∧ t.pending = s.pending ∧ t.near = [] ∧ t.br.pwr.por = true
        ∧ t.br.pwr.perstLow = s.br.pwr.perstLow ∧ t.br.pwr.failLow = s.br.pwr.failLow ∧ t.br.glb.level = 0 ∧ t.br.pwr.started = false
        ∧ t.br.fuses.array = s.br.fuses.array ∧ (kept = false → t.br.knl.kekValid = false ∧ t.br.knl.latch = true ∧ t.br.knl.stateLost = true))
      ∧ (s.br.pwr.por = false → Completes (.supplyFault false) s (doTamperFire 4 0 s.br.fresh))
      ∧ (∃ t, exec (.supplyFault true) s = .next t ∧ t.pending = s.pending ∧ t.near = [] ∧ t.br.pwr.por = true ∧ t.br.glb.level = 0
        ∧ t.br.pwr.started = false)
      ∧ (∀ hbms cores tenancy board, s.br.pwr.started = false → s.br.pwr.dead = false →
          let d := { s.br.fresh with pwr := { s.br.pwr with por := false, failLow := false, keepMaps := false }, boot := { s.br.boot with board := board } }
          let d := (d.modHerd (fun h => { h with holdup := board.holdup })).modFuses Fuses.load
          Completes (.startUp hbms cores tenancy board) s
            ((d.each channels (fun n d => d.modPhy n (fun p => { p with
              ceiling := Tbl.get 3 n board.ceiling, boardPreset := Tbl.get 1 n board.preset }))).startUp hbms cores tenancy))
      ∧ (s.br.pwr.perstLow = false → s.br.pwr.por = false → s.br.pwr.dead = false → s.br.pwr.started = true →
          let d := { s.br.fresh with pwr := { s.br.pwr with perstLow := true } }
          (s.br.jrn.step ≠ 0 → s.br.pwr.held = false → Completes .perstAssert s { d with pwr := { d.pwr with perstDue := true } })
            ∧ (s.br.jrn.step = 0 → s.br.pwr.state = 3 →
                Completes .perstAssert s ((d.modPwr (fun p => { p with wakeThen := putBit p.wakeThen 0 true })).startWake 3))
            ∧ (s.br.jrn.step = 0 → s.br.pwr.state < 2 → Completes .perstAssert s d.perstFalls))
      ∧ (∀ hbms cores tenancy slotA slotB next seq, s.br.pwr.perstLow = true → s.br.boot.qspiFree = false →
          let d := { s.br.fresh with pwr := { s.br.pwr with perstLow := false } }
          (s.br.pwr.started = false → Completes (.perstDeassert hbms cores tenancy slotA slotB next seq) s d)
            ∧ (s.br.pwr.started = true → s.br.pwr.por = false → s.br.pwr.dead = false → s.br.pwr.perstDue = false → bitOf s.br.pwr.wakeThen 0 = false →
                Completes (.perstDeassert hbms cores tenancy slotA slotB next seq) s (d.perstRises hbms cores tenancy)))
      ∧ (s.br.pwr.por = false → s.br.pwr.dead = false → s.br.pwr.held = false → s.br.pwr.state ≤ 2 → s.br.jrn.step = 0 →
          Completes .thermalTrip s ({ s.br.fresh with pwr := { s.br.pwr with tripDue := true } } : Bridge).powerLoss)
      ∧ ∀ b, Live s b →
        (b.boot.rom = true → b.boot.qspiFree = false →
            Completes .qspiPinRelease s (({ b with boot := { b.boot with qspiFree := true } } : Bridge).emit (.pin .qspiFree true)))
          ∧ (b.pwr.state = 2 → b.dozeReady = true → b.jrn.step = 0 → b.port.up = false →
            Completes .dozeEntry s (b.modPwr (fun p => { p with state := 3, holdOver := true, dozes := cnt32 p.dozes 1 })).whistle)
          ∧ (∀ i, b.watchedHigh = some i → b.pwr.state = 3 →
            Completes .whistleWake s (({ b with icu := { b.icu with whCause := some i, whTime := b.glb.time, wakes := cnt32 b.icu.wakes 1 } } : Bridge).startWake 1))
          ∧ (∀ cause, b.pwr.state = 3 → Completes (.wakeStart cause) s
            (((b.modPwr (fun p => { p with state := 4, wakeCause := cause })).when (decide (cause = 1)) (·.pmEvent)).each channels (fun n b => b.exitIdle n)))
          ∧ (b.pwr.state = 4 → b.pwr.wakeThen = 0 → b.knl.atWake = [] →
            Completes .wakeComplete s (b.modPwr (fun p => { p with state := p.prev })))
          ∧ (b.pwr.state = 4 → bitOf b.pwr.wakeThen 0 = false → bitOf b.pwr.wakeThen 1 = true → b.knl.atWake = [] →
            Completes .wakeComplete s (b.modPwr (fun p => { p with state := p.prev, wakeThen := 0 })).powerLoss)
          ∧ (∀ t : Fin 15 → Int, b.tlm.fenced = false →
            let d := (b.each (List.range 15) (fun i b => b.modTlm (fun x => { x with sensor := Tbl.put i (t (Fin.ofNat 15 i), true) x.sensor }))).modTlm
              (fun x => { x with sensed := true, valid := x.railed })
            Completes (.sensorSample ((List.range 15).map (fun i => some (t (Fin.ofNat 15 i))))) s
              (match d.tjMax with
                | some (m, _) => (d.warnLevel m).critLevel m
                | none => d))
          ∧ (∀ mw : List Nat, mw.length = 7 → (∀ x ∈ mw, x < 2 ^ 20) → b.tlm.fenced = false →
            Completes (.railSample mw) s (b.countTlm (fun t => { t with
              rail := (List.range 7).map (fun r => (r, ((mw[r]?).getD 0))), energy := t.energy + mw.foldl (· + ·) 0 * 1048576
              railed := true, valid := t.sensed })))
          ∧ (∀ packet, bitOf b.glb.sideFenced 0 = false → Completes (.mctpPacketReceive packet) s (b.level 975 true))
          ∧ ∀ data, bitOf b.glb.sideFenced 1 = false → Completes (.uartReceive data) s (b.level 976 true)

/-- R512, R515, R517, R518. A sled is inserted, and leaves an empty, a waiting or an admitted position; the button starts, aborts or is ignored; the
windows end in ADMITTING or in the removal; PWREN's settle times start the lanes, or end a removal in READY; the attention LED goes out.
It rests on log entries 14 and 62 (the model's). -/
def Obligations.SledPositions : Prop :=
  ∀ (s : State) (n : Fin 16),
    ((s.br.chan n).svc.present = false →
        let d := (s.br.fresh.modSvc n (fun x => { x with present := true, inserts := cnt32 x.inserts 1 })).level (48 * n + 6) true
        (((s.br.chan n).svc.state = .empty ∨ (s.br.chan n).svc.state = .ready ∨ ((s.br.chan n).svc.state = .lost ∧ s.br.opOn 0x0503 (65536 + n) = none)) →
          Completes (.sledInserted n) s (d.toSvc n .present)))
      ∧ ((s.br.chan n).svc.present = true →
        let d := (s.br.fresh.modSvc n (fun x => { x with present := false })).level (48 * n + 6) true
        let gone := fun (b : Bridge) => b.modLl n (fun l => { l with id := {} })
        (((s.br.chan n).svc.state = .present ∨ (s.br.chan n).svc.state = .ready ∨ (s.br.chan n).svc.state = .failed) →
            Completes (.sledDeparted n) s (gone (d.toSvc n .empty)))
          ∧ ((s.br.chan n).svc.state = .admitWait →
            Completes (.sledDeparted n) s (gone ((d.modSvc n (fun x => { x with aborts := cnt32 x.aborts 1 })).toSvc n .empty)))
          ∧ ((s.br.chan n).svc.state = .admitting → Completes (.sledDeparted n) s (gone (d.failAdmit n 1 7 .empty)))
          ∧ (((s.br.chan n).svc.state = .admitted ∨ (s.br.chan n).svc.state = .removeWait ∨ (s.br.chan n).svc.state = .evacuating
              ∨ (s.br.chan n).svc.state = .poweringOff) → Completes (.sledDeparted n) s (gone (d.surprise n))))
      ∧ ∀ b, Live s b →
        ((b.pwr.state ≠ 3 → 2 ≤ b.glb.level →
            let d := b.level (48 * n + 7) true
            (((b.chan n).svc.state = .present ∨ (b.chan n).svc.state = .failed) → Completes (.attnButtonPress n) s
                ((d.toSvc n .admitWait).modSvc n (fun x => { x with before := (b.chan n).svc.state })))
              ∧ ((b.chan n).svc.state = .admitWait → Completes (.attnButtonPress n) s
                ((d.modSvc n (fun x => { x with aborts := cnt32 x.aborts 1, reason := 5 })).toSvc n .present))
              ∧ ((b.chan n).svc.state = .admitted → b.mayRemove n = true → Completes (.attnButtonPress n) s (d.toSvc n .removeWait))
              ∧ ((b.chan n).svc.state = .removeWait → Completes (.attnButtonPress n) s
                ((d.modSvc n (fun x => { x with aborts := cnt32 x.aborts 1 })).endRemoval n 1 0 .admitted))
              ∧ (((b.chan n).svc.state = .empty ∨ (b.chan n).svc.state = .ready ∨ (b.chan n).svc.state = .evacuating) → Completes (.attnButtonPress n) s
                (d.modSvc n (fun x => { x with presses := cnt32 x.presses 1 })))))
          ∧ ((b.pwr.state = 3 ∨ b.glb.level < 2) → Completes (.attnButtonPress n) s (b.level (48 * n + 7) true))
          ∧ ((b.chan n).svc.state = .admitWait → Completes (.serviceWindowExpiry n) s (b.toSvc n .admitting))
          ∧ ((b.chan n).svc.state = .removeWait → Completes (.serviceWindowExpiry n) s (b.beginRemoval n))
          ∧ ((b.chan n).svc.state = .admitting → (b.phy n).state = .disabled → (b.chan n).svc.present = true →
            Completes (.sledPowerSettle n) s ((b.modPhy n (fun p => { p with attempt := 0 })).lanesToDetect n))
          ∧ ((b.chan n).svc.state = .poweringOff → Completes (.powerOffSettle n) s
            ((b.modSvc n (fun x => { x with removals := cnt32 x.removals 1 })).endRemoval n 0 0 .ready))
          ∧ ((b.chan n).svc.attn = true →
            Completes (.attnLedTimeout n) s ((b.modSvc n (fun x => { x with attn := false })).emit (.pin (.attnLed n) true)))

/-- R146-R150, R152-R154, R159, R170, R176. The fetcher reads the next descriptor of the ring whose turn it is, a ring that may be fetched from, and of
no other; read, it is passed and its blocks are asked for, and a failed read sets FETCH_ERR; a job that breaks no rule is accepted, and one
whose header cannot be read sets RESULT_ERR; holds and fences let a job go; the next piece of the first job that has one to place is placed on
its queue, or ends unrun, UNBACKED where its segment is not valid; a grant binds the piece the queues' turns choose to a lane, a free value
where several are free (log entry 4); a parked piece goes back to the head of its queue where that has room; CONSUMER is read again; a piece
whose rows are done and whose records are written is over, and one with records left waits.
It rests on log entries 49, 50, 103, 104, 106, 112 and 113 (the model's). -/
def Obligations.ScansProceed : Prop :=
  (∀ (b : Bridge) (key : Nat), b.fetchTurn = some key → b.mayFetch (key / 8) (key % 8) = true)
  ∧ (∀ (b : Bridge) (inst ext : Nat) (e : SegEntry), b.segAt inst (ext / 512) = some e →
      ((e.valid = false ∨ e.inst ≠ inst) → b.placement inst ext = .ends 2 (some e.chan))
        ∧ ∀ home, let dla := e.dlaSeg * 2 ^ 24 + ext % 512 * 32768
          e.valid = true → e.inst = inst → b.place e.chan inst dla = .at home → b.chFenced e.chan = false → (b.chan e.chan).rtv.noLane = false →
          (b.chan e.chan).rtv.nearQ.length < 256 → (b.chan e.chan).rtv.farQ.length < 256 →
          b.placement inst ext = .queue e.chan dla (decide (b.nearCount e.chan (dla / 32768) = 512)))
  ∧ ∀ (s : State) (b : Bridge), Live s b →
    (∀ (fn : Fin 256) (k : Fin 8), (b.fetchTurn ≠ some (fn * 8 + k.val) → Completes (.jobFetch fn k) s b)
        ∧ (b.fetchTurn = some (fn * 8 + k.val) →
          let bell := ((b.ring fn k).bells.find? (fun t => decide (t.1 ≠ (b.ring fn k).head))).map Prod.snd
          Completes (.jobFetch fn k) s ((b.modScan (fun x => { x with
            fetch := x.fetch ++ [(x.nextId, { fn := fn, ring := k, index := (b.ring fn k).head, before := bell.getD b.port.nextReq, desc := .reading (List.replicate 128 0) [(0, 128)] })]
            nextId := x.nextId + 1, visit := (fn * 8 + k.val + 1) % 2048 })).askBlocks)))
      ∧ (∀ id f, Tbl.find id b.scan.fetch = some f → f.hdr = .unasked → f.stale = false →
        let pass : Ring → Ring := fun r => { r with head := (f.index + 1) % 65536, bells := r.bells.filter (fun t => decide (t.1 ≠ (f.index + 1) % 65536)) }
        (∀ bs, f.desc = .read bs →
            let n := fieldAt 16 8 bs
            Completes (.descriptorReadComplete id) s (((b.modRing f.fn f.ring pass).modFetch id (fun f => { f with
              hdr := .reading (List.replicate 64 0) [(0, 64)]
              prog := .reading (List.replicate 2048 0) [(0, 64)]
              list := if f.program.isList ∧ 1 ≤ n ∧ n ≤ 65536 then .reading (List.replicate (4 * n) 0) [(0, 4 * n)] else .unasked })).askBlocks))
          ∧ (f.desc = .failed → Completes (.descriptorReadComplete id) s
            (((b.modRing f.fn f.ring (fun r => { pass r with fetchErr := true, errIndex := f.index })).modScan
              (fun x => { x with fetch := Tbl.del id x.fetch })).event 0x29 8 false (f.fn * 8 + f.ring) none)))
      ∧ (∀ id f bs, Tbl.find id b.scan.fetch = some f → f.hdr = .failed → f.prog = .read bs → f.program.inSet = false → f.set = .unasked → f.list = .unasked →
        (b.ring f.fn f.ring).marks = [] →
        Completes (.jobCheck id) s
          ((((b.modScan (fun x => { x with fetch := Tbl.del id x.fetch })).modRing f.fn f.ring (fun r => { r with
            marks := r.marks.filter (fun m => decide (m.1 ≠ f.index)), tags := r.tagsWith f.index f.program.tag })).modRing
            f.fn f.ring (fun r => { r with resultErr := true, errIndex := f.index })).event 0x29 8 false (f.fn * 8 + f.ring) none))
      ∧ (∀ id f h bs, Tbl.find id b.scan.fetch = some f → f.hdr = .read h → badHeader h = false → f.prog = .read bs → f.program.inSet = false →
        f.set = .unasked → f.list = .unasked → f.program.isList = false → f.program.flag 0 = false → (b.ring f.fn f.ring).marks = [] →
        f.refusal (b.inst f.fn).grant.segs (b.vectors f.fn) = none → b.scan.job.any (fun e => decide (e.2.program.ring = f.program.ring)) = false →
        let d := (b.modScan (fun x => { x with fetch := Tbl.del id x.fetch })).modRing f.fn f.ring (fun r => { r with
          marks := r.marks.filter (fun m => decide (m.1 ≠ f.index)), tags := r.tagsWith f.index f.program.tag })
        let rr : ResultRing := { base := fieldAt 0 8 h, size := fieldAt 8 4 h, prod := fieldAt 16 8 h, cons := fieldAt 24 8 h }
        let j : Job := { fn := f.fn, ring := f.ring, index := f.index, desc := f.desc.bytes, prog := bs, set := [], rr := rr, split := true,
                         runs := d.jobRuns f.fn f.program [], total := fieldAt 16 8 f.desc.bytes / 2097152 }
        Completes (.jobCheck id) s ((d.modScan (fun x => { x with
          job := x.job ++ [(x.nextId, j)], nextId := x.nextId + 1, accepted := x.accepted + 1 })).jobPump b.scan.nextId))
      ∧ (∀ id j, Tbl.find id b.scan.job = some j → j.ringHeld = true →
        b.scan.job.any (fun e => decide (e.1 < id) && decide (e.2.program.ring = j.program.ring)) = false →
        Completes (.resultRingHoldRelease id) s ((b.modJob id (fun j => { j with ringHeld := false, split := j.split || j.fence.isNone })).jobPump id))
      ∧ (∀ id j before, Tbl.find id b.scan.job = some j → j.fence = some before → b.fenceOver before = true →
        Completes (.fenceStartRelease id) s (b.modJob id (fun j => { j with fence := none, split := j.split || !j.ringHeld })))
      ∧ (∀ id j ord ext j', b.scan.job.find? (fun e => (b.nextPlacement e.2).goes) = some (id, j) → j.nextPiece = (some (ord, ext), j') →
        (∀ status ch, b.nextPlacement j = .ends status ch → Completes (.piecePlace id) s ((b.modJob id (fun _ => j')).endUnrun id ord ext status ch))
          ∧ (∀ ch dla, b.nextPlacement j = .queue ch dla false → Completes (.piecePlace id) s (((b.modJob id (fun _ => j')).modRtv ch (fun r => { r with
              farQ := r.farQ ++ [{ job := id, ord := ord, ext := ext, backed := true, dla := dla, near := false }] })).modHerd
                (fun h => { h with pieces := h.pieces + 1 })))
          ∧ ∀ ch dla, b.nextPlacement j = .queue ch dla true → Completes (.piecePlace id) s (((b.modJob id (fun _ => j')).modRtv ch (fun r => { r with
              nearQ := r.nearQ ++ [{ job := id, ord := ord, ext := ext, backed := true, dla := dla, near := true }] })).modHerd
                (fun h => { h with pieces := h.pieces + 1, nearPieces := h.nearPieces + 1 })))
      ∧ (∀ (n : Fin 16) x, b.chFenced n = false → b.pwr.thermHold = false → b.scan.stopped = false → (b.chan n).rtv.grantAt ≠ some b.glb.time →
        (b.chan n).rtv.nearQ = [] → b.nextOf (b.chan n).rtv.farQ (b.chan n).rtv.lastInst.2 = some x → (List.range 5).any (b.chan n).rtv.free = true →
        let k := b.pick (b.chan n).rtv.free 5
        Completes (.pieceGrant n) s (((k.2.modRtv n (fun r => { r with
          farQ := r.farQ.erase x, lastNear := false, lastInst := (r.lastInst.1, b.pieceInst x), grantAt := some b.glb.time })).bind n (k.1.getD 0) x).enterHeld n false))
      ∧ (∀ (n : Fin 16) k x j r t, (b.chan n).rtv.parked[k]? = some x → Tbl.find x.job b.scan.job = some j → x.out = r :: t →
        j.rr.room (64 * r.units) = true → (b.chan n).rtv.nearQ.length < 256 → (b.chan n).rtv.farQ.length < 256 →
        Completes (.pieceUnpark n k) s (b.modRtv n (fun v => { v with
          parked := v.parked.eraseIdx k, nearQ := if x.near then x :: v.nearQ else v.nearQ, farQ := if x.near then v.farQ else x :: v.farQ })))
      ∧ (∀ id j, Tbl.find id b.scan.job = some j → j.lost = false → j.rr.short = true → j.rr.reading = false → j.rr.readAt ≠ b.stride + 1 →
        b.mayRead j.fn = true →
        Completes (.consumerReread id) s
          ((b.modJob id (fun j => { j with rr := { j.rr with reading := true, readAt := b.stride + 1 } })).issueRead j.fn (j.program.ring + 24) 8 (.consumer id)))
      ∧ (∀ (n : Fin 16) (lane : Fin 5) x,
        (Tbl.find lane.val (b.chan n).rtv.lane = some x → Tbl.find x.job b.scan.job = none →
            Completes (.pieceEnd n lane) s (b.modRtv n (fun r => { r with lane := Tbl.del lane.val r.lane })))
          ∧ (let e := b.laneOn n lane 1024
            ∀ j, Tbl.find lane.val (e.chan n).rtv.lane = some x → Tbl.find x.job e.scan.job = some j →
            (x.ended = false → j.program.advance x ≠ .over → Completes (.pieceEnd n lane) s e)
              ∧ (x.ended = true → j.lost = false →
                let r := e.laneWrites n lane x
                (r.1.out = [] → Completes (.pieceEnd n lane) s (r.2.pieceOver n lane r.1)) ∧ (r.1.out ≠ [] → Completes (.pieceEnd n lane) s r.2))
              ∧ (x.ended = false → j.program.advance x = .over → j.lost = false →
                let r := e.laneWrites n lane (j.program.finish x)
                (r.1.out = [] → Completes (.pieceEnd n lane) s (r.2.pieceOver n lane r.1)) ∧ (r.1.out ≠ [] → Completes (.pieceEnd n lane) s r.2))))
end

