-- ==== Sys2Proof/Laws/Tables.lean ====
section
/-! SUPPORT. Tables: what a put, a removal and a run of landings do, and that they keep the canonical form. -/

namespace Sys2Proof

theorem Tbl.risingFrom_le {α : Type} {t : Tbl α} {lo lo' : Nat} (h : Tbl.risingFrom lo t = true) (le : lo' ≤ lo) :
    Tbl.risingFrom lo' t = true := by
  cases t with
  | nil => rfl
  | cons e t =>
    obtain ⟨k, v⟩ := e
    simp only [Tbl.risingFrom, Bool.and_eq_true, decide_eq_true_eq] at h ⊢
    exact ⟨by omega, h.2⟩

theorem Tbl.risingFrom_put {α : Type} {t : Tbl α} {lo k : Nat} (v : α) (h : Tbl.risingFrom lo t = true) (le : lo ≤ k) :
    Tbl.risingFrom lo (Tbl.put k v t) = true := by
  induction t generalizing lo with
  | nil => simp [Tbl.put, Tbl.risingFrom, le]
  | cons e t ih =>
    obtain ⟨j, w⟩ := e
    simp only [Tbl.risingFrom, Bool.and_eq_true, decide_eq_true_eq] at h
    unfold Tbl.put
    split
    · simp only [Tbl.risingFrom, Bool.and_eq_true, decide_eq_true_eq]; exact ⟨le, by omega, h.2⟩
    · split
      · subst j; simp only [Tbl.risingFrom, Bool.and_eq_true, decide_eq_true_eq]; exact ⟨le, h.2⟩
      · simp only [Tbl.risingFrom, Bool.and_eq_true, decide_eq_true_eq]; exact ⟨h.1, ih h.2 (by omega)⟩

theorem Tbl.risingFrom_del {α : Type} {t : Tbl α} {lo k : Nat} (h : Tbl.risingFrom lo t = true) : Tbl.risingFrom lo (Tbl.del k t) = true := by
  induction t generalizing lo with
  | nil => rfl
  | cons e t ih =>
    obtain ⟨j, w⟩ := e
    simp only [Tbl.risingFrom, Bool.and_eq_true, decide_eq_true_eq] at h
    unfold Tbl.del
    split
    · exact Tbl.risingFrom_le h.2 (by omega)
    · simp only [Tbl.risingFrom, Bool.and_eq_true, decide_eq_true_eq]; exact ⟨h.1, ih h.2⟩

/-- A put keeps the canonical form. -/
theorem Tbl.rising_put {α : Type} {t : Tbl α} {k : Nat} {v : α} (h : Tbl.rising t = true) : Tbl.rising (Tbl.put k v t) = true :=
  Tbl.risingFrom_put v h (Nat.zero_le k)

/-- A removal keeps the canonical form. -/
theorem Tbl.rising_del {α : Type} {t : Tbl α} {k : Nat} (h : Tbl.rising t = true) : Tbl.rising (Tbl.del k t) = true :=
  Tbl.risingFrom_del h

/-- A number below the lowest is not listed. -/
theorem Tbl.find_of_lt {α : Type} {t : Tbl α} {lo k : Nat} (h : Tbl.risingFrom lo t = true) (lt : k < lo) : Tbl.find k t = none := by
  induction t generalizing lo with
  | nil => rfl
  | cons e t ih =>
    obtain ⟨j, w⟩ := e
    simp only [Tbl.risingFrom, Bool.and_eq_true, decide_eq_true_eq] at h
    rw [Tbl.find, if_neg (by omega)]
    exact ih h.2 (by omega)

@[simp] theorem Tbl.find_put_self {α : Type} (t : Tbl α) (k : Nat) (v : α) : Tbl.find k (Tbl.put k v t) = some v := by
  induction t with
  | nil => simp [Tbl.put, Tbl.find]
  | cons e t ih =>
    obtain ⟨j, w⟩ := e
    unfold Tbl.put
    split
    · simp [Tbl.find]
    · split
      · simp [Tbl.find]
      · rename_i h; rw [Tbl.find, if_neg h]; exact ih

theorem Tbl.find_put_ne {α : Type} (t : Tbl α) {j k : Nat} (v : α) (ne : j ≠ k) : Tbl.find j (Tbl.put k v t) = Tbl.find j t := by
  induction t with
  | nil => simp [Tbl.put, Tbl.find, Ne.symm ne]
  | cons e t ih =>
    obtain ⟨i, w⟩ := e
    unfold Tbl.put
    split
    · simp [Tbl.find, Ne.symm ne]
    · split
      · subst i; simp [Tbl.find, Ne.symm ne]
      · simp [Tbl.find, ih]

theorem Tbl.find_del_ne {α : Type} (t : Tbl α) {j k : Nat} (ne : j ≠ k) : Tbl.find j (Tbl.del k t) = Tbl.find j t := by
  induction t with
  | nil => rfl
  | cons e t ih =>
    obtain ⟨i, w⟩ := e
    unfold Tbl.del
    split
    · subst i; simp [Tbl.find, Ne.symm ne]
    · simp [Tbl.find, ih]

theorem Tbl.find_del_self {α : Type} {t : Tbl α} {k lo : Nat} (h : Tbl.risingFrom lo t = true) : Tbl.find k (Tbl.del k t) = none := by
  induction t generalizing lo with
  | nil => rfl
  | cons e t ih =>
    obtain ⟨i, w⟩ := e
    simp only [Tbl.risingFrom, Bool.and_eq_true, decide_eq_true_eq] at h
    unfold Tbl.del
    split
    · subst i; exact Tbl.find_of_lt h.2 (by omega)
    · rename_i ne; simp [Tbl.find, ne, ih h.2]

@[simp] theorem Tbl.get_put_self {α : Type} (d : α) (t : Tbl α) (k : Nat) (v : α) : Tbl.get d k (Tbl.put k v t) = v := by
  induction t with
  | nil => simp [Tbl.put, Tbl.get]
  | cons e t ih =>
    obtain ⟨j, w⟩ := e
    unfold Tbl.put
    split
    · simp [Tbl.get]
    · split
      · simp [Tbl.get]
      · rename_i h; rw [Tbl.get, if_neg h]; exact ih

theorem Tbl.get_put_ne {α : Type} (d : α) (t : Tbl α) {j k : Nat} (v : α) (ne : j ≠ k) : Tbl.get d j (Tbl.put k v t) = Tbl.get d j t := by
  induction t with
  | nil => simp [Tbl.put, Tbl.get, Ne.symm ne]
  | cons e t ih =>
    obtain ⟨i, w⟩ := e
    unfold Tbl.put
    split
    · simp [Tbl.get, Ne.symm ne]
    · split
      · subst i; simp [Tbl.get, Ne.symm ne]
      · simp [Tbl.get, ih]

namespace Machine

/-- Landings keep the near tier's canonical form. -/
theorem landAll_wf {ls : List (Nat × Option Line)} {m : Near} (h : Near.wf m) : Near.wf (landAll ls m) := by
  induction ls generalizing m with
  | nil => exact h
  | cons e t ih =>
    obtain ⟨k, c⟩ := e
    cases c with
    | none => exact ih (Tbl.rising_del h)
    | some c => exact ih (Tbl.rising_put h)

/-- Landings leave every line alone that they do not name. -/
theorem landAll_other {ls : List (Nat × Option Line)} {m : Near} {k : Nat} (h : ∀ e ∈ ls, e.1 ≠ k) : Tbl.find k (landAll ls m) = Tbl.find k m := by
  induction ls generalizing m with
  | nil => rfl
  | cons e t ih =>
    obtain ⟨j, c⟩ := e
    have hj : j ≠ k := h (j, c) (by simp)
    have ht : ∀ e ∈ t, e.1 ≠ k := fun e he => h e (by simp [he])
    cases c with
    | none => rw [landAll, ih ht, Tbl.find_del_ne _ (Ne.symm hj)]
    | some c => rw [landAll, ih ht, Tbl.find_put_ne _ _ (Ne.symm hj)]

end Machine

end Sys2Proof
end

