-- ==== Sys2Proof/Laws/Channels.lean ====
section
/-! SUPPORT. A channel's parts after an update of a channel. -/

namespace Sys2Proof.Machine

open Sys2Proof

@[simp] theorem Bridge.modCh_chan (n : Nat) (f : Channel → Channel) (b : Bridge) : (b.modCh n f).chan n = f (b.chan n) := by
  simp [Bridge.chan]

/-- Another channel stands. -/
theorem Bridge.modCh_chan_ne {n m : Nat} (f : Channel → Channel) (b : Bridge) (ne : m ≠ n) : (b.modCh n f).chan m = b.chan m := by
  simp [Bridge.chan, Tbl.get_put_ne _ _ _ ne]

@[simp] theorem Bridge.modSch_chan (n : Nat) (f : Sched → Sched) (b : Bridge) :
    (b.modSch n f).chan n = { b.chan n with sch := f (b.chan n).sch } := Bridge.modCh_chan n _ b
@[simp] theorem Bridge.modAcc_chan (n : Nat) (f : Access → Access) (b : Bridge) :
    (b.modAcc n f).chan n = { b.chan n with acc := f (b.chan n).acc } := Bridge.modCh_chan n _ b
@[simp] theorem Bridge.modPhy_chan (n : Nat) (f : Phy → Phy) (b : Bridge) :
    (b.modPhy n f).chan n = { b.chan n with phy := f (b.chan n).phy } := Bridge.modCh_chan n _ b
@[simp] theorem Bridge.modLl_chan (n : Nat) (f : Link → Link) (b : Bridge) :
    (b.modLl n f).chan n = { b.chan n with ll := f (b.chan n).ll } := Bridge.modCh_chan n _ b
@[simp] theorem Bridge.modHc_chan (n : Nat) (f : HerdCh → HerdCh) (b : Bridge) :
    (b.modHc n f).chan n = { b.chan n with herd := f (b.chan n).herd } := Bridge.modCh_chan n _ b
@[simp] theorem Bridge.modSvc_chan (n : Nat) (f : Service → Service) (b : Bridge) :
    (b.modSvc n f).chan n = { b.chan n with svc := f (b.chan n).svc } := Bridge.modCh_chan n _ b
@[simp] theorem Bridge.modRtv_chan (n : Nat) (f : Rtv → Rtv) (b : Bridge) :
    (b.modRtv n f).chan n = { b.chan n with rtv := f (b.chan n).rtv } := Bridge.modCh_chan n _ b
@[simp] theorem Bridge.modPhy_phy (n : Nat) (f : Phy → Phy) (b : Bridge) : (b.modPhy n f).phy n = f (b.phy n) := by
  simp [Bridge.phy]
@[simp] theorem Bridge.modLl_phy (n m : Nat) (f : Link → Link) (b : Bridge) : (b.modLl n f).phy m = b.phy m := by
  by_cases h : m = n
  · subst h; simp [Bridge.phy]
  · simp [Bridge.phy, Bridge.modLl, Bridge.modCh_chan_ne _ _ h]
@[simp] theorem Bridge.modSvc_phy (n m : Nat) (f : Service → Service) (b : Bridge) : (b.modSvc n f).phy m = b.phy m := by
  by_cases h : m = n
  · subst h; simp [Bridge.phy]
  · simp [Bridge.phy, Bridge.modSvc, Bridge.modCh_chan_ne _ _ h]

end Sys2Proof.Machine
end

