-- ==== Sys2Proof/Laws/Citan.lean ====
section
/-! SUPPORT. The checks of a Citan command. -/

namespace Sys2Proof.Machine

open Sys2Proof

@[simp] theorem firstBad_nil : firstBad [] = none := rfl
@[simp] theorem firstBad_none (t : List (Option Answer)) : firstBad (none :: t) = firstBad t := rfl
@[simp] theorem badAt_false (off : Nat) : badAt off false = none := rfl
@[simp] theorem failIf_false (status : Nat) : failIf false status = none := rfl

/-- Checks in two parts find nothing where neither part does. -/
@[simp] theorem firstBad_append (xs ys : List (Option Answer)) :
    firstBad (xs ++ ys) = none ↔ firstBad xs = none ∧ firstBad ys = none := by
  induction xs with
  | nil => simp
  | cons x t ih => cases x with
    | none => exact ih
    | some a => simp [firstBad]

/-- The first of the checks and the rest find nothing where neither does. -/
theorem firstBad_cons (x : Option Answer) (t : List (Option Answer)) : firstBad (x :: t) = none ↔ x = none ∧ firstBad t = none :=
  firstBad_append [x] t |>.trans (by cases x <;> simp [firstBad])

/-- Where the journal takes a setting's records, its checks find nothing. -/
theorem Journals.checks {b : Bridge} (h : Journals b) : firstBad b.jrnChecks = none := by
  obtain ⟨h1, h2 | h2 | h2⟩ := h <;> simp [Bridge.jrnChecks, h1, h2]

end Sys2Proof.Machine
end

