-- ==== Sys2Proof/Tests/Slice0.lean ====
section
/-! SUPPORT. Tests: terms that the well-formedness checks refuse, single steps on small states, and for every clause of a statement that
has hypotheses a state and operands that meet all of them. -/

namespace Sys2Proof.Tests

open Sys2Proof Sys2Proof.Machine

set_option Elab.async false

/-- A state whose bridge is `b`. -/
def st (b : Bridge) : State := { br := b }

/-- One line of ciphertext. -/
def aLine : Line := 7


/-- A bridge that is ready, with the host link up and PF0's memory space enabled. -/
def hosted : Bridge := { port := { up := true, fn := [(0, { mse := true, bme := true })] }, glb := { level := 3 } }

/-- A ready bridge with a posted command in slot 0 of PF0's mailbox: opcode, and parameter bytes. -/
def citan (op : Nat) (params : List Byte) (b : Bridge := {}) : Bridge :=
  { b with
    glb := { b.glb with level := 3 }
    ten := { b.ten with mbx := [(0, { slots := [(0, { state := .posted, cmd := bufOf (leBytes 2 op ++ leBytes 2 params.length ++ leBytes 12 0 ++ params) })] })] } }

/-- A pair by its parts, as the statements put it. -/
theorem pair_of {α β : Type} {x : α × β} {a : α} (h : x.1 = a) : x = (a, x.2) := by
  rw [← h]

-- Well-formedness ---------------------------------------------------------------------------------------------------------

/-- Commands that each fail one check of `Instr.wf`, part 1. -/
def illFormed1 : List Instr := [
  .scrubReadStart 0 0 0,
  .scrubReadStart 0 0 9,
  .windowMemoryRead 0 1024 0 0,
  .windowMemoryRead 0 0 (2 ^ 64) 0,
  .windowMemoryRead 0 0 0 4097,
  .windowMemoryWrite 0 (2 ^ 64) [] [] false,
  .windowMemoryWrite 0 0 (List.replicate 4097 0) (List.replicate 4097 true) false,
  .windowMemoryWrite 0 0 [] [true] false,
  .readDataReturn 0 0 64 .good,
  .configRead 0 1024 0,
  .configRead 0 0 1024,
  .configWrite 0 1024 0 0 0,
  .configWrite 0 0 1024 0 0,
  .configWrite 0 0 0 (2 ^ 32) 0,
  .hdmDecoderCommit 0 (2 ^ 64) 0 0 0 0 false,
  .hdmDecoderCommit 0 0 (2 ^ 64) 0 0 0 false,
  .hdmDecoderCommit 0 0 0 16 0 0 false,
  .hdmDecoderCommit 0 0 0 0 16 0 false,
  .hdmDecoderCommit 0 0 0 0 0 (2 ^ 64) false,
  .unsupportedRequest 0 false 1024,
  .cxlMemrd 65536 0,
  .cxlMemrd 0 (2 ^ 52),
  .cxlMemrd 0 1,
  .cxlMemrddata 65536 0,
  .cxlMemrddata 0 (2 ^ 52)]

theorem test_ill_formed_1 : illFormed1.all (fun i => !i.wf) = true := by decide +kernel

/-- Commands that each fail one check of `Instr.wf`, part 2. -/
def illFormed2 : List Instr := [
  .cxlMemrddata 0 1,
  .cxlMemwr 65536 0 0 false,
  .cxlMemwr 0 (2 ^ 52) 0 false,
  .cxlMemwr 0 1 0 false,
  .cxlMemwrptl 65536 0 0 0 false,
  .cxlMemwrptl 0 (2 ^ 52) 0 0 false,
  .cxlMemwrptl 0 1 0 0 false,
  .cxlMemspecrd (2 ^ 52),
  .hostCompletionReceive 1024 0 [] false,
  .hostCompletionReceive 0 8 [] false,
  .hostCompletionReceive 0 0 (List.replicate 4097 0) false,
  .hostLinkTraining false ⟨false, false⟩ 7 1 0 false,
  .hostLinkTraining false ⟨false, false⟩ 0 3 0 false,
  .hostLinkTraining false ⟨false, false⟩ 0 1 65536 false,
  .l0pWidthRequest 3,
  .registerWrite 0 0 ⟨0, false⟩ 0,
  .registerWrite 0 0 ⟨0, false⟩ 9,
  .registerWrite 0 0 ⟨2 ^ 8, false⟩ 1,
  .loRegisterRead 0 0 0,
  .loRegisterRead 0 0 9,
  .counterClear 0 (2 ^ 32),
  .mailboxDoorbell 0 (2 ^ 32),
  .mailboxCommandWrite 0 0 64 0,
  .mailboxCommandWrite 0 0 0 (2 ^ 32),
  .mailboxDoneAck 0 (2 ^ 32)]

theorem test_ill_formed_2 : illFormed2.all (fun i => !i.wf) = true := by decide +kernel

/-- Commands that each fail one check of `Instr.wf`, part 3. -/
def illFormed3 : List Instr := [
  .mailboxCtrlWrite 0 (2 ^ 32),
  .jobDoorbell 0 0 (2 ^ 32),
  .faultForce 56 0,
  .msixTableWrite 0 0 0 (2 ^ 32),
  .icuComplete 0 1024,
  .icuThresholdWrite 0 16,
  .icuSourceLevelChange 1022 false,
  .selfTestEnd 0 0 0 0,
  .selfTestEnd 5 0 0 0,
  .flitReceive 0 [] (List.replicate 4 0) (List.replicate 80 0) (List.replicate 80 0) (List.replicate 80 0) (List.replicate 8 0) [],
  .flitReceive 0 (List.replicate 4 0) [] (List.replicate 80 0) (List.replicate 80 0) (List.replicate 80 0) (List.replicate 8 0) [],
  .flitReceive 0 (List.replicate 4 0) (List.replicate 4 0) [] (List.replicate 80 0) (List.replicate 80 0) (List.replicate 8 0) [],
  .flitReceive 0 (List.replicate 4 0) (List.replicate 4 0) (List.replicate 80 0) [] (List.replicate 80 0) (List.replicate 8 0) [],
  .flitReceive 0 (List.replicate 4 0) (List.replicate 4 0) (List.replicate 80 0) (List.replicate 80 0) [] (List.replicate 8 0) [],
  .flitReceive 0 (List.replicate 4 0) (List.replicate 4 0) (List.replicate 80 0) (List.replicate 80 0) (List.replicate 80 0) [] [],
  .flitReceive 0 (List.replicate 4 0) (List.replicate 4 0) (List.replicate 80 0) (List.replicate 80 0) (List.replicate 80 0) (List.replicate 8 0) [0],
  .rdataReceive 0 65536 0 Codeword.bad 0,
  .rdataReceive 0 0 16 Codeword.bad 0,
  .msyncReqReceive 0 256,
  .msyncRspReceive 0 256 0,
  .msyncRspReceive 0 0 256,
  .sregRspReceive 0 256 0,
  .retryReqReceive 0 4096,
  .offerSetReceive 0 0 1024 0 (List.replicate 14 0),
  .offerSetReceive 0 0 0 1024 (List.replicate 14 0)]

theorem test_ill_formed_3 : illFormed3.all (fun i => !i.wf) = true := by decide +kernel

/-- Commands that each fail one check of `Instr.wf`, part 4. -/
def illFormed4 : List Instr := [
  .offerSetReceive 0 0 0 0 [],
  .confirmSetReceive 0 0 1024 0 0 0 0 (List.replicate 11 0),
  .confirmSetReceive 0 0 0 0 0 0 0 [],
  .rateSwitchNoticeReceive 0 ⟨0, []⟩,
  .trainingFrameReceive 0 0 (2 ^ 20) 0 0 0 0 0 false 0,
  .trainingFrameReceive 0 0 0 32 0 0 0 0 false 0,
  .trainingFrameReceive 0 0 0 0 32 0 0 0 false 0,
  .trainingFrameReceive 0 0 0 0 0 16 0 0 false 0,
  .trainingFrameReceive 0 0 0 0 0 0 (2 ^ 22) 0 false 0,
  .trainingFrameReceive 0 0 0 0 0 0 0 256 false 0,
  .alignmentReceive 0 ⟨0, []⟩ 0 0,
  .faultEvent 56 0 0 none,
  .faultEvent 0 32 0 none,
  .faultEvent 0 0 (2 ^ 32) none,
  .bucketLeak 56 0,
  .tamperFire 0 65536,
  .startUp 4 0 false {},
  .startUp 0 32 false {},
  .perstDeassert 4 0 false {} {} none 0,
  .perstDeassert 0 32 false {} {} none 0,
  .perstDeassert 0 0 false {} {} none (2 ^ 32),
  .wakeStart 0,
  .wakeStart 6,
  .sparingComplete 56 0,
  .hostLinkError 11]

theorem test_ill_formed_4 : illFormed4.all (fun i => !i.wf) = true := by decide +kernel

/-- Commands that each fail one check of `Instr.wf`, part 5. -/
def illFormed5 : List Instr := [
  .setSlotPowerLimit (2 ^ 32)]

theorem test_ill_formed_5 : illFormed5.all (fun i => !i.wf) = true := by decide +kernel

-- Worked examples of the specification ----------------------------------------------------------------------------------------

/-- The bridge after one command. -/
def after (c : Instr) (b : Bridge) : Bridge :=
  match step { br := b, pending := [c] } with
  | .next t => t.br
  | _ => {}

/-- R20's example: an 8 TiB sled with a 2 % reserve sets 83,887 extents aside. -/
theorem test_reserve_rounds_up : ceilDiv (8192 * 512 * 2) 100 = 83887 := by decide

/-- R32's example: 600 lines a stride at rate 3 x4, and 15 at rate 0 x4. -/
theorem test_capacity : capOf 3 2 = 600 ∧ capOf 0 2 = 15 := by decide

/-- Channel 5 of R50's example: rate 3 x4, with 12 inbound slots of overhang used. -/
def example5 : Bridge :=
  { ch := [(5, { ll := { state := .up }, phy := { state := .active, rate := 3, width := 2 }, sch := { ovh := { inb := 12 } } })] }

/-- R50's example: the stride's plan holds 588 inbound slots, 38, 19 and 10 of them reserved, with a migration ceiling of 37. -/
theorem test_plan_of_a_stride :
    let s := ((example5.planChannel 5).chan 5).sch
    s.capacity.inb = 588 ∧ s.shown = (38, 19, 10) ∧ s.pool.inb = 588 - 67 ∧ s.ceil = 37 := by decide +kernel

/-- R132's example: the evacuation ceiling of 16/64 at C = 600 is 150 slots. -/
theorem test_evacuation_ceiling : migCeil 16 600 19 = 150 := by decide

/-- R135's example: T_H of 10,000 µs allows 73,242 dirty granules on each of sixteen channels at C = 600. -/
theorem test_dirty_ceiling :
    ({ herd := { holdup := 10000, persistReq := true, tune := { dirtyCeil := 64 } },
       ch := (List.range 16).map (fun n => (n, { sch := { c := 600 } })) } : Bridge).dirtyCeil 9 = 73242 := by decide +kernel

/-- R328's example: of a hundred reads of 280 bytes 58 are green, 29 yellow and 13 red. -/
theorem test_policer_marks :
    let p := (List.range 100).foldl (fun p _ => (Policer.mark true false 0 256 p).2)
      { overhead := 24, cir := 8192, cbs := 16384, pir := 12288, pbs := 24576, tc := 16384, tp := 24576 : Policer }
    p.green = 16240 ∧ p.yellow = 8120 ∧ p.red = 3640 ∧ p.tc = 144 ∧ p.tp = 216 := by decide +kernel

/-- R328's example: the tick's refill gives Tc 8,336 and Tp 12,504. -/
theorem test_policer_refills :
    let p := Policer.refill { cir := 8192, cbs := 16384, pir := 12288, pbs := 24576, tc := 144, tp := 216 }
    p.tc = 8336 ∧ p.tp = 12504 := by decide

/-- R214's example: two ways at 4 KiB, an HPA of way 1. -/
theorem test_hdm_decode :
    ({ hdmEnable := true, hdm := [(0, { base := 0x400000000000, size := 16 * 2 ^ 40, iw := 1, ig := 4, committed := true })] } : HostPort).dpa
      0x41234C805F40 = some 0x0091A6402F40 := by decide +kernel

/-- The host port of R244's example: indices 0, 1 and 8 enabled, a message of assertion sent. -/
def inta (pend : BitVec 64) (sent : Bool) : Bridge :=
  { hosted with port := { hosted.port with intaEn := 0x103, intaPend := pend, intaSent := sent } }

/-- R244's example, 900 FCLK: bit 0 is cleared, and the condition stays. -/
theorem test_inta_clear_one : (after (.intaPendingClear 1) (inta 3 true)).port.intaPend = 2 ∧ (after (.intaPendingClear 1) (inta 3 true)).out = [] := by
  decide +kernel

/-- R244's example, 2,300 FCLK: the last enabled bit is cleared, and Deassert_INTA is sent. -/
theorem test_inta_clear_last :
    (after (.intaPendingClear 0x100) (inta 0x1100 true)).port.intaPend = 0x1000
      ∧ (after (.intaPendingClear 0x100) (inta 0x1100 true)).out = [.intx false] := by
  decide +kernel

/-- The controller of the claim race's example: a source, 147 as a rule, and core 1's port. -/
def race (s : Source) (k : CorePort := {}) (i : Nat := 147) : Bridge :=
  { boot := { rom := true }, icu := { src := [(i, s)], core := [(1, k)] } }

/-- The example's FCLK 30: core 0 receives 147, and core 1's TAKEN flag is set. -/
theorem test_claim :
    let b := after (.icuClaim 0) (race { prio := 5, target := 3, enable := true, state := .pending, level := true })
    b.out = [.regData 147] ∧ (b.icu.source 147).state = .inService ∧ (b.icu.port 1).taken = true := by decide +kernel

/-- The example's FCLK 30: core 1, too late, receives 1023. -/
theorem test_claim_taken :
    let b := after (.icuClaim 1) (race { prio := 5, target := 3, enable := true, state := .inService, level := true } { taken := true })
    b.out = [.regData 1023] ∧ (b.icu.port 1).taken = false := by decide +kernel

/-- The example's FCLK 345: after a withdrawal core 1 receives 1022. -/
theorem test_claim_withdrawn :
    (after (.icuClaim 1) (race {} { withdrawn := true, withdrawnLater := true })).out = [.regData 1022] := by decide +kernel

/-- The example's FCLK 400: firmware has acknowledged what 147 told of, and the level sampled at completion is low. -/
theorem test_complete_acknowledged :
    ((after (.icuComplete 0 147) (race { prio := 5, target := 3, enable := true, state := .inService, level := true })).icu.source 147).state = .idle := by
  decide +kernel

/-- The example's FCLK 500: a second EVENT waits, so the level of 148 stays high, and it is PENDING again with its counter unchanged. -/
theorem test_complete_second_event :
    let b := race { prio := 9, target := 3, enable := true, state := .inService, level := true, events := 1, core := 1 } (i := 148)
    let x := (after (.icuComplete 1 148) { b with ch := [(3, { ll := { events := 2 } })] }).icu.source 148
    x.state = .pending ∧ x.events = 1 := by decide +kernel

/-- R419: at the completion of source 836 the level of a stack with few free frames is sampled again, and found high. -/
theorem test_complete_resamples :
    ((after (.icuComplete 0 836) (race { prio := 5, target := 3, enable := true, state := .inService, level := true } (i := 836))).icu.source 836).state
      = .pending := by
  decide +kernel

/-- A term of the program of the orders' example. -/
def termOf (col type op null nullOff a z : Nat) : List Byte :=
  leBytes 2 col ++ leBytes 1 type ++ leBytes 1 op ++ leBytes 1 0 ++ leBytes 1 null ++ leBytes 2 nullOff ++ leBytes 8 0 ++ leBytes 32 a ++ leBytes 32 z

/-- The job of the orders' example (chapter 05). -/
def orders : Prog :=
  { desc := leBytes 1 1 ++ leBytes 1 0x11 ++ leBytes 1 2 ++ leBytes 5 0 ++ leBytes 8 0x1000000000 ++ leBytes 8 0x1770000000 ++ leBytes 8 0 ++ leBytes 2 96
      ++ leBytes 94 0
    prog := leBytes 1 4 ++ leBytes 1 2 ++ leBytes 1 0 ++ leBytes 1 2 ++ leBytes 1 1 ++ leBytes 59 0
      ++ leBytes 2 0 ++ leBytes 2 8 ++ leBytes 2 40 ++ leBytes 2 8 ++ leBytes 56 0
      ++ leBytes 2 1 ++ leBytes 2 3 ++ leBytes 4 2 ++ leBytes 2 2 ++ leBytes 2 12 ++ leBytes 4 0 ++ leBytes 112 0
      ++ termOf 16 2 1 0 0 7 0 ++ termOf 20 11 7 0 0 0x4BD9 0x4C34 ++ termOf 24 5 10 0 0 0 0 ++ termOf 40 4 5 0x80 15 0x2FAF080 0
    set := [0x24, 0x02] ++ List.replicate 4094 0 }

/-- A piece of it whose first row has that region, date, status and total; the total is null. -/
def anOrder (region date status : Nat) (isNull : Bool) (total : Nat) : Piece :=
  { job := 0, ord := 0, ext := 0, backed := true, dla := 0, near := false
    got := [(0, (lineOf (leBytes 8 42 ++ leBytes 7 0 ++ leBytes 1 (b2n isNull) ++ leBytes 2 region ++ leBytes 2 0 ++ leBytes 4 date ++ leBytes 1 status
      ++ leBytes 15 0 ++ leBytes 8 total), false))] }

/-- The rows of the first row that qualify. -/
def firstRow (x : Piece) : List (List Byte) := (orders.evalRowLayout x 0 {}).entries

theorem test_scan_rows_per_extent : orders.rowsPer = 21845 := by decide +kernel

/-- A row with a null total and a status of 5 qualifies: its entry is 24 bytes. -/
theorem test_scan_null_total_status_5 : (firstRow (anOrder 7 0x4BD9 5 true 0)).map List.length = [24] := by decide +kernel

/-- A row with a null total and a status of 3 does not. -/
theorem test_scan_null_total_status_3 : firstRow (anOrder 7 0x4C34 3 true 99999999) = [] := by decide +kernel

/-- A total above 50,000,000 cents qualifies, and one of 50,000,000 does not; nor does another region, or a day too late. -/
theorem test_scan_totals :
    (firstRow (anOrder 7 0x4C34 3 false 50000001)).length = 1 ∧ firstRow (anOrder 7 0x4C34 3 false 50000000) = []
      ∧ firstRow (anOrder 8 0x4C34 5 false 50000001) = [] ∧ firstRow (anOrder 7 0x4C35 5 false 50000001) = [] := by decide +kernel

/-- Line 0 of each extent is read, and the last line, 32,767, holds only unnamed bytes. -/
theorem test_scan_lines : orders.wantsRowLine 0 = true ∧ orders.wantsRowLine 32766 = true ∧ orders.wantsRowLine 32767 = false := by decide +kernel

/-- R31, R36: a change of shares that is ready is in force after the tick. -/
theorem test_tick_takes_a_change :
    let b : Bridge := { State.reset.br with
      pwr := { por := false, started := true }
      citan := { prepared := [{ change := .shares 64 24 8, records := 0, awaits := false, cmd := none }] } }
    (after .strideTick b).glb.shares = (64, 24, 8) ∧ (after .strideTick b).citan.prepared = [] := by decide +kernel

/-- R65, R509: a clear leaves what is no counter, and what a counter has gained in the FCLK. -/
theorem test_clear_leaves_the_rest :
    let b : Bridge := { State.reset.br with pwr := { perstLow := true, dozes := 5, stCycles := 3 }, mark := { pwr := { dozes := 4 } } }
    (b.clearPwr 1).pwr = { b.pwr with dozes := 1 } := by decide +kernel

-- Hypotheses met ---------------------------------------------------------------------------------------------------------------

theorem wit_StepRunsTheFrontCommand_0 :
    ∃ (s : State), ∃ (c : Instr), ∃ (rest : List Instr), s.pending = c :: rest :=
  ⟨{ pending := [.heatDecay, .planSeal] }, .heatDecay, [.planSeal], rfl⟩

theorem wit_EmptyQueuePassesOneFclk_0 :
    ∃ (s : State), ∃ (t : Nat), (s.pending = [] ∧ t = (s.br.glb.time + 1) % 2 ^ 64 ∧ t % 1536 ≠ 0 ∧ t % 1536 ≠ 32 ∧ t % 1536 ≠ 128) :=
  ⟨st ({ glb := { time := 32 } }), 33, by decide +kernel⟩

theorem wit_EmptyQueuePassesOneFclk_1 :
    ∃ (s : State), ∃ (t : Nat), (s.pending = [] ∧ t = (s.br.glb.time + 1) % 2 ^ 64 ∧ t % 1536 = 32 ∧ s.br.glb.sealedNow = false) :=
  ⟨st ({ glb := { time := 31 } }), 32, by decide +kernel⟩

theorem wit_EmptyQueuePassesOneFclk_2 :
    ∃ (s : State), ∃ (t : Nat), (s.pending = [] ∧ t = (s.br.glb.time + 1) % 2 ^ 64 ∧ t % 1536 = 128 ∧ s.br.glb.glideDone = false) :=
  ⟨st ({ glb := { time := 127 } }), 128, by decide +kernel⟩

theorem wit_EmptyQueuePassesOneFclk_3 :
    ∃ (s : State), ∃ (t : Nat), (s.pending = [] ∧ t = (s.br.glb.time + 1) % 2 ^ 64 ∧ t % 1536 = 0) :=
  ⟨st ({ glb := { time := 1535 } }), 1536, by decide +kernel⟩

theorem wit_EmptyQueuePassesOneFclk_4 :
    ∃ (s : State), ∃ (t : Nat), (s.pending = [] ∧ t = (s.br.glb.time + 1) % 2 ^ 64 ∧ s.br.port.intaDue = false) :=
  ⟨st ({ glb := { time := 2 ^ 64 - 1 } }), 0, by decide +kernel⟩

theorem wit_EveryStepKeepsInvariant_0 :
    ∃ (s : State), ∃ (t : State), State.Inv s ∧ step s = .next t :=
  ⟨{ pending := [.linkDown 0] }, _, rfl, rfl⟩

theorem wit_HeldBridgeTakesNoCommand_0 :
    ∃ (i : Instr), ∃ (s : State), (s.br.heldAll = true ∧ reachesHeld i = false) :=
  ⟨.heatDecay, st ({ pwr := { por := true } }), by decide +kernel⟩

theorem wit_NoHostRequestUnheard_0 :
    ∃ (i : Instr), ∃ (s : State), (hostRequest i = true ∧ (s.br.port.up = false ∨ s.br.pwr.perstLow = true)) :=
  ⟨.pmeTurnOff, st {}, by decide +kernel⟩

theorem wit_NoHostRequestUnheard_1 :
    ∃ (i : Instr), ∃ (s : State), (hostRequest i = true ∧ s.br.heldAll = false ∧ s.br.pwr.perstLow = false ∧ s.br.port.up = true ∧ s.br.fresh.hostArrives.jrn.step ≠ 0) :=
  ⟨.pmeTurnOff, st ({ port := { up := true }, jrn := { step := 7 } }), by decide +kernel⟩

theorem wit_NearTierFrame_0 :
    ∃ (s : State), ∃ (t : State), ∃ (b : Bridge), ∃ (frame : Nat), ∃ (line : Nat), Follows s b t ∧ (∀ e ∈ (s.br.fresh.settle b).lands, e.1 ≠ frame * 64 + line) :=
  ⟨{ near := [(64, aLine)] }, _, State.reset.br.fresh, 1, 0, State.run_follows (f := fun b => b) rfl, by decide +kernel⟩

theorem wit_NearTierFrame_1 :
    ∃ (m : Near), Near.wf m :=
  ⟨[(63, aLine), (64, aLine)], by decide +kernel⟩

theorem wit_NearTierFrame_2 :
    ∃ (kept : Bool), ∃ (s : State), ∃ (t : State), (exec (.powerOnReset kept) s = .next t ∨ exec (.supplyFault true) s = .next t) :=
  ⟨true, { near := [(64, aLine)] }, _, .inl rfl⟩

theorem wit_StillBridgeStaysAsLeft_0 :
    ∃ (was : Bridge), ∃ (b : Bridge), was.goesOn b = false :=
  ⟨{}, { glb := { level := 3 } }, by decide +kernel⟩

theorem wit_HistoryQueueRecordsEveryEvent_0 :
    ∃ (b : Bridge), ∃ (k : Nat), ∃ (s : Nat), ∃ (forced : Bool), ∃ (kind : FaultKind), (faultKind k s = some kind ∧ (forced || !b.muted k s) = true) ∧ ∃ j, j ≠ (b.faults.blk k).next :=
  ⟨{}, 0, 8, false, .fatal, by decide +kernel, 7, by decide +kernel⟩

theorem wit_CompletionResamplesOrIsDiscarded_0 :
    ∃ (s : State), ∃ (b : Bridge), ∃ (k : Fin 5), ∃ (i : Nat), Live s b ∧ (i < 1022 ∧ icuReserved i = false ∧ (b.icu.source i).state = .inService ∧ (b.icu.source i).core = k) :=
  ⟨st ({ icu := { src := [(976, { state := .inService, core := 4 })] } }), (st ({ icu := { src := [(976, { state := .inService, core := 4 })] } })).br.fresh, 4, 976, ⟨rfl, rfl⟩, by decide +kernel⟩

theorem wit_CompletionResamplesOrIsDiscarded_1 :
    ∃ (s : State), ∃ (b : Bridge), ∃ (k : Fin 5), ∃ (i : Nat), Live s b ∧ (1022 ≤ i ∨ icuReserved i = true ∨ (b.icu.source i).state ≠ .inService ∨ (b.icu.source i).core ≠ k) :=
  ⟨st {}, (st {}).br.fresh, 0, 1022, ⟨rfl, rfl⟩, by decide +kernel⟩

theorem wit_NotificationsWaitInOrder_0 :
    ∃ (fn : Nat), ∃ (b : Bridge), (b.mbx fn).notifyFull = false :=
  ⟨255, {}, by decide +kernel⟩

theorem wit_NotificationsWaitInOrder_1 :
    ∃ (fn : Nat), ∃ (b : Bridge), ((b.mbx fn).notifyFull = true ∧ (b.mbx fn).waiting.length < 8) :=
  ⟨0, ({ ten := { mbx := [(0, { notifyFull := true, waiting := List.replicate 7 [] })] } }), by decide +kernel⟩

theorem wit_NotificationsWaitInOrder_2 :
    ∃ (fn : Nat), ∃ (b : Bridge), ((b.mbx fn).notifyFull = true ∧ 8 ≤ (b.mbx fn).waiting.length) :=
  ⟨0, ({ ten := { mbx := [(0, { notifyFull := true, waiting := List.replicate 8 [] })] } }), by decide +kernel⟩

theorem wit_NotificationsWaitInOrder_3 :
    ∃ (s : State), ∃ (b : Bridge), ∃ (fn : Fin 256), RegTakes s true fn b ∧ ((b.mbx fn).notifyFull = true ∧ (b.mbx fn).waiting = []) :=
  ⟨st ({ hosted with ten := { mbx := [(0, { notifyFull := true })] } }), (st ({ hosted with ten := { mbx := [(0, { notifyFull := true })] } })).br.fresh.hostArrives, 0, .inr ⟨by decide, ⟨⟨⟨rfl, rfl, rfl, rfl⟩, rfl⟩, by decide +kernel⟩, by decide +kernel⟩, by decide +kernel⟩

theorem wit_NotificationsWaitInOrder_4 :
    ∃ (s : State), ∃ (b : Bridge), ∃ (fn : Fin 256), ∃ (w : List Word), ∃ (rest : List (List Word)), RegTakes s true fn b ∧ ((b.mbx fn).notifyFull = true ∧ (b.mbx fn).waiting = w :: rest) :=
  ⟨st ({ hosted with ten := { mbx := [(0, { notifyFull := true, waiting := [[5]] })] } }), (st ({ hosted with ten := { mbx := [(0, { notifyFull := true, waiting := [[5]] })] } })).br.fresh.hostArrives, 0, [5], [], .inr ⟨by decide, ⟨⟨⟨rfl, rfl, rfl, rfl⟩, rfl⟩, by decide +kernel⟩, by decide +kernel⟩, by decide +kernel⟩

theorem wit_NoInstanceNoCommands_0 :
    ∃ (op : Nat), ∃ (fn : Nat), ∃ (slot : Nat), ∃ (b : Bridge), (fn ≠ 0 ∧ (b.inst fn).state ≠ .live ∧ b.citanServes = true ∧ b.nextPosted fn slot = true ∧ (b.cmdOf fn slot).ref.op = op ∧ op ≠ 0x101 ∧ op ≠ 0x102) :=
  ⟨0x103, 255, 7, ({ glb := { level := 3 }, ten := { mbx := [(255, { slots := [(7, { state := .posted, cmd := bufOf (leBytes 2 0x103) })] })] } }), by decide +kernel⟩

theorem wit_HeatDecaysAtItsTicks_0 :
    ∃ (s : State), ∃ (b : Bridge), Live s b ∧ b.herd.decayDue = true :=
  ⟨st ({ herd := { heat := [(9, 255)], decayDue := true } }), (st ({ herd := { heat := [(9, 255)], decayDue := true } })).br.fresh, ⟨rfl, rfl⟩, by decide +kernel⟩

theorem wit_HeatDecaysAtItsTicks_1 :
    ∃ (s : State), ∃ (b : Bridge), Live s b ∧ b.herd.decayDue = false :=
  ⟨st ({ herd := { heat := [(9, 255)] } }), (st ({ herd := { heat := [(9, 255)] } })).br.fresh, ⟨rfl, rfl⟩, by decide +kernel⟩

theorem wit_HeatDecaysAtItsTicks_2 :
    ∃ (b : Bridge), b.heldAll = false :=
  ⟨({ herd := { heat := [(9, 255)], decayDue := true } }), by decide +kernel⟩

theorem wit_FencedChannelAdmitsNothing_0 :
    ∃ (s : State), ∃ (b : Bridge), ∃ (n : Fin 16), Live s b ∧ b.chFenced n = true :=
  ⟨st ({ glb := { chFenced := 2 ^ 15 } }), (st ({ glb := { chFenced := 2 ^ 15 } })).br.fresh, 15, ⟨rfl, rfl⟩, by decide +kernel⟩

theorem wit_SemaphoresHaveOneHolder_0 :
    ∃ (s : State), ∃ (b : Bridge), ∃ (fn : Fin 256), ∃ (k : Fin 64), RegTakes s false fn b ∧ ((b.semOf k).access.getLsbD fn = true ∧ (b.semOf k).holder = none) :=
  ⟨st hosted, (st hosted).br.fresh.hostArrives, 0, 63, .inr ⟨by decide, ⟨⟨⟨rfl, rfl, rfl, rfl⟩, rfl⟩, by decide +kernel⟩, by decide +kernel⟩, by decide +kernel⟩

theorem wit_SemaphoresHaveOneHolder_1 :
    ∃ (s : State), ∃ (b : Bridge), ∃ (fn : Fin 256), ∃ (k : Fin 64), ∃ (h : Nat), RegTakes s false fn b ∧ ((b.semOf k).access.getLsbD fn = true ∧ (b.semOf k).holder = some h) :=
  ⟨st ({ hosted with ten := { sem := [(63, { holder := some 255 })] } }), (st ({ hosted with ten := { sem := [(63, { holder := some 255 })] } })).br.fresh.hostArrives, 0, 63, 255, .inr ⟨by decide, ⟨⟨⟨rfl, rfl, rfl, rfl⟩, rfl⟩, by decide +kernel⟩, by decide +kernel⟩, by decide +kernel⟩

theorem wit_SemaphoresHaveOneHolder_2 :
    ∃ (s : State), ∃ (b : Bridge), ∃ (fn : Fin 256), ∃ (k : Fin 64), RegTakes s false fn b ∧ (b.semOf k).access.getLsbD fn = false :=
  ⟨st ({ hosted with ten := { sem := [(63, { access := 0 })] } }), (st ({ hosted with ten := { sem := [(63, { access := 0 })] } })).br.fresh.hostArrives, 0, 63, .inr ⟨by decide, ⟨⟨⟨rfl, rfl, rfl, rfl⟩, rfl⟩, by decide +kernel⟩, by decide +kernel⟩, by decide +kernel⟩

theorem wit_SemaphoresHaveOneHolder_3 :
    ∃ (s : State), ∃ (b : Bridge), ∃ (fn : Fin 256), ∃ (k : Fin 64), RegTakes s true fn b ∧ (b.semOf k).holder = some fn.val :=
  ⟨st ({ hosted with ten := { sem := [(63, { holder := some 0 })] } }), (st ({ hosted with ten := { sem := [(63, { holder := some 0 })] } })).br.fresh.hostArrives, 0, 63, .inr ⟨by decide, ⟨⟨⟨rfl, rfl, rfl, rfl⟩, rfl⟩, by decide +kernel⟩, by decide +kernel⟩, by decide +kernel⟩

theorem wit_SemaphoresHaveOneHolder_4 :
    ∃ (s : State), ∃ (b : Bridge), ∃ (fn : Fin 256), ∃ (k : Fin 64), RegTakes s true fn b ∧ (b.semOf k).holder ≠ some fn.val :=
  ⟨st ({ hosted with ten := { sem := [(63, { holder := some 255 })] } }), (st ({ hosted with ten := { sem := [(63, { holder := some 255 })] } })).br.fresh.hostArrives, 0, 63, .inr ⟨by decide, ⟨⟨⟨rfl, rfl, rfl, rfl⟩, rfl⟩, by decide +kernel⟩, by decide +kernel⟩, by decide +kernel⟩

/-- A management unit. -/
def aUnit : WorkUnit := { id := 5, cls := 1, inst := 0, kind := .mgmt true }

/-- A channel on which a unit runs. -/
def runs (r : Running) : Bridge := { ch := [(15, { sch := { running := [r] }, ll := { state := .up, graceUs := 0 } })], glb := { time := 2 * 1536 + 128 } }

theorem wit_TicksSealsAndGlides_0 :
    ∃ (s : State), (s.br.glb.sealedNow = true ∧ s.br.glb.glideDone = true) :=
  ⟨st ({ glb := { sealedNow := true, glideDone := true } }), by decide +kernel⟩

theorem wit_TicksSealsAndGlides_1 :
    ∃ (s : State), ∃ (b : Bridge), ∃ (x : Bridge), Live s b ∧ b.glb.sealedNow = false ∧ x = (if b.glb.time < b.glb.time / 1536 * 1536 + 32 then b.toTime (b.glb.time / 1536 * 1536 + 32) else b) :=
  ⟨st {}, (st {}).br.fresh, _, ⟨rfl, rfl⟩, by decide +kernel, rfl⟩

theorem wit_TicksSealsAndGlides_2 :
    ∃ (s : State), ∃ (b : Bridge), ∃ (x : Bridge), Live s b ∧ (b.glb.sealedNow = true ∧ b.glb.glideDone = false ∧ b.citan.prepared = []) ∧ x = (if b.glb.time < b.glb.time / 1536 * 1536 + 128 then b.toTime (b.glb.time / 1536 * 1536 + 128) else b) :=
  ⟨st ({ glb := { sealedNow := true } }), (st ({ glb := { sealedNow := true } })).br.fresh, _, ⟨rfl, rfl⟩, by decide +kernel, rfl⟩

theorem wit_TicksSealsAndGlides_3 :
    ∃ (b : Bridge), ∃ (p : Prepared), b.citan.prepared = [p] ∧ (p.isReady = true ∧ p.awaits = true ∧ p.cmd = none) :=
  ⟨({ citan := { prepared := [{ change := .shares 64 24 8, records := 1, awaits := true, committed := true, cmd := none }] } }), _, rfl, by decide +kernel⟩

theorem wit_UnitsAreQueuedAndAdmitted_0 :
    ∃ (s : State), ∃ (b : Bridge), ∃ (n : Fin 16), Live s b ∧ b.chFenced n = false :=
  ⟨st {}, (st {}).br.fresh, 15, ⟨rfl, rfl⟩, by decide +kernel⟩

theorem wit_UnitsAreQueuedAndAdmitted_1 :
    ∃ (s : State), ∃ (b : Bridge), ∃ (n : Fin 16), ∃ (u : WorkUnit), ∃ (rest : List WorkUnit), Live s b ∧ (b.chFenced n = false ∧ b.pwr.state ≤ 2 ∧ (b.chan n).sch.carried = [] ∧ (b.chan n).sch.head = u :: rest ∧ (b.chan n).sch.headLacks u.cls (b.planOf n u).cost = (false, false, false) ∧ b.windowBlock n = (false, false, false) ∧ b.ready n u (b.planOf n u) = true) ∧ (u.cls ≠ 5 ∨ (b.chan n).sch.ceilOk (b.planOf n u).cost = true) :=
  ⟨st ({ ch := [(15, { sch := { c := 600, head := [aUnit], pool := { out := 1 } }, ll := { state := .up } })] }), (st ({ ch := [(15, { sch := { c := 600, head := [aUnit], pool := { out := 1 } }, ll := { state := .up } })] })).br.fresh, 15, aUnit, [], ⟨rfl, rfl⟩, by decide +kernel, .inl (by decide)⟩

theorem wit_UnitsAreQueuedAndAdmitted_2 :
    ∃ (s : State), ∃ (b : Bridge), ∃ (n : Fin 16), ∃ (u : WorkUnit), ∃ (rest : List WorkUnit), ∃ (c : Nat), ∃ (first : Nat), ∃ (k : Nat), Live s b ∧ (b.chFenced n = false ∧ b.pwr.state ≤ 2 ∧ (b.chan n).sch.carried = u :: rest) ∧ u.kind = .copyDst c first k ∧ (b.linkOpen n = true ∧ (b.windowBlock n).1 = false) :=
  ⟨st ({ ch := [(15, { sch := { c := 600, carried := [{ aUnit with cls := 5, kind := .copyDst 3 8 1 }] }, ll := { state := .up }, phy := { state := .active } })] }), (st ({ ch := [(15, { sch := { c := 600, carried := [{ aUnit with cls := 5, kind := .copyDst 3 8 1 }] }, ll := { state := .up }, phy := { state := .active } })] })).br.fresh, 15, { aUnit with cls := 5, kind := .copyDst 3 8 1 }, [], 3, 8, 1, ⟨rfl, rfl⟩, by decide +kernel, rfl, by decide +kernel⟩

theorem wit_UnitsAreQueuedAndAdmitted_3 :
    ∃ (s : State), ∃ (b : Bridge), Live s b :=
  ⟨st {}, (st {}).br.fresh, ⟨rfl, rfl⟩⟩

theorem wit_UnitsFinishOrOverrun_0 :
    ∃ (s : State), ∃ (b : Bridge), ∃ (n : Fin 16), ∃ (uid : Nat), ∃ (r : Running), Live s b ∧ b.runningUnit n uid = some r ∧ (r.await = [] ∧ (∀ p ∈ r.places, b.earlierOn r.seq p = false) ∧ b.unsent r = false) ∧ ((∃ c, r.unit.kind = .selfTest c) ∨ (∃ x, r.unit.kind = .mgmt x)) :=
  ⟨st (runs { unit := aUnit, stride := 0 }), (st (runs { unit := aUnit, stride := 0 })).br.fresh, 15, 5, _, ⟨rfl, rfl⟩, rfl, by decide +kernel, .inr ⟨true, rfl⟩⟩

theorem wit_UnitsFinishOrOverrun_1 :
    ∃ (s : State), ∃ (b : Bridge), ∃ (n : Fin 16), ∃ (uid : Nat), ∃ (ln : Nat), ∃ (l : Loc), ∃ (w : Codeword), ∃ (r : Running), Live s b ∧ b.runningUnit n uid = some r ∧ (r.await = [] ∧ (∀ p ∈ r.places, b.earlierOn r.seq p = false) ∧ b.unsent r = false) ∧ r.unit.kind = .scrubWb ln l w :=
  ⟨st (runs { unit := { aUnit with kind := .scrubWb 64 (.near 1) Codeword.bad }, stride := 0 }), (st (runs { unit := { aUnit with kind := .scrubWb 64 (.near 1) Codeword.bad }, stride := 0 })).br.fresh, 15, 5, 64, .near 1, Codeword.bad, _, ⟨rfl, rfl⟩, rfl, by decide +kernel, rfl⟩

theorem wit_UnitsFinishOrOverrun_2 :
    ∃ (s : State), ∃ (b : Bridge), ∃ (n : Fin 16), ∃ (uid : Nat), ∃ (ln : Nat), ∃ (r : Running), Live s b ∧ b.runningUnit n uid = some r ∧ (r.await = [] ∧ (∀ p ∈ r.places, b.earlierOn r.seq p = false) ∧ b.unsent r = false ∧ r.unit.kind = .drain ln ∧ r.remote = false) :=
  ⟨st (runs { unit := { aUnit with kind := .drain 64 }, stride := 0 }), (st (runs { unit := { aUnit with kind := .drain 64 }, stride := 0 })).br.fresh, 15, 5, 64, _, ⟨rfl, rfl⟩, rfl, by decide +kernel⟩

theorem wit_UnitsFinishOrOverrun_3 :
    ∃ (s : State), ∃ (b : Bridge), ∃ (n : Fin 16), ∃ (uid : Nat), ∃ (ln : Nat), ∃ (r : Running), Live s b ∧ b.runningUnit n uid = some r ∧ (r.await = [] ∧ (∀ p ∈ r.places, b.earlierOn r.seq p = false) ∧ r.unit.kind = .drain ln ∧ r.report = true) :=
  ⟨st (runs { unit := { aUnit with kind := .drain 64 }, stride := 0, report := true }), (st (runs { unit := { aUnit with kind := .drain 64 }, stride := 0, report := true })).br.fresh, 15, 5, 64, _, ⟨rfl, rfl⟩, rfl, by decide +kernel⟩

theorem wit_UnitsFinishOrOverrun_4 :
    ∃ (s : State), ∃ (b : Bridge), ∃ (n : Fin 16), ∃ (uid : Nat), ∃ (r : Running), Live s b ∧ b.runningUnit n uid = some r ∧ (1536 + 128 + (if r.cost.inb = 0 then 0 else (b.chan n).sch.rtt) ≤ b.since r.stride * 1536 + b.phase ∧ (b.chan n).sch.overAt ≠ r.stride + 1) :=
  ⟨st (runs { unit := aUnit, stride := 0 }), (st (runs { unit := aUnit, stride := 0 })).br.fresh, 15, 5, _, ⟨rfl, rfl⟩, rfl, by decide +kernel⟩

theorem wit_UnitsFinishOrOverrun_5 :
    ∃ (s : State), ∃ (b : Bridge), ∃ (n : Fin 16), ∃ (r : Running), Live s b ∧ r ∈ (b.chan n).sch.running ∧ (1536 + 128 + (if r.cost.inb = 0 then 0 else (b.chan n).sch.rtt) + (b.chan n).ll.graceUs * 1500 ≤ b.since r.stride * 1536 + b.phase ∧ (b.chan n).ll.state = .up) :=
  ⟨st (runs { unit := aUnit, stride := 0 }), (st (runs { unit := aUnit, stride := 0 })).br.fresh, 15, _, ⟨rfl, rfl⟩, List.mem_singleton.mpr rfl, by decide +kernel⟩

theorem wit_ScrubAndSelfTestAreQueued_0 :
    ∃ (s : State), ∃ (b : Bridge), ∃ (n : Fin 16), ∃ (first : Nat), ∃ (lines : Nat), Live s b ∧ (b.chFenced n = false ∧ (b.chan n).sch.scrubOff = false ∧ 1 ≤ lines ∧ lines ≤ (b.chan n).sch.unitMost b.glb.shares.2.2 ∧ first / 64 = (first + lines - 1) / 64 ∧ (b.descOn n (first / 64 / 512)).isSome = true) :=
  ⟨st ({ ch := [(15, { sch := { c := 600 } })], herd := { desc := [(15 * 2 ^ 22, { valid := true, ext := 0 })] } }), (st ({ ch := [(15, { sch := { c := 600 } })], herd := { desc := [(15 * 2 ^ 22, { valid := true, ext := 0 })] } })).br.fresh, 15, 56, 8, ⟨rfl, rfl⟩, by decide +kernel⟩

theorem wit_ScrubAndSelfTestAreQueued_1 :
    ∃ (s : State), ∃ (b : Bridge), ∃ (n : Fin 16), ∃ (out : Nat), ∃ (inb : Nat), ∃ (eng : Nat), Live s b ∧ (b.chFenced n = false ∧ out ≤ (b.chan n).sch.unitMost b.glb.shares.2.2 ∧ inb ≤ (b.chan n).sch.unitMost b.glb.shares.2.2 ∧ eng ≤ (b.chan n).sch.unitMost b.glb.shares.2.2) :=
  ⟨st ({ ch := [(15, { sch := { c := 600 } })] }), (st ({ ch := [(15, { sch := { c := 600 } })] })).br.fresh, 15, 8, 8, 8, ⟨rfl, rfl⟩, by decide +kernel⟩

/-- A run that leaves something to wait, as the statements put it. -/
theorem leaves_some {α β : Type} {x : Option α × β} (h : x.1.isSome = true) : x = (some (x.1.get h), x.2) := by
  obtain ⟨_ | a, b⟩ := x
  · cases h
  · rfl

/-- A bridge whose instance 0 owns one segment, with channel 0's write-combining buffer full. -/
def fullWcb : Bridge :=
  { hosted with
    ten := { inst := [(0, { state := .live, keyValid := true, grant := { plain := 512 } })], seg := [(0, { dlaSeg := 0, res := (0, 0), valid := true, inst := 0 })] }
    ch := [(0, { acc := { mapLoaded := true, wcb := List.replicate 64 { ln := 999, inst := 0 } } })]
    herd := { desc := [(0, { valid := true })] } }

/-- The same bridge once it has counted a write of 64 bytes. -/
def fullWcb1 : Bridge :=
  ((st fullWcb).br.fresh.hostArrives.modPort (fun p => { p with rxWr := p.rxWr + (List.replicate 64 (0 : Byte)).length })).modPort (fun p => { p with nextReq := p.nextReq + 1 })

/-- Whether an access is sampled is open. -/
theorem sample_or (b : Bridge) (ln : Nat) : b.sample ln = { b with free := b.free + 1 } ∨
    b.sample ln = ({ b with free := b.free + 1 } : Bridge).modHerd (fun h => { h with samples := h.samples ++ [ln / 64] }) := by
  by_cases h : Config.freeNat b.free % 2 ^ b.herd.tune.sampleShift = 0
  · exact .inr (if_pos h)
  · exact .inl (if_neg h)

/-- A write to the full buffer waits, whether or not it is sampled. -/
theorem full_waits : (fullWcb1.runReq (.write 0 0 (List.replicate 64 0) (List.replicate 64 true) false)).1.isSome = true := by
  have hl : writeLines 0 (List.replicate 64 0) (List.replicate 64 true) = [(0, BitVec.allOnes 64, 0)] := by decide +kernel
  have hr : fullWcb1.runReq (.write 0 0 (List.replicate 64 0) (List.replicate 64 true) false) =
      fullWcb1.writeReq false 0 0 [(0, BitVec.allOnes 64, 0)] 64 false none := by
    simp only [Bridge.runReq, hl]; rfl
  rw [hr]
  have he : fullWcb1.writeReq false 0 0 [(0, BitVec.allOnes 64, 0)] 64 false none =
      (fun b : Bridge => (fun x : List (Nat × Nat × LineMask × Line) × Bridge => x.2.enterWrite 0 (x.2.inst 0).gen (fullWcb1.meter 0 true 0 64).1 x.1 false none [])
        (b.screenAll 0 { dlaSeg := 0, res := (0, 0), valid := true, inst := 0 } [(0, BitVec.allOnes 64, 0)])) ((fullWcb1.meter 0 true 0 64).2.sample 0) := by
    rfl
  rw [he]
  rcases sample_or (fullWcb1.meter 0 true 0 64).2 0 with h | h <;> rw [h] <;> decide +kernel

/-- A hosted bridge in CXL mode whose CXL.mem is served over 1 GiB from DPA 0. -/
def cxl : Bridge := { hosted with port := { hosted.port with
  cxl := true, rate := 4, memEnable := true, hdmEnable := true, hdm := [(0, { size := 2 ^ 30, committed := true })] } }

/-- A channel on which a unit waits for one near-tier line. -/
def awaits (k : UnitKind) : Bridge :=
  { ch := [(15, { sch := { running := [{ unit := { id := 5, cls := 2, inst := 0, kind := k }, stride := 0, places := [(64, .near 1)], await := [0] }] } })] }

/-- The outstanding read of a fetch's descriptor, or of a job's CONSUMER. -/
def reading (u : ReadUse) : Bridge := { hosted with port := { hosted.port with outReads := [(7, { fn := 0, addr := 64, len := 8, use := u })] } }

theorem wit_WindowReads_0 :
    ∃ (s : State), ∃ (b : Bridge), ∃ (fn : Fin 256), ∃ (addr : Nat), ∃ (len : Nat), TlpTakes s false 0 b ∧ (b.port.up = true ∧ b.port.cxl = false ∧ b.takesMemory fn = true ∧ b.inWindow fn addr = true ∧ len ≤ 4096 ∧ addr % 4096 + len ≤ 4096 ∧ b.port.held = [] ∧ b.pwr.holdOver = false ∧ len ≠ 0) :=
  ⟨st hosted, (st hosted).br.fresh.hostArrives, 0, 4032, 64, ⟨⟨⟨rfl, rfl, rfl, rfl⟩, rfl⟩, by decide +kernel⟩, by decide +kernel⟩

theorem wit_WindowReads_1 :
    ∃ (s : State), ∃ (b : Bridge), ∃ (fn : Fin 256), ∃ (addr : Nat), ∃ (len : Nat), TlpTakes s false 0 b ∧ (b.port.up = true ∧ b.port.cxl = false ∧ b.takesMemory fn = true ∧ b.inWindow fn addr = true ∧ len ≤ 4096 ∧ addr % 4096 + len ≤ 4096 ∧ b.port.held = [] ∧ b.pwr.holdOver = false ∧ len = 0) :=
  ⟨st hosted, (st hosted).br.fresh.hostArrives, 0, 0, 0, ⟨⟨⟨rfl, rfl, rfl, rfl⟩, rfl⟩, by decide +kernel⟩, by decide +kernel⟩

theorem wit_WindowReads_2 :
    ∃ (s : State), ∃ (b : Bridge), ∃ (fn : Fin 256), ∃ (addr : Nat), ∃ (len : Nat), TlpTakes s false 0 b ∧ (b.port.up = true ∧ b.port.cxl = false ∧ b.takesMemory fn = true ∧ b.inWindow fn addr = true ∧ len ≤ 4096 ∧ addr % 4096 + len ≤ 4096 ∧ b.port.held ≠ [] ∧ len ≠ 0) :=
  ⟨st ({ hosted with port := { hosted.port with held := [(0, .flush 0 0 0)] } }), (st ({ hosted with port := { hosted.port with held := [(0, .flush 0 0 0)] } })).br.fresh.hostArrives, 0, 0, 4096, ⟨⟨⟨rfl, rfl, rfl, rfl⟩, rfl⟩, by decide +kernel⟩, by decide +kernel⟩

theorem wit_WindowReads_3 :
    ∃ (b : Bridge), (b.glb.level < 2 ∨ b.ten.fenced = true) :=
  ⟨({ glb := { level := 1 } }), by decide +kernel⟩

theorem wit_WindowReads_4 :
    ∃ (s : State), ∃ (b : Bridge), ∃ (fn : Fin 256), ∃ (addr : Nat), HostTakes s b ∧ b.port.up = true ∧ (b.port.cxl = true ∨ b.takesMemory fn = false ∨ b.inWindow fn addr = false) :=
  ⟨st hosted, (st hosted).br.fresh.hostArrives, 0, 2 ^ 30, ⟨⟨rfl, rfl, rfl, rfl⟩, rfl⟩, by decide +kernel, .inr (.inr (by decide +kernel))⟩

theorem wit_WindowWrites_0 :
    ∃ (s : State), ∃ (b : Bridge), ∃ (fn : Fin 256), ∃ (addr : Nat), ∃ (data : List Byte), HostTakes s b ∧ (b.port.up = true ∧ b.port.cxl = false ∧ b.takesMemory fn = true ∧ b.inWindow fn addr = true ∧ data.length ≤ b.mpsBytes ∧ addr % 4096 + data.length ≤ 4096 ∧ b.port.hasCredit true (ceilDiv data.length 16) = false) :=
  ⟨st ({ hosted with port := { hosted.port with held := [(0, .flush 0 0 0)], rxBuf := [(0, true, 2048)] } }), (st ({ hosted with port := { hosted.port with held := [(0, .flush 0 0 0)], rxBuf := [(0, true, 2048)] } })).br.fresh.hostArrives, 0, 4032, List.replicate 64 1, ⟨⟨rfl, rfl, rfl, rfl⟩, rfl⟩, by decide +kernel⟩

theorem wit_WindowWrites_1 :
    ∃ (s : State), ∃ (b : Bridge), ∃ (fn : Fin 256), ∃ (addr : Nat), ∃ (data : List Byte), ∃ (be : List Bool), HostTakes s b ∧ (b.port.up = true ∧ b.port.cxl = false ∧ b.takesMemory fn = true ∧ b.inWindow fn addr = true ∧ data.length ≤ b.mpsBytes ∧ addr % 4096 + data.length ≤ 4096 ∧ b.port.hasCredit true (ceilDiv data.length 16) = true) ∧ let b1 := (b.modPort (fun p => { p with rxWr := p.rxWr + data.length })).modPort (fun p => { p with nextReq := p.nextReq + 1 }); (b.port.held = [] ∧ b.pwr.holdOver = false) ∧ ∃ b2, b1.runReq (.write fn addr data be false) = (none, b2) :=
  ⟨st hosted, (st hosted).br.fresh.hostArrives, 0, 4032, List.replicate 64 1, List.replicate 64 true, ⟨⟨rfl, rfl, rfl, rfl⟩, rfl⟩, by decide +kernel, by decide +kernel, _, rfl⟩

theorem wit_WindowWrites_2 :
    ∃ (s : State), ∃ (b : Bridge), ∃ (fn : Fin 256), ∃ (addr : Nat), ∃ (data : List Byte), ∃ (be : List Bool), HostTakes s b ∧ (b.port.up = true ∧ b.port.cxl = false ∧ b.takesMemory fn = true ∧ b.inWindow fn addr = true ∧ data.length ≤ b.mpsBytes ∧ addr % 4096 + data.length ≤ 4096 ∧ b.port.hasCredit true (ceilDiv data.length 16) = true) ∧ let b1 := (b.modPort (fun p => { p with rxWr := p.rxWr + data.length })).modPort (fun p => { p with nextReq := p.nextReq + 1 }); (b.port.held = [] ∧ b.pwr.holdOver = false) ∧ ∃ w, ∃ b2, b1.runReq (.write fn addr data be false) = (some w, b2) :=
  ⟨st fullWcb, (st fullWcb).br.fresh.hostArrives, 0, 0, List.replicate 64 0, List.replicate 64 true, ⟨⟨rfl, rfl, rfl, rfl⟩, rfl⟩, by decide +kernel, by decide +kernel, _, _, leaves_some full_waits⟩

theorem wit_WindowWrites_3 :
    ∃ (s : State), ∃ (b : Bridge), ∃ (fn : Fin 256), ∃ (addr : Nat), ∃ (data : List Byte), HostTakes s b ∧ (b.port.up = true ∧ b.port.cxl = false ∧ b.takesMemory fn = true ∧ b.inWindow fn addr = true ∧ data.length ≤ b.mpsBytes ∧ addr % 4096 + data.length ≤ 4096 ∧ b.port.hasCredit true (ceilDiv data.length 16) = true ∧ b.port.held ≠ []) :=
  ⟨st ({ hosted with port := { hosted.port with held := [(0, .flush 0 0 0)] } }), (st ({ hosted with port := { hosted.port with held := [(0, .flush 0 0 0)] } })).br.fresh.hostArrives, 0, 4032, List.replicate 64 1, ⟨⟨rfl, rfl, rfl, rfl⟩, rfl⟩, by decide +kernel⟩

theorem wit_WindowWrites_4 :
    ∃ (q : PortReq), ∃ (c : Bool × Nat), q.credit = some c :=
  ⟨.read 0 0 0 64 5, (false, 0), by decide +kernel⟩

theorem wit_WindowWrites_5 :
    ∃ (s : State), ∃ (b : Bridge), ∃ (b1 : Bridge), ∃ (k : Nat), ∃ (q : PortReq), ∃ (rest : List (Nat × PortReq)), Live s b ∧ b.port.held = (k, q) :: rest ∧ b.runReq q = (none, b1) :=
  ⟨st ({ port := { held := [(0, .flush 0 0 0)] } }), (st ({ port := { held := [(0, .flush 0 0 0)] } })).br.fresh, _, 0, .flush 0 0 0, [], ⟨rfl, rfl⟩, by decide +kernel, rfl⟩

theorem wit_NearDataReachesItsUnit_0 :
    ∃ (s : State), ∃ (b : Bridge), ∃ (n : Fin 16), ∃ (uid : Nat), ∃ (idx : Nat), ∃ (ln : Nat), ∃ (f : Nat), ∃ (r : Running), Live s b ∧ b.runningUnit n uid = some r ∧ (r.places[idx]? = some (ln, .near f) ∧ r.await.contains idx = true ∧ b.earlierOn r.seq (ln, .near f) = false) ∧ ∃ rid, ∃ a, ∃ k, r.unit.kind = .hostRead rid a k :=
  ⟨st (awaits (.hostRead 0 64 1)), (st (awaits (.hostRead 0 64 1))).br.fresh, 15, 5, 0, 64, 1, _, ⟨rfl, rfl⟩, rfl, by decide +kernel, 0, 64, 1, by decide +kernel⟩

theorem wit_NearDataReachesItsUnit_1 :
    ∃ (s : State), ∃ (b : Bridge), ∃ (n : Fin 16), ∃ (uid : Nat), ∃ (idx : Nat), ∃ (ln : Nat), ∃ (f : Nat), ∃ (r : Running), Live s b ∧ b.runningUnit n uid = some r ∧ (r.places[idx]? = some (ln, .near f) ∧ r.await.contains idx = true ∧ b.earlierOn r.seq (ln, .near f) = false) ∧ ∃ lane, ∃ a, ∃ k, r.unit.kind = .retriever lane a k :=
  ⟨st (awaits (.retriever 4 64 1)), (st (awaits (.retriever 4 64 1))).br.fresh, 15, 5, 0, 64, 1, _, ⟨rfl, rfl⟩, rfl, by decide +kernel, 4, 64, 1, by decide +kernel⟩

theorem wit_NearDataReachesItsUnit_2 :
    ∃ (s : State), ∃ (b : Bridge), ∃ (n : Fin 16), ∃ (uid : Nat), ∃ (idx : Nat), ∃ (ln : Nat), ∃ (f : Nat), ∃ (r : Running), Live s b ∧ b.runningUnit n uid = some r ∧ (r.places[idx]? = some (ln, .near f) ∧ r.await.contains idx = true ∧ b.earlierOn r.seq (ln, .near f) = false) ∧ ∃ l, r.unit.kind = .drain l :=
  ⟨st (awaits (.drain 64)), (st (awaits (.drain 64))).br.fresh, 15, 5, 0, 64, 1, _, ⟨rfl, rfl⟩, rfl, by decide +kernel, 64, by decide +kernel⟩

theorem wit_NearDataReachesItsUnit_3 :
    ∃ (s : State), ∃ (b : Bridge), ∃ (n : Fin 16), ∃ (uid : Nat), ∃ (idx : Nat), ∃ (ln : Nat), ∃ (f : Nat), ∃ (r : Running), Live s b ∧ b.runningUnit n uid = some r ∧ (r.places[idx]? = some (ln, .near f) ∧ r.await.contains idx = true ∧ b.earlierOn r.seq (ln, .near f) = false) ∧ ∃ a, ∃ k, r.unit.kind = .scrubRead a k :=
  ⟨st (awaits (.scrubRead 64 1)), (st (awaits (.scrubRead 64 1))).br.fresh, 15, 5, 0, 64, 1, _, ⟨rfl, rfl⟩, rfl, by decide +kernel, 64, 1, by decide +kernel⟩

theorem wit_NearDataReachesItsUnit_4 :
    ∃ (s : State), ∃ (b : Bridge), ∃ (n : Fin 16), ∃ (uid : Nat), ∃ (idx : Nat), ∃ (ln : Nat), ∃ (f : Nat), ∃ (r : Running), Live s b ∧ b.runningUnit n uid = some r ∧ (r.places[idx]? = some (ln, .near f) ∧ r.await.contains idx = true ∧ b.earlierOn r.seq (ln, .near f) = false) ∧ ∃ c, ∃ u, ∃ i, ∃ p, ∃ lost, r.unit.kind = .second c u i p lost :=
  ⟨st (awaits (.second 0 3 0 1 (.near 1))), (st (awaits (.second 0 3 0 1 (.near 1)))).br.fresh, 15, 5, 0, 64, 1, _, ⟨rfl, rfl⟩, rfl, by decide +kernel, 0, 3, 0, _, _, rfl⟩

theorem wit_ConfigurationRequestsComplete_0 :
    ∃ (s : State), ∃ (b : Bridge), ∃ (fn : Fin 256), TlpTakes s false 0 b ∧ (b.exists fn = true ∧ b.cfgRetry fn = false) :=
  ⟨st ({ hosted with port := { hosted.port with vfEnable := true, numVfs := 255 } }), (st ({ hosted with port := { hosted.port with vfEnable := true, numVfs := 255 } })).br.fresh.hostArrives, 255, ⟨⟨⟨rfl, rfl, rfl, rfl⟩, rfl⟩, by decide +kernel⟩, by decide +kernel⟩

theorem wit_ConfigurationRequestsComplete_1 :
    ∃ (s : State), ∃ (b : Bridge), ∃ (fn : Fin 256), TlpTakes s false 1 b ∧ (b.exists fn = true ∧ b.cfgRetry fn = false) :=
  ⟨st ({ hosted with port := { hosted.port with vfEnable := true, numVfs := 255 } }), (st ({ hosted with port := { hosted.port with vfEnable := true, numVfs := 255 } })).br.fresh.hostArrives, 255, ⟨⟨⟨rfl, rfl, rfl, rfl⟩, rfl⟩, by decide +kernel⟩, by decide +kernel⟩

theorem wit_ConfigurationRequestsComplete_2 :
    ∃ (s : State), ∃ (b : Bridge), ∃ (fn : Fin 256), ∃ (dword : Nat), TlpTakes s false 0 b ∧ (b.exists fn = true ∧ b.cfgRetry fn = true) ∧ (dword ≠ 0 ∨ b.port.rrsVis = false) :=
  ⟨st ({ hosted with glb := {} }), (st ({ hosted with glb := {} })).br.fresh.hostArrives, 0, 1, ⟨⟨⟨rfl, rfl, rfl, rfl⟩, rfl⟩, by decide +kernel⟩, by decide +kernel, .inl (by decide)⟩

theorem wit_ConfigurationRequestsComplete_3 :
    ∃ (s : State), ∃ (b : Bridge), ∃ (fn : Fin 256), ∃ (dword : Nat), TlpTakes s false 0 b ∧ (b.exists fn = true ∧ b.cfgRetry fn = true ∧ dword = 0 ∧ b.port.rrsVis = true) :=
  ⟨st ({ hosted with glb := {}, port := { hosted.port with rrsVis := true } }), (st ({ hosted with glb := {}, port := { hosted.port with rrsVis := true } })).br.fresh.hostArrives, 0, 0, ⟨⟨⟨rfl, rfl, rfl, rfl⟩, rfl⟩, by decide +kernel⟩, by decide +kernel⟩

theorem wit_ConfigurationRequestsComplete_4 :
    ∃ (s : State), ∃ (b : Bridge), ∃ (fn : Fin 256), TlpTakes s false 1 b ∧ (b.exists fn = true ∧ b.cfgRetry fn = true) :=
  ⟨st ({ hosted with glb := {} }), (st ({ hosted with glb := {} })).br.fresh.hostArrives, 0, ⟨⟨⟨rfl, rfl, rfl, rfl⟩, rfl⟩, by decide +kernel⟩, by decide +kernel⟩

theorem wit_ConfigurationRequestsComplete_5 :
    ∃ (s : State), ∃ (b : Bridge), ∃ (fn : Fin 256), TlpTakes s false 0 b ∧ b.exists fn = false :=
  ⟨st hosted, (st hosted).br.fresh.hostArrives, 1, ⟨⟨⟨rfl, rfl, rfl, rfl⟩, rfl⟩, by decide +kernel⟩, by decide +kernel⟩

theorem wit_FunctionResets_0 :
    ∃ (s : State), ∃ (b : Bridge), ∃ (fn : Fin 256), TlpTakes s false 1 b ∧ (b.glb.level ≠ 0 ∧ b.exists fn = true ∧ fn.val ≠ 0) :=
  ⟨st ({ hosted with port := { hosted.port with vfEnable := true, numVfs := 255 } }), (st ({ hosted with port := { hosted.port with vfEnable := true, numVfs := 255 } })).br.fresh.hostArrives, 255, ⟨⟨⟨rfl, rfl, rfl, rfl⟩, rfl⟩, by decide +kernel⟩, by decide +kernel⟩

theorem wit_FunctionResets_1 :
    ∃ (s : State), ∃ (b : Bridge), TlpTakes s false 1 b ∧ b.glb.level ≠ 0 :=
  ⟨st hosted, (st hosted).br.fresh.hostArrives, ⟨⟨⟨rfl, rfl, rfl, rfl⟩, rfl⟩, by decide +kernel⟩, by decide +kernel⟩

theorem wit_FunctionResets_2 :
    ∃ (s : State), ∃ (b : Bridge), Live s b :=
  ⟨st {}, (st {}).br.fresh, ⟨rfl, rfl⟩⟩

theorem wit_FunctionResets_3 :
    ∃ (s : State), ∃ (b : Bridge), TlpTakes s false 1 b ∧ (b.cfgRetry 0 = false ∧ b.port.vfEnable = false ∧ 2 ≤ b.glb.level) :=
  ⟨st hosted, (st hosted).br.fresh.hostArrives, ⟨⟨⟨rfl, rfl, rfl, rfl⟩, rfl⟩, by decide +kernel⟩, by decide +kernel⟩

theorem wit_ConfigurationFieldsAct_0 :
    ∃ (s : State), ∃ (b : Bridge), TlpTakes s false 1 b ∧ b.cfgRetry 0 = false :=
  ⟨st hosted, (st hosted).br.fresh.hostArrives, ⟨⟨⟨rfl, rfl, rfl, rfl⟩, rfl⟩, by decide +kernel⟩, by decide +kernel⟩

theorem wit_ConfigurationFieldsAct_1 :
    ∃ (s : State), ∃ (b : Bridge), ∃ (dec : Fin 8), ∃ (base : Nat), ∃ (size : Nat), ∃ (iw : Nat), ∃ (ig : Nat), ∃ (skip : Nat), ∃ (lock : Bool), HostTakes s b ∧ ((Tbl.get ({} : Hdm) dec b.port.hdm).committed && (Tbl.get ({} : Hdm) dec b.port.hdm).lock) = false ∧ let h : Hdm := { base := base, size := size, iw := iw, ig := ig, skip := skip, lock := lock }; b.port.hdmOk dec h = true :=
  ⟨st cxl, (st cxl).br.fresh.hostArrives, 1, 0, 2 ^ 30, 0, 6, 0, true, ⟨⟨rfl, rfl, rfl, rfl⟩, rfl⟩, by decide +kernel, by decide +kernel⟩

theorem wit_ConfigurationFieldsAct_2 :
    ∃ (s : State), ∃ (b : Bridge), ∃ (dec : Fin 8), ∃ (base : Nat), ∃ (size : Nat), ∃ (iw : Nat), ∃ (ig : Nat), ∃ (skip : Nat), ∃ (lock : Bool), HostTakes s b ∧ ((Tbl.get ({} : Hdm) dec b.port.hdm).committed && (Tbl.get ({} : Hdm) dec b.port.hdm).lock) = false ∧ let h : Hdm := { base := base, size := size, iw := iw, ig := ig, skip := skip, lock := lock }; b.port.hdmOk dec h = false :=
  ⟨st hosted, (st hosted).br.fresh.hostArrives, 7, 0, 2 ^ 30, 4, 0, 0, false, ⟨⟨rfl, rfl, rfl, rfl⟩, rfl⟩, by decide +kernel, by decide +kernel⟩

theorem wit_ConfigurationFieldsAct_3 :
    ∃ (s : State), ∃ (b : Bridge), ∃ (fn : Fin 256), TlpTakes s false 1 b ∧ (b.cfgRetry fn = false ∧ b.exists fn = true ∧ (fn.val = 0 ∨ (b.func 0).power ≠ 3)) :=
  ⟨st ({ hosted with port := { hosted.port with fn := [(0, { power := 3 })] } }), (st ({ hosted with port := { hosted.port with fn := [(0, { power := 3 })] } })).br.fresh.hostArrives, 0, ⟨⟨⟨rfl, rfl, rfl, rfl⟩, rfl⟩, by decide +kernel⟩, by decide +kernel⟩

theorem wit_ConfigurationFieldsAct_4 :
    ∃ (s : State), ∃ (b : Bridge), ∃ (fn : Fin 256), ∃ (on : Bool), TlpTakes s false 1 b ∧ (b.cfgRetry fn = false ∧ b.exists fn = true ∧ fn.val ≠ 0 ∧ (b.func fn).msixEn ≠ on) :=
  ⟨st ({ hosted with port := { hosted.port with vfEnable := true, numVfs := 255 } }), (st ({ hosted with port := { hosted.port with vfEnable := true, numVfs := 255 } })).br.fresh.hostArrives, 255, true, ⟨⟨⟨rfl, rfl, rfl, rfl⟩, rfl⟩, by decide +kernel⟩, by decide +kernel⟩

theorem wit_ConfigurationFieldsAct_5 :
    ∃ (s : State), ∃ (b : Bridge), HostTakes s b :=
  ⟨st hosted, (st hosted).br.fresh.hostArrives, ⟨⟨rfl, rfl, rfl, rfl⟩, rfl⟩⟩

theorem wit_ConfigurationFieldsAct_6 :
    ∃ (s : State), ∃ (b : Bridge), HostTakes s b ∧ b.port.up = true :=
  ⟨st hosted, (st hosted).br.fresh.hostArrives, ⟨⟨rfl, rfl, rfl, rfl⟩, rfl⟩, by decide +kernel⟩

theorem wit_RequestsAndCompletionsAnswered_0 :
    ∃ (s : State), ∃ (b : Bridge), HostTakes s b :=
  ⟨st hosted, (st hosted).br.fresh.hostArrives, ⟨⟨rfl, rfl, rfl, rfl⟩, rfl⟩⟩

theorem wit_RequestsAndCompletionsAnswered_1 :
    ∃ (s : State), ∃ (b : Bridge), ∃ (tag : Nat), LinkTakes s b ∧ Tbl.find tag b.port.outReads = none :=
  ⟨st hosted, (st hosted).br.fresh.hostArrives, 1023, ⟨rfl, rfl, rfl, rfl⟩, by decide +kernel⟩

theorem wit_RequestsAndCompletionsAnswered_2 :
    ∃ (s : State), ∃ (b : Bridge), ∃ (tag : Nat), ∃ (id : Nat), ∃ (o : OutRead), LinkTakes s b ∧ Tbl.find tag b.port.outReads = some o ∧ o.use = .consumer id :=
  ⟨st (reading (.consumer 3)), (st (reading (.consumer 3))).br.fresh.hostArrives, 7, 3, _, ⟨rfl, rfl, rfl, rfl⟩, rfl, rfl⟩

theorem wit_RequestsAndCompletionsAnswered_3 :
    ∃ (s : State), ∃ (b : Bridge), ∃ (tag : Nat), ∃ (status : Nat), ∃ (o : OutRead), LinkTakes s b ∧ Tbl.find tag b.port.outReads = some o ∧ status ≠ 0 :=
  ⟨st (reading (.block 3 .descriptor 0)), (st (reading (.block 3 .descriptor 0))).br.fresh.hostArrives, 7, 1, _, ⟨rfl, rfl, rfl, rfl⟩, rfl, by decide +kernel⟩

theorem wit_RequestsAndCompletionsAnswered_4 :
    ∃ (s : State), ∃ (b : Bridge), ∃ (tag : Nat), ∃ (o : OutRead), Live s b ∧ Tbl.find tag b.port.outReads = some o ∧ (b.func 0).cplDis = false :=
  ⟨st (reading (.consumer 3)), (st (reading (.consumer 3))).br.fresh, 7, _, ⟨rfl, rfl⟩, rfl, by decide +kernel⟩

theorem wit_CxlMemRequests_0 :
    ∃ (s : State), ∃ (b : Bridge), HostTakes s b ∧ b.takesCxl = true ∧ ∃ hpa, ∃ a, (b.dpaServed hpa = some a ∧ b.port.held = [] ∧ b.pwr.holdOver = false) :=
  ⟨st cxl, (st cxl).br.fresh.hostArrives, ⟨⟨rfl, rfl, rfl, rfl⟩, rfl⟩, by decide +kernel, 0, 0, by decide +kernel⟩

theorem wit_CxlMemRequests_1 :
    ∃ (s : State), ∃ (b : Bridge), HostTakes s b ∧ b.takesCxl = true ∧ ∃ hpa, b.dpaServed hpa = none :=
  ⟨st cxl, (st cxl).br.fresh.hostArrives, ⟨⟨rfl, rfl, rfl, rfl⟩, rfl⟩, by decide +kernel, 2 ^ 40, by decide +kernel⟩

theorem wit_CxlMemRequests_2 :
    ∃ (s : State), ∃ (b : Bridge), HostTakes s b ∧ b.takesCxl = true ∧ ∃ hpa, b.dpaServed hpa = none :=
  ⟨st cxl, (st cxl).br.fresh.hostArrives, ⟨⟨rfl, rfl, rfl, rfl⟩, rfl⟩, by decide +kernel, 2 ^ 40, by decide +kernel⟩

theorem wit_CxlMemRequests_3 :
    ∃ (s : State), ∃ (b : Bridge), HostTakes s b ∧ b.takesCxl = true ∧ ∃ tag, ∃ hpa, ∃ a, ∃ data, ∃ be, ∃ b2, (b.dpaServed hpa = some a ∧ b.port.held = [] ∧ b.pwr.holdOver = false) ∧ ((b.modPort (fun p => { p with rxWr := p.rxWr + 64 })).modPort (fun p => { p with nextReq := p.nextReq + 1 })).runReq (.cxlWrite tag a data be false) = (none, b2) ∧ be = BitVec.allOnes 64 :=
  ⟨st cxl, (st cxl).br.fresh.hostArrives, ⟨⟨rfl, rfl, rfl, rfl⟩, rfl⟩, by decide +kernel, 0, 0, 0, 7, BitVec.allOnes 64, _, by decide +kernel, rfl, by decide +kernel⟩

theorem wit_HostLinkEvents_0 :
    ∃ (s : State), ∃ (b : Bridge), LinkTakes s b :=
  ⟨st hosted, (st hosted).br.fresh.hostArrives, ⟨rfl, rfl, rfl, rfl⟩⟩

theorem wit_HostLinkEvents_1 :
    ∃ (s : State), ∃ (b : Bridge), ∃ (cxl : Bool), Live s b ∧ (b.pwr.perstLow = false ∧ b.pwr.unfit = false ∧ b.port.fenced = false ∧ b.port.up = false ∧ b.port.noMode = false ∧ b.port.modeLatched = true ∧ b.port.cxl ≠ cxl) :=
  ⟨st ({ port := { modeLatched := true } }), (st ({ port := { modeLatched := true } })).br.fresh, true, ⟨rfl, rfl⟩, by decide +kernel⟩

theorem wit_HostLinkEvents_2 :
    ∃ (s : State), ∃ (b : Bridge), ∃ (cxl : Bool), ∃ (reversed : Bool), ∃ (width : Nat), ∃ (lanes : Nat), ∃ (w : Nat), Live s b ∧ (b.pwr.perstLow = false ∧ b.pwr.unfit = false ∧ b.port.fenced = false ∧ b.port.up = false ∧ b.port.noMode = false) ∧ (b.port.modeLatched = true → b.port.cxl = cxl) ∧ (widthOf width lanes reversed = some w ∧ w < width) :=
  ⟨st {}, (st {}).br.fresh, false, false, 16, 255, 8, ⟨rfl, rfl⟩, by decide +kernel, by decide, by decide +kernel⟩

theorem wit_HostLinkEvents_3 :
    ∃ (s : State), ∃ (b : Bridge), ∃ (cxl : Bool), ∃ (reversed : Bool), ∃ (width : Nat), ∃ (lanes : Nat), ∃ (w : Nat), Live s b ∧ (b.pwr.perstLow = false ∧ b.pwr.unfit = false ∧ b.port.fenced = false ∧ b.port.up = false ∧ b.port.noMode = false) ∧ (b.port.modeLatched = true → b.port.cxl = cxl) ∧ (widthOf width lanes reversed = some w ∧ w = width ∧ b.glb.hostLanesLost = false) :=
  ⟨st {}, (st {}).br.fresh, true, true, 16, 65535, 16, ⟨rfl, rfl⟩, by decide +kernel, by decide, by decide +kernel⟩

theorem wit_HostLinkEvents_4 :
    ∃ (s : State), ∃ (b : Bridge), ∃ (width : Nat), LinkTakes s b ∧ (b.port.up = true ∧ b.port.flit = true ∧ width ≤ b.port.width ∧ width ∈ [1, 2, 4, 8, 16]) :=
  ⟨st ({ hosted with port := { hosted.port with flit := true, width := 16 } }), (st ({ hosted with port := { hosted.port with flit := true, width := 16 } })).br.fresh.hostArrives, 16, ⟨rfl, rfl, rfl, rfl⟩, by decide +kernel⟩

theorem wit_HostLinkEvents_5 :
    ∃ (s : State), ∃ (b : Bridge), Live s b ∧ (b.port.up = true ∧ b.port.flit = true ∧ 2 ≤ b.port.active ∧ 64 ≤ b.port.quiet) :=
  ⟨st ({ hosted with port := { hosted.port with flit := true, active := 2, quiet := 64 } }), (st ({ hosted with port := { hosted.port with flit := true, active := 2, quiet := 64 } })).br.fresh, ⟨rfl, rfl⟩, by decide +kernel⟩

theorem wit_HostLinkEvents_6 :
    ∃ (s : State), ∃ (b : Bridge), Live s b ∧ (b.port.up = true ∧ b.port.lstate < 2 ∧ bitOf ((b.func 0).word 28) 1 = true) :=
  ⟨st ({ port := { up := true, fn := [(0, { cfg := [(28, 2)] })] } }), (st ({ port := { up := true, fn := [(0, { cfg := [(28, 2)] })] } })).br.fresh, ⟨rfl, rfl⟩, by decide +kernel⟩

theorem wit_HostLinkEvents_7 :
    ∃ (s : State), ∃ (b : Bridge), Live s b ∧ (b.port.up = true ∧ b.port.lstate = 2 ∧ b.l12Allowed = true) :=
  ⟨st ({ port := { up := true, lstate := 2, fn := [(0, { cfg := [(118, 4)] })] } }), (st ({ port := { up := true, lstate := 2, fn := [(0, { cfg := [(118, 4)] })] } })).br.fresh, ⟨rfl, rfl⟩, by decide +kernel⟩

theorem wit_HostLinkEvents_8 :
    ∃ (s : State), ∃ (b : Bridge), Live s b ∧ bitOf ((b.func 0).word 70) 8 = true :=
  ⟨st ({ port := { fn := [(0, { cfg := [(70, 256)] })] } }), (st ({ port := { fn := [(0, { cfg := [(70, 256)] })] } })).br.fresh, ⟨rfl, rfl⟩, by decide +kernel⟩

theorem wit_HostLinkEvents_9 :
    ∃ (s : State), ∃ (b : Bridge), Live s b ∧ b.port.cxl = true :=
  ⟨st ({ port := { cxl := true } }), (st ({ port := { cxl := true } })).br.fresh, ⟨rfl, rfl⟩, by decide +kernel⟩

theorem wit_RegisterAccesses_0 :
    ∃ (s : State), ∃ (b : Bridge), ∃ (who : Fin 261), ∃ (a : Nat), RegTakes s false who b ∧ (a % 4 = 0 ∧ semAt who a = none) ∧ ((who.val = 0 ∨ 256 ≤ who.val) → firmwareOwned a = false) ∧ b.regOf who a = none :=
  ⟨st hosted, (st hosted).br.fresh.hostArrives, 0, 0xFFFFFC, .inr ⟨by decide, ⟨⟨⟨rfl, rfl, rfl, rfl⟩, rfl⟩, by decide +kernel⟩, by decide +kernel⟩, by decide +kernel, by intro _; decide +kernel, by decide +kernel⟩

theorem wit_RegisterAccesses_1 :
    ∃ (s : State), ∃ (b : Bridge), ∃ (who : Fin 261), ∃ (a : Nat), RegTakes s false who b ∧ (a % 4 = 0 ∧ semAt who a = none) ∧ ((who.val = 0 ∨ 256 ≤ who.val) → firmwareOwned a = false) ∧ ∃ v, b.regOf who a = some (.word v) :=
  ⟨st {}, (st {}).br.fresh, 260, 0x40, .inl ⟨by decide, rfl, rfl⟩, by decide +kernel, by intro _; decide +kernel, _, rfl⟩

theorem wit_RegisterAccesses_2 :
    ∃ (s : State), ∃ (b : Bridge), ∃ (who : Fin 261), ∃ (a : Nat), RegTakes s false who b ∧ (a % 4 = 0 ∧ semAt who a = none) ∧ ((who.val = 0 ∨ 256 ≤ who.val) → firmwareOwned a = false) ∧ ∃ v, b.regOf who a = some (.lo v) :=
  ⟨st hosted, (st hosted).br.fresh.hostArrives, 0, 0x10, .inr ⟨by decide, ⟨⟨⟨rfl, rfl, rfl, rfl⟩, rfl⟩, by decide +kernel⟩, by decide +kernel⟩, by decide +kernel, by intro _; decide +kernel, _, rfl⟩

theorem wit_RegisterAccesses_3 :
    ∃ (s : State), ∃ (b : Bridge), ∃ (who : Fin 261), ∃ (a : Nat), RegTakes s false who b ∧ (a % 4 = 0 ∧ semAt who a = none) ∧ ((who.val = 0 ∨ 256 ≤ who.val) → firmwareOwned a = false) ∧ ∃ v, b.regOf who a = some (.hi v) :=
  ⟨st hosted, (st hosted).br.fresh.hostArrives, 0, 0x14, .inr ⟨by decide, ⟨⟨⟨rfl, rfl, rfl, rfl⟩, rfl⟩, by decide +kernel⟩, by decide +kernel⟩, by decide +kernel, by intro _; decide +kernel, _, rfl⟩

theorem wit_RegisterAccesses_4 :
    ∃ (s : State), ∃ (b : Bridge), ∃ (who : Fin 261), ∃ (v : Nat), RegTakes s true who b ∧ (who.val = 0 ∨ 256 ≤ who.val) ∧ v < 2 ^ 32 :=
  ⟨st {}, (st {}).br.fresh, 260, 2 ^ 32 - 1, .inl ⟨by decide, rfl, rfl⟩, .inr (by decide), by decide +kernel⟩

theorem wit_RegisterAccesses_5 :
    ∃ (s : State), ∃ (b : Bridge), ∃ (who : Fin 261), ∃ (a : Nat), ∃ (size : Nat), goodForm a size = false ∧ RegTakes s true who b ∧ pbaAt who a = false :=
  ⟨st hosted, (st hosted).br.fresh.hostArrives, 0, 4, 8, by decide +kernel, .inr ⟨by decide, ⟨⟨⟨rfl, rfl, rfl, rfl⟩, rfl⟩, by decide +kernel⟩, by decide +kernel⟩, by decide +kernel⟩

theorem wit_RegisterAccesses_6 :
    ∃ (s : State), ∃ (b : Bridge), ∃ (who : Fin 261), ∃ (a : Nat), ∃ (size : Nat), goodForm a size = false ∧ RegTakes s false who b :=
  ⟨st hosted, (st hosted).br.fresh.hostArrives, 0, 4, 8, by decide +kernel, .inr ⟨by decide, ⟨⟨⟨rfl, rfl, rfl, rfl⟩, rfl⟩, by decide +kernel⟩, by decide +kernel⟩⟩

theorem wit_RegisterAccesses_7 :
    ∃ (s : State), ∃ (b : Bridge), ∃ (who : Fin 261), ∃ (a : Nat), RegTakes s true who b ∧ pbaAt who a = true :=
  ⟨st hosted, (st hosted).br.fresh.hostArrives, 0, 0x2008000, .inr ⟨by decide, ⟨⟨⟨rfl, rfl, rfl, rfl⟩, rfl⟩, by decide +kernel⟩, by decide +kernel⟩, by decide +kernel⟩

theorem wit_RegisterAccesses_8 :
    ∃ (s : State), ∃ (b : Bridge), ∃ (who : Fin 261), RegTakes s true who b ∧ who.val < 256 :=
  ⟨st hosted, (st hosted).br.fresh.hostArrives, 0, .inr ⟨by decide, ⟨⟨⟨rfl, rfl, rfl, rfl⟩, rfl⟩, by decide +kernel⟩, by decide +kernel⟩, by decide +kernel⟩

theorem wit_CountersAreCleared_0 :
    ∃ (s : State), ∃ (b : Bridge), RegTakes s true 0 b ∧ ∃ k, k < 56 :=
  ⟨st hosted, (st hosted).br.fresh.hostArrives, .inr ⟨by decide, ⟨⟨⟨rfl, rfl, rfl, rfl⟩, rfl⟩, by decide +kernel⟩, by decide +kernel⟩, 55, by decide +kernel⟩

theorem wit_MailboxSlotsAndRings_0 :
    ∃ (s : State), ∃ (b : Bridge), ∃ (fn : Fin 256), ∃ (slot : Fin 8), RegTakes s true fn b ∧ ((b.mbx fn).slot slot).state = .free ∧ ∃ word, word < 64 :=
  ⟨st hosted, (st hosted).br.fresh.hostArrives, 0, 7, .inr ⟨by decide, ⟨⟨⟨rfl, rfl, rfl, rfl⟩, rfl⟩, by decide +kernel⟩, by decide +kernel⟩, by decide +kernel, 63, by decide +kernel⟩

theorem wit_MailboxSlotsAndRings_1 :
    ∃ (s : State), ∃ (b : Bridge), ∃ (fn : Fin 256), ∃ (slot : Fin 8), RegTakes s true fn b ∧ ((b.mbx fn).slot slot).state ≠ .free ∧ ∃ word, word < 64 :=
  ⟨st ({ hosted with ten := { mbx := [(0, { slots := [(7, { state := .running })] })] } }), (st ({ hosted with ten := { mbx := [(0, { slots := [(7, { state := .running })] })] } })).br.fresh.hostArrives, 0, 7, .inr ⟨by decide, ⟨⟨⟨rfl, rfl, rfl, rfl⟩, rfl⟩, by decide +kernel⟩, by decide +kernel⟩, by decide +kernel, 63, by decide +kernel⟩

theorem wit_MailboxSlotsAndRings_2 :
    ∃ (s : State), ∃ (b : Bridge), ∃ (fn : Fin 256), ∃ (slot : Fin 8), RegTakes s true fn b ∧ ((b.mbx fn).slot slot).state = .done :=
  ⟨st ({ hosted with ten := { mbx := [(0, { slots := [(7, { state := .done })] })] } }), (st ({ hosted with ten := { mbx := [(0, { slots := [(7, { state := .done })] })] } })).br.fresh.hostArrives, 0, 7, .inr ⟨by decide, ⟨⟨⟨rfl, rfl, rfl, rfl⟩, rfl⟩, by decide +kernel⟩, by decide +kernel⟩, by decide +kernel⟩

theorem wit_MailboxSlotsAndRings_3 :
    ∃ (s : State), ∃ (b : Bridge), ∃ (fn : Fin 256), ∃ (k : Fin 8), RegTakes s true fn b ∧ (k.val < b.ringCount fn ∧ (b.ring fn k).enable = false) :=
  ⟨st hosted, (st hosted).br.fresh.hostArrives, 0, 7, .inr ⟨by decide, ⟨⟨⟨rfl, rfl, rfl, rfl⟩, rfl⟩, by decide +kernel⟩, by decide +kernel⟩, by decide +kernel⟩

theorem wit_MailboxSlotsAndRings_4 :
    ∃ (s : State), ∃ (b : Bridge), ∃ (fn : Fin 256), ∃ (k : Fin 8), RegTakes s true fn b ∧ k.val < b.ringCount fn ∧ ∃ tail, (tail < 65536 ∧ (tail + 65536 - (b.ring fn k).head) % 65536 ≤ 2 ^ (b.ring fn k).sizeLog2) :=
  ⟨st ({ hosted with scan := { ring := [(7, { sizeLog2 := 4, head := 65535 })] } }), (st ({ hosted with scan := { ring := [(7, { sizeLog2 := 4, head := 65535 })] } })).br.fresh.hostArrives, 0, 7, .inr ⟨by decide, ⟨⟨⟨rfl, rfl, rfl, rfl⟩, rfl⟩, by decide +kernel⟩, by decide +kernel⟩, by decide +kernel, 15, by decide +kernel⟩

theorem wit_MailboxSlotsAndRings_5 :
    ∃ (s : State), ∃ (b : Bridge), ∃ (fn : Fin 256), ∃ (k : Fin 8), RegTakes s true fn b ∧ k.val < b.ringCount fn ∧ ∃ tail, (tail < 65536 ∧ 2 ^ (b.ring fn k).sizeLog2 < (tail + 65536 - (b.ring fn k).head) % 65536) :=
  ⟨st ({ hosted with scan := { ring := [(7, { sizeLog2 := 4, head := 65535 })] } }), (st ({ hosted with scan := { ring := [(7, { sizeLog2 := 4, head := 65535 })] } })).br.fresh.hostArrives, 0, 7, .inr ⟨by decide, ⟨⟨⟨rfl, rfl, rfl, rfl⟩, rfl⟩, by decide +kernel⟩, by decide +kernel⟩, by decide +kernel, 16, by decide +kernel⟩

theorem wit_FaultAndServiceRegisters_0 :
    ∃ (s : State), ∃ (b : Bridge), RegTakes s true 0 b ∧ ∃ (k : Nat), ∃ (src : Fin 32), (b.faults.forceLock = false ∧ ¬(k = 0x2F ∧ src.val = 0)) :=
  ⟨st hosted, (st hosted).br.fresh.hostArrives, .inr ⟨by decide, ⟨⟨⟨rfl, rfl, rfl, rfl⟩, rfl⟩, by decide +kernel⟩, by decide +kernel⟩, 0x2F, 31, by decide +kernel⟩

theorem wit_FaultAndServiceRegisters_1 :
    ∃ (s : State), ∃ (b : Bridge), RegTakes s true 0 b ∧ b.faults.forceLock = false :=
  ⟨st hosted, (st hosted).br.fresh.hostArrives, .inr ⟨by decide, ⟨⟨⟨rfl, rfl, rfl, rfl⟩, rfl⟩, by decide +kernel⟩, by decide +kernel⟩, by decide +kernel⟩

theorem wit_FaultAndServiceRegisters_2 :
    ∃ (s : State), ∃ (b : Bridge), RegTakes s true 0 b ∧ b.faults.forceWritten = false :=
  ⟨st hosted, (st hosted).br.fresh.hostArrives, .inr ⟨by decide, ⟨⟨⟨rfl, rfl, rfl, rfl⟩, rfl⟩, by decide +kernel⟩, by decide +kernel⟩, by decide +kernel⟩

theorem wit_FaultAndServiceRegisters_3 :
    ∃ (s : State), ∃ (b : Bridge), RegTakes s true 0 b ∧ (b.faults.armed = true ∧ bitOf b.faults.due 0 = false) :=
  ⟨st hosted, (st hosted).br.fresh.hostArrives, .inr ⟨by decide, ⟨⟨⟨rfl, rfl, rfl, rfl⟩, rfl⟩, by decide +kernel⟩, by decide +kernel⟩, by decide +kernel⟩

theorem wit_FaultAndServiceRegisters_4 :
    ∃ (s : State), ∃ (b : Bridge), RegTakes s true 0 b ∧ b.faults.armed = false :=
  ⟨st ({ hosted with faults := { armed := false } }), (st ({ hosted with faults := { armed := false } })).br.fresh.hostArrives, .inr ⟨by decide, ⟨⟨⟨rfl, rfl, rfl, rfl⟩, rfl⟩, by decide +kernel⟩, by decide +kernel⟩, by decide +kernel⟩

theorem wit_FaultAndServiceRegisters_5 :
    ∃ (s : State), ∃ (b : Bridge), RegTakes s true 0 b ∧ ∃ (was : Bridge), was = { b with tlm := { b.tlm with hostRd := b.mark.totals.hostRd, hostWr := b.mark.totals.hostWr, sledLines := b.mark.totals.sledLines, nearLines := b.mark.totals.nearLines, scanLines := b.mark.totals.scanLines } } :=
  ⟨st hosted, (st hosted).br.fresh.hostArrives, .inr ⟨by decide, ⟨⟨⟨rfl, rfl, rfl, rfl⟩, rfl⟩, by decide +kernel⟩, by decide +kernel⟩, _, rfl⟩

theorem wit_FaultAndServiceRegisters_6 :
    ∃ (s : State), ∃ (b : Bridge), RegTakes s true 0 b ∧ b.knl.debugWritten = false :=
  ⟨st hosted, (st hosted).br.fresh.hostArrives, .inr ⟨by decide, ⟨⟨⟨rfl, rfl, rfl, rfl⟩, rfl⟩, by decide +kernel⟩, by decide +kernel⟩, by decide +kernel⟩

theorem wit_FaultAndServiceRegisters_7 :
    ∃ (s : State), ∃ (b : Bridge), RegTakes s true 0 b ∧ ∃ (n : Fin 16), ∃ (k : Fin 5), (b.phy n).sendsPrbs k = false :=
  ⟨st hosted, (st hosted).br.fresh.hostArrives, .inr ⟨by decide, ⟨⟨⟨rfl, rfl, rfl, rfl⟩, rfl⟩, by decide +kernel⟩, by decide +kernel⟩, 15, 4, by decide +kernel⟩

theorem wit_HostInterruptRegisters_0 :
    ∃ (s : State), ∃ (b : Bridge), RegTakes s true 0 b :=
  ⟨st hosted, (st hosted).br.fresh.hostArrives, .inr ⟨by decide, ⟨⟨⟨rfl, rfl, rfl, rfl⟩, rfl⟩, by decide +kernel⟩, by decide +kernel⟩⟩

theorem wit_HostInterruptRegisters_1 :
    ∃ (b : Bridge), b.port.intaDue = true :=
  ⟨{ port := { intaDue := true } }, by decide +kernel⟩

theorem wit_HostInterruptRegisters_2 :
    ∃ (s : State), ∃ (b : Bridge), Live s b :=
  ⟨st {}, (st {}).br.fresh, ⟨rfl, rfl⟩⟩

theorem wit_HostInterruptRegisters_3 :
    ∃ (s : State), ∃ (b : Bridge), ∃ (fn : Fin 256), ∃ (v : Fin 64), RegTakes s true fn b ∧ (b.takesMemory fn = true ∧ v.val < Nat.max 1 (b.vectors fn)) :=
  ⟨st hosted, (st hosted).br.fresh.hostArrives, 0, 63, .inr ⟨by decide, ⟨⟨⟨rfl, rfl, rfl, rfl⟩, rfl⟩, by decide +kernel⟩, by decide +kernel⟩, by decide +kernel⟩

theorem wit_InterruptControllerCommands_0 :
    ∃ (s : State), ∃ (b : Bridge), Live s b ∧ ∃ (k : Fin 5), ∃ (i : Nat), (bitOf b.glb.coreFenced k = false ∧ b.icu.gdis = false ∧ b.icu.fenced = false ∧ b.bestFor k = some i ∧ i < 1022) :=
  ⟨st ({ icu := { src := [(976, { state := .pending, prio := 15, target := 16, enable := true })] } }), (st ({ icu := { src := [(976, { state := .pending, prio := 15, target := 16, enable := true })] } })).br.fresh, ⟨rfl, rfl⟩, 4, 976, by decide +kernel⟩

theorem wit_InterruptControllerCommands_1 :
    ∃ (s : State), ∃ (b : Bridge), Live s b ∧ ∃ (k : Fin 5), bitOf b.glb.coreFenced k = false ∧ (b.icu.gdis = true ∨ b.icu.fenced = true ∨ b.bestFor k = none) :=
  ⟨st {}, (st {}).br.fresh, ⟨rfl, rfl⟩, 4, by decide +kernel, .inr (.inr (by decide +kernel))⟩

theorem wit_InterruptControllerCommands_2 :
    ∃ (s : State), ∃ (b : Bridge), Live s b ∧ ∃ (v : Nat), v < 16 :=
  ⟨st {}, (st {}).br.fresh, ⟨rfl, rfl⟩, 15, by decide +kernel⟩

theorem wit_InterruptControllerCommands_3 :
    ∃ (s : State), ∃ (b : Bridge), Live s b ∧ ∃ i, (i ≠ 969 ∧ icuReserved i = false ∧ b.icu.fenced = false ∧ (b.icu.source i).level = false) :=
  ⟨st {}, (st {}).br.fresh, ⟨rfl, rfl⟩, 976, by decide +kernel⟩

theorem wit_InterruptControllerCommands_4 :
    ∃ (s : State), ∃ (b : Bridge), Live s b ∧ ∃ (g : Fin 32), ((b.icu.grp g).round = true ∧ (b.icu.grp g).timeTh ≠ 0 ∧ (b.icu.grp g).timeTh ≤ (b.icu.grp g).ticks ∧ g ≠ 0 ∧ b.icu.fenced = false) :=
  ⟨st ({ icu := { group := [(31, { round := true, timeTh := 1, ticks := 1 })] } }), (st ({ icu := { group := [(31, { round := true, timeTh := 1, ticks := 1 })] } })).br.fresh, ⟨rfl, rfl⟩, 31, by decide +kernel⟩

/-- A ready bridge with one admitted sled of 4 GiB on channel 0, its link up. -/
def stored : Bridge :=
  { glb := { level := 3 }
    ch := [(0, { svc := { state := .admitted, present := true, admitted := true, capGib := 4 }, ll := { state := .up } })]
    herd := { running := true, frames := (1024, 1024) } }

/-- A pick of one number among those that all may be taken finds one. -/
theorem pick_some {ok : Nat → Bool} {n : Nat} (b : Bridge) (hn : 0 < n) (h : ∀ k, ok k = true) :
    ∃ k, b.pick ok n = (some k, { b with free := b.free + 1 }) := by
  obtain ⟨m, rfl⟩ : ∃ m, n = m + 1 := ⟨n - 1, by omega⟩
  refine ⟨(0 + (Config.freeNat b.free % (m + 1)) + 0) % (m + 1), ?_⟩
  simp [Bridge.pick, Bridge.freeNat, pickFrom, h, List.range_succ_eq_map]
theorem homeExts_some (b : Bridge) (fuel ch k : Nat) (h : k ≤ b.extRoom ch) : (Bridge.homeExts (fuel + 1) ch k b).isSome = true := by
  simp only [Bridge.homeExts]
  rw [if_pos (Nat.min_eq_left h)]; rfl

theorem layout_some (b : Bridge) (hr : b.rotation 1 = [0]) (hs : b.ten.seg = []) (hx : 1 ≤ b.extRoom 0) :
    (b.layout 1 {} { plain := 1, chMask := 1 }).isSome = true := by
  have e : b.layout 1 {} { plain := 1, chMask := 1 } = ({ b with ten := { b.ten with seg := [] } } : Bridge).layoutSeg 1 0 1 0 false [0] := by
    simp only [Bridge.layout, hr, hs]
    simp [ceilDiv, Bridge.each, Bridge.modTen, List.range_succ, hs]
  rw [e]
  obtain ⟨d, hd⟩ : ∃ k, ({ b with ten := { b.ten with seg := [] } } : Bridge).pickDla = (some k, { b with ten := { b.ten with seg := [] }, free := b.free + 1 }) := by
    unfold Bridge.pickDla
    exact pick_some { b with ten := { b.ten with seg := [] } } (by omega) (fun _ => rfl)
  obtain ⟨k, hk⟩ : ∃ k, ({ b with ten := { b.ten with seg := [] }, free := b.free + 1 } : Bridge).pickSlot 0 =
      (some k, { b with ten := { b.ten with seg := [] }, free := b.free + 2 }) := by
    unfold Bridge.pickSlot
    exact pick_some { b with ten := { b.ten with seg := [] }, free := b.free + 1 } (by omega) (fun _ => rfl)
  simp only [Bridge.layoutSeg, Tbl.find, List.length_cons, List.length_nil, hd]
  simp [hk, Bridge.fillSeg]
  exact homeExts_some _ 16 0 1 hx

/-- A list of parameter bytes of a length. -/
def params (n : Nat) (xs : List Byte) : List Byte := xs ++ List.replicate (n - xs.length) 0

/-- INST_CREATE of instance 1 with one plain extent. -/
def creating : Bridge := citan 0x201 (params 144 [1, 0, 1, 1, 1, 0, 1, 0, 1]) stored

/-- A mirrored segment whose copy on channel 15 is lost. -/
def lostSeg : SegEntry :=
  { dlaSeg := 0, res := (15, 0), alt := (14, 0), mirrored := true, valid := true, inst := 255, degraded := true }

/-- The bridge as a command in slot 0 of that state finds it. -/
def creatingNow : Bridge := (st creating).br.fresh.visited

theorem creating_lacks : creatingNow.poolsLack (((st creating).br.fresh.cmdOf 0 0).u 16 1) {} ((st creating).br.fresh.cmdOf 0 0).grant = false := by
  have h : (creatingNow.layout 1 {} { plain := 1, chMask := 1 }).isSome = true :=
    layout_some creatingNow (by decide +kernel) rfl (by decide +kernel)
  have hg : ((st creating).br.fresh.cmdOf 0 0).grant = { plain := 1, chMask := 1 } := by decide +kernel
  have hi : ((st creating).br.fresh.cmdOf 0 0).u 16 1 = 1 := by decide +kernel
  rw [hg, hi]
  obtain ⟨x, hx⟩ := Option.isSome_iff_exists.mp h
  simp only [Bridge.poolsLack, hx, Option.isNone_some, Bool.or_false]
  clear hx x h hg hi
  decide +kernel

theorem wit_ReportsAndDiagnostics_0 :
    ∃ (s : State), ∃ (b : Bridge), ∃ (fn : Fin 256), ∃ (slot : Fin 8), ∃ (c : Cmd), CitanTakes s fn slot 0x101 .any b c ∧ c.len = 0 :=
  ⟨st (citan 0x101 []), (st (citan 0x101 [])).br.fresh.visited, 0, 0, ((st (citan 0x101 [])).br.fresh.cmdOf 0 0), ⟨rfl, by decide +kernel, by decide +kernel, rfl, rfl, by decide +kernel, by decide +kernel⟩, by decide +kernel⟩

theorem wit_ReportsAndDiagnostics_1 :
    ∃ (s : State), ∃ (b : Bridge), ∃ (fn : Fin 256), ∃ (slot : Fin 8), ∃ (c : Cmd), CitanTakes s fn slot 0x102 .any b c ∧ c.len ≤ 232 :=
  ⟨st (citan 0x102 (params 232 [])), (st (citan 0x102 (params 232 []))).br.fresh.visited, 0, 0, ((st (citan 0x102 (params 232 []))).br.fresh.cmdOf 0 0), ⟨rfl, by decide +kernel, by decide +kernel, rfl, rfl, by decide +kernel, by decide +kernel⟩, by decide +kernel⟩

theorem wit_ReportsAndDiagnostics_2 :
    ∃ (s : State), ∃ (b : Bridge), ∃ (fn : Fin 256), ∃ (slot : Fin 8), ∃ (c : Cmd), CitanTakes s fn slot 0x103 .manager b c ∧ c.len = 0 :=
  ⟨st (citan 0x103 []), (st (citan 0x103 [])).br.fresh.visited, 0, 0, ((st (citan 0x103 [])).br.fresh.cmdOf 0 0), ⟨rfl, by decide +kernel, by decide +kernel, rfl, rfl, by decide +kernel, by decide +kernel⟩, by decide +kernel⟩

theorem wit_ReportsAndDiagnostics_3 :
    ∃ (s : State), ∃ (b : Bridge), ∃ (fn : Fin 256), ∃ (slot : Fin 8), ∃ (c : Cmd), CitanTakes s fn slot 0x104 .any b c ∧ (c.len = 4 ∧ (∀ o ∈ b.citan.ops, o.tag ≠ c.u 16 4)) :=
  ⟨st (citan 0x104 (params 4 [])), (st (citan 0x104 (params 4 []))).br.fresh.visited, 0, 0, ((st (citan 0x104 (params 4 []))).br.fresh.cmdOf 0 0), ⟨rfl, by decide +kernel, by decide +kernel, rfl, rfl, by decide +kernel, by decide +kernel⟩, by decide +kernel⟩

theorem wit_ReportsAndDiagnostics_4 :
    ∃ (s : State), ∃ (b : Bridge), ∃ (fn : Fin 256), ∃ (slot : Fin 8), ∃ (c : Cmd), CitanTakes s fn slot 0x104 .any b c ∧ c.len = 4 ∧ ∃ o, b.citan.ops = [o] ∧ (o.running = true ∧ o.tag = c.u 16 4) ∧ o.fn = c.ref.fn :=
  ⟨st (citan 0x104 (params 4 [1]) { citan := { ops := [{ fn := 0, tag := 1, op := 0x106, obj := 1, running := true, mute := false }] } }), (st (citan 0x104 (params 4 [1]) { citan := { ops := [{ fn := 0, tag := 1, op := 0x106, obj := 1, running := true, mute := false }] } })).br.fresh.visited, 0, 0, ((st (citan 0x104 (params 4 [1]) { citan := { ops := [{ fn := 0, tag := 1, op := 0x106, obj := 1, running := true, mute := false }] } })).br.fresh.cmdOf 0 0), ⟨rfl, by decide +kernel, by decide +kernel, rfl, rfl, by decide +kernel, by decide +kernel⟩, by decide +kernel, _, rfl, by decide +kernel, rfl⟩

theorem wit_ReportsAndDiagnostics_5 :
    ∃ (s : State), ∃ (b : Bridge), ∃ (fn : Fin 256), ∃ (slot : Fin 8), ∃ (c : Cmd), CitanTakes s fn slot 0x104 .any b c ∧ c.len = 4 ∧ ∃ o, b.citan.ops = [o] ∧ (o.running = false ∧ o.tag = c.u 16 4 ∧ o.fn = c.ref.fn) :=
  ⟨st (citan 0x104 (params 4 []) { citan := { ops := [{ fn := 0, tag := 0, op := 0x106, obj := 1, running := false }] } }), (st (citan 0x104 (params 4 []) { citan := { ops := [{ fn := 0, tag := 0, op := 0x106, obj := 1, running := false }] } })).br.fresh.visited, 0, 0, ((st (citan 0x104 (params 4 []) { citan := { ops := [{ fn := 0, tag := 0, op := 0x106, obj := 1, running := false }] } })).br.fresh.cmdOf 0 0), ⟨rfl, by decide +kernel, by decide +kernel, rfl, rfl, by decide +kernel, by decide +kernel⟩, by decide +kernel, _, rfl, by decide +kernel⟩

theorem wit_ReportsAndDiagnostics_6 :
    ∃ (s : State), ∃ (b : Bridge), ∃ (fn : Fin 256), ∃ (slot : Fin 8), ∃ (c : Cmd), CitanTakes s fn slot 0x109 .manager b c ∧ c.len = 0 :=
  ⟨st (citan 0x109 []), (st (citan 0x109 [])).br.fresh.visited, 0, 0, ((st (citan 0x109 [])).br.fresh.cmdOf 0 0), ⟨rfl, by decide +kernel, by decide +kernel, rfl, rfl, by decide +kernel, by decide +kernel⟩, by decide +kernel⟩

theorem wit_ReportsAndDiagnostics_7 :
    ∃ (s : State), ∃ (b : Bridge), ∃ (fn : Fin 256), ∃ (slot : Fin 8), ∃ (c : Cmd), CitanTakes s fn slot 0x105 .manager b c ∧ (c.len = 8 ∧ c.u 16 1 < 16 ∧ c.u 17 1 < 8 ∧ c.u 18 1 < 4 ∧ c.reserved 19 1 = none ∧ 1 ≤ c.u 20 2 ∧ c.u 20 2 ≤ 1000 ∧ c.reserved 22 2 = none ∧ (b.chFenced (c.u 16 1) = true ∨ (b.chan (c.u 16 1)).svc.admitted = false) ∧ b.lanesBusy (c.u 16 1) = false) :=
  ⟨st (citan 0x105 [15, 7, 3, 0, 0xE8, 3, 0, 0]), (st (citan 0x105 [15, 7, 3, 0, 0xE8, 3, 0, 0])).br.fresh.visited, 0, 0, ((st (citan 0x105 [15, 7, 3, 0, 0xE8, 3, 0, 0])).br.fresh.cmdOf 0 0), ⟨rfl, by decide +kernel, by decide +kernel, rfl, rfl, by decide +kernel, by decide +kernel⟩, by decide +kernel⟩

theorem wit_ReportsAndDiagnostics_8 :
    ∃ (s : State), ∃ (b : Bridge), ∃ (n : Fin 16), Live s b ∧ ((b.phy n).testRate.isSome = true ∧ (b.phy n).state = .test) ∧ (∀ k, ((b.phy n).ln k).prbsLock = false) :=
  ⟨st ({ ch := [(15, { phy := { testRate := some 3, state := .test } })] }), (st ({ ch := [(15, { phy := { testRate := some 3, state := .test } })] })).br.fresh, 15, ⟨rfl, rfl⟩, by decide +kernel, fun _ => rfl⟩

theorem wit_ReportsAndDiagnostics_9 :
    ∃ (s : State), ∃ (b : Bridge), ∃ (fn : Fin 256), ∃ (slot : Fin 8), ∃ (c : Cmd), CitanTakes s fn slot 0x106 .manager b c ∧ (c.len = 4 ∧ c.u 16 1 = 1 ∧ c.u 17 1 < 16 ∧ c.u 18 1 = 0 ∧ (c.u 19 1 = 1 ∨ c.u 19 1 = 2) ∧ b.testable 1 (c.u 17 1) 0 = true ∧ b.opBusy (65536 + c.u 17 1) = false) :=
  ⟨st (citan 0x106 [1, 15, 0, 2]), (st (citan 0x106 [1, 15, 0, 2])).br.fresh.visited, 0, 0, ((st (citan 0x106 [1, 15, 0, 2])).br.fresh.cmdOf 0 0), ⟨rfl, by decide +kernel, by decide +kernel, rfl, rfl, by decide +kernel, by decide +kernel⟩, by decide +kernel⟩

theorem wit_ReportsAndDiagnostics_10 :
    ∃ (s : State), ∃ (b : Bridge), ∃ (unit : Nat), ∃ (o : Operation), Live s b ∧ b.opOn 0x106 (65536 + unit) = some o :=
  ⟨st ({ citan := { ops := [{ fn := 0, tag := 0, op := 0x106, obj := 65551 }] } }), (st ({ citan := { ops := [{ fn := 0, tag := 0, op := 0x106, obj := 65551 }] } })).br.fresh, 15, _, ⟨rfl, rfl⟩, rfl⟩

theorem wit_ReportsAndDiagnostics_11 :
    ∃ (s : State), ∃ (b : Bridge), ∃ (fn : Fin 256), ∃ (slot : Fin 8), ∃ (c : Cmd), CitanTakes s fn slot 0x107 .manager b c ∧ (c.len = 1 ∧ c.u 16 1 < 2) :=
  ⟨st (citan 0x107 [1]), (st (citan 0x107 [1])).br.fresh.visited, 0, 0, ((st (citan 0x107 [1])).br.fresh.cmdOf 0 0), ⟨rfl, by decide +kernel, by decide +kernel, rfl, rfl, by decide +kernel, by decide +kernel⟩, by decide +kernel⟩

theorem wit_ReportsAndDiagnostics_12 :
    ∃ (s : State), ∃ (b : Bridge), ∃ (fn : Fin 256), ∃ (slot : Fin 8), ∃ (c : Cmd), CitanTakes s fn slot 0x108 .manager b c ∧ (c.len = 0 ∧ b.boot.heldAt = true ∧ b.jrn.replaying = false ∧ b.pwr.levelDue = false) :=
  ⟨st (citan 0x108 [] { boot := { heldAt := true } }), (st (citan 0x108 [] { boot := { heldAt := true } })).br.fresh.visited, 0, 0, ((st (citan 0x108 [] { boot := { heldAt := true } })).br.fresh.cmdOf 0 0), ⟨rfl, by decide +kernel, by decide +kernel, rfl, rfl, by decide +kernel, by decide +kernel⟩, by decide +kernel⟩

theorem wit_KeyAndTamperCommands_0 :
    ∃ (s : State), ∃ (b : Bridge), ∃ (fn : Fin 256), ∃ (slot : Fin 8), ∃ (c : Cmd), CitanTakes s fn slot 0x10A .manager b c ∧ (c.len = 64 ∧ c.u 16 2 = b.knl.count ∧ c.reserved 18 6 = none ∧ c.u 24 8 = b.serial ∧ (bitOf (b.fuse 3) 3 = false ∨ c.macGood b = true) ∧ b.knl.lost = false ∧ b.knl.active = 0) :=
  ⟨st (citan 0x10A (params 64 [])), (st (citan 0x10A (params 64 []))).br.fresh.visited, 0, 0, ((st (citan 0x10A (params 64 []))).br.fresh.cmdOf 0 0), ⟨rfl, by decide +kernel, by decide +kernel, rfl, rfl, by decide +kernel, by decide +kernel⟩, by decide +kernel⟩

theorem wit_KeyAndTamperCommands_1 :
    ∃ (s : State), ∃ (b : Bridge), ∃ (fn : Fin 256), ∃ (slot : Fin 8), ∃ (c : Cmd), CitanTakes s fn slot 0x601 .manager b c ∧ (c.len = 144 ∧ (b.inst (c.u 16 1)).state = .live ∧ c.u 17 1 ≤ 1 ∧ c.reserved 18 62 = none ∧ b.keyOp = false ∧ b.tamperSet = false ∧ b.knl.lost = false ∧ firstBad c.keyChecks = none ∧ (c.u 17 1 = 1 → (c.unwrapped b).isSome = true)) :=
  ⟨st (citan 0x601 (params 144 []) { ten := { inst := [(0, { state := .live })] } }), (st (citan 0x601 (params 144 []) { ten := { inst := [(0, { state := .live })] } })).br.fresh.visited, 0, 0, ((st (citan 0x601 (params 144 []) { ten := { inst := [(0, { state := .live })] } })).br.fresh.cmdOf 0 0), ⟨rfl, by decide +kernel, by decide +kernel, rfl, rfl, by decide +kernel, by decide +kernel⟩, by decide +kernel⟩

theorem wit_KeyAndTamperCommands_2 :
    ∃ (s : State), ∃ (b : Bridge), ∃ (fn : Fin 256), ∃ (slot : Fin 8), ∃ (c : Cmd), CitanTakes s fn slot 0x601 .manager b c ∧ (c.len = 144 ∧ (b.inst (c.u 16 1)).state = .live ∧ c.u 17 1 ≤ 1 ∧ c.reserved 18 62 = none ∧ b.keyOp = false ∧ b.tamperSet = false ∧ b.knl.lost = true) :=
  ⟨st (citan 0x601 (params 144 []) { ten := { inst := [(0, { state := .live })] }, knl := { lost := true } }), (st (citan 0x601 (params 144 []) { ten := { inst := [(0, { state := .live })] }, knl := { lost := true } })).br.fresh.visited, 0, 0, ((st (citan 0x601 (params 144 []) { ten := { inst := [(0, { state := .live })] }, knl := { lost := true } })).br.fresh.cmdOf 0 0), ⟨rfl, by decide +kernel, by decide +kernel, rfl, rfl, by decide +kernel, by decide +kernel⟩, by decide +kernel⟩

theorem wit_InstanceCommands_0 :
    ∃ (s : State), ∃ (b : Bridge), ∃ (fn : Fin 256), ∃ (slot : Fin 8), ∃ (c : Cmd), CitanTakes s fn slot 0x201 .manager b c ∧ (c.len = 144 ∧ c.u 16 1 ≠ 0 ∧ (b.inst (c.u 16 1)).state = .none ∧ c.u 17 1 ≤ 1 ∧ firstBad (c.grantChecks (c.u 16 1) b) = none ∧ c.reserved 76 4 = none ∧ firstBad c.keyChecks = none ∧ b.tamperSet = false ∧ b.knl.lost = false) ∧ Journals b ∧ b.poolsLack (c.u 16 1) {} c.grant = false ∧ c.unwrapFails b = false :=
  ⟨st creating, (st creating).br.fresh.visited, 0, 0, ((st creating).br.fresh.cmdOf 0 0), ⟨rfl, by decide +kernel, by decide +kernel, rfl, rfl, by decide +kernel, by decide +kernel⟩, by decide +kernel, ⟨rfl, .inl rfl⟩, creating_lacks, by decide +kernel⟩

theorem wit_InstanceCommands_1 :
    ∃ (s : State), ∃ (b : Bridge), ∃ (fn : Fin 256), ∃ (slot : Fin 8), ∃ (c : Cmd), CitanTakes s fn slot 0x202 .manager b c ∧ (c.len = 1 ∧ c.u 16 1 ≠ 0 ∧ (b.inst (c.u 16 1)).state = .live) ∧ Journals b :=
  ⟨st (citan 0x202 [255] { ten := { inst := [(255, { state := .live })] } }), (st (citan 0x202 [255] { ten := { inst := [(255, { state := .live })] } })).br.fresh.visited, 0, 0, ((st (citan 0x202 [255] { ten := { inst := [(255, { state := .live })] } })).br.fresh.cmdOf 0 0), ⟨rfl, by decide +kernel, by decide +kernel, rfl, rfl, by decide +kernel, by decide +kernel⟩, by decide +kernel, ⟨rfl, .inl rfl⟩⟩

theorem wit_InstanceCommands_2 :
    ∃ (s : State), ∃ (b : Bridge), ∃ (i : Fin 256), ∃ (t : Nat), Live s b ∧ ((b.inst i).state = .tearing ∧ (b.inst i).tornAt = some t ∧ (b.inst i).tearCmd = none ∧ t * 1536 + 128 ≤ b.glb.time ∧ b.drained i = true) :=
  ⟨st ({ ten := { inst := [(255, { state := .tearing, tornAt := some 0 })] }, glb := { time := 128 } }), (st ({ ten := { inst := [(255, { state := .tearing, tornAt := some 0 })] }, glb := { time := 128 } })).br.fresh, 255, 0, ⟨rfl, rfl⟩, by decide +kernel⟩

theorem wit_InstanceCommands_3 :
    ∃ (s : State), ∃ (b : Bridge), ∃ (fn : Fin 256), ∃ (slot : Fin 8), ∃ (c : Cmd), CitanTakes s fn slot 0x203 .own b c ∧ (c.len = 1 ∧ (b.inst (c.u 16 1)).state = .none) :=
  ⟨st (citan 0x203 [255]), (st (citan 0x203 [255])).br.fresh.visited, 0, 0, ((st (citan 0x203 [255])).br.fresh.cmdOf 0 0), ⟨rfl, by decide +kernel, by decide +kernel, rfl, rfl, by decide +kernel, by decide +kernel⟩, by decide +kernel⟩

theorem wit_InstanceCommands_4 :
    ∃ (s : State), ∃ (b : Bridge), ∃ (fn : Fin 256), ∃ (slot : Fin 8), ∃ (c : Cmd), CitanTakes s fn slot 0x204 .manager b c ∧ (c.len = 9 ∧ (b.inst (c.u 16 1)).state = .live ∧ c.reserved 17 3 = none ∧ c.u 20 4 + c.u 24 1 ≤ (b.inst (c.u 16 1)).grant.segs ∧ 1 ≤ c.u 24 1 ∧ c.u 24 1 ≤ 28) :=
  ⟨st (citan 0x204 [0, 0, 0, 0, 0, 0, 0, 0, 28] { ten := { inst := [(0, { state := .live, grant := { plain := 512 * 28 } })] } }), (st (citan 0x204 [0, 0, 0, 0, 0, 0, 0, 0, 28] { ten := { inst := [(0, { state := .live, grant := { plain := 512 * 28 } })] } })).br.fresh.visited, 0, 0, ((st (citan 0x204 [0, 0, 0, 0, 0, 0, 0, 0, 28] { ten := { inst := [(0, { state := .live, grant := { plain := 512 * 28 } })] } })).br.fresh.cmdOf 0 0), ⟨rfl, by decide +kernel, by decide +kernel, rfl, rfl, by decide +kernel, by decide +kernel⟩, by decide +kernel⟩

theorem wit_SettingsArePrepared_0 :
    ∃ (s : State), ∃ (b : Bridge), ∃ (fn : Fin 256), ∃ (slot : Fin 8), ∃ (c : Cmd), CitanTakes s fn slot 0x205 .manager b c ∧ (c.len = 60 ∧ c.u 16 1 = 0 ∧ c.u 17 1 = 0 ∧ firstBad (c.grantChecks 0 b) = none ∧ b.tamperSet = false ∧ b.knl.lost = false) ∧ Journals b ∧ b.poolsLack 0 (b.inst 0).grant c.grant = false :=
  ⟨st (citan 0x205 (params 60 [0, 0, 1, 1, 1, 0, 1])), (st (citan 0x205 (params 60 [0, 0, 1, 1, 1, 0, 1]))).br.fresh.visited, 0, 0, ((st (citan 0x205 (params 60 [0, 0, 1, 1, 1, 0, 1]))).br.fresh.cmdOf 0 0), ⟨rfl, by decide +kernel, by decide +kernel, rfl, rfl, by decide +kernel, by decide +kernel⟩, by decide +kernel, ⟨rfl, .inl rfl⟩, by decide +kernel⟩

theorem wit_SettingsArePrepared_1 :
    ∃ (s : State), ∃ (b : Bridge), ∃ (fn : Fin 256), ∃ (slot : Fin 8), ∃ (c : Cmd), CitanTakes s fn slot 0x206 .manager b c ∧ (c.len = 1 ∧ 30 ≤ c.u 16 1 ∧ c.u 16 1 ≤ 47) ∧ Journals b ∧ b.port.cxl = true :=
  ⟨st (citan 0x206 [47] { port := { cxl := true } }), (st (citan 0x206 [47] { port := { cxl := true } })).br.fresh.visited, 0, 0, ((st (citan 0x206 [47] { port := { cxl := true } })).br.fresh.cmdOf 0 0), ⟨rfl, by decide +kernel, by decide +kernel, rfl, rfl, by decide +kernel, by decide +kernel⟩, by decide +kernel, ⟨rfl, .inl rfl⟩, by decide +kernel⟩

theorem wit_SettingsArePrepared_2 :
    ∃ (s : State), ∃ (b : Bridge), ∃ (fn : Fin 256), ∃ (slot : Fin 8), ∃ (c : Cmd), CitanTakes s fn slot 0x207 .manager b c ∧ (c.len = 12 ∧ c.u 16 1 ≠ 0 ∧ (b.inst (c.u 16 1)).state = .live ∧ c.u 17 1 ≤ 2 ∧ c.reserved 18 2 = none ∧ 1 ≤ c.u 24 4 ∧ c.u 20 4 + c.u 24 4 ≤ (b.inst (c.u 16 1)).grant.segs) ∧ Journals b :=
  ⟨st (citan 0x207 [255, 2, 0, 0, 0, 0, 0, 0, 1, 0, 0, 0] { ten := { inst := [(255, { state := .live, grant := { plain := 1 } })] } }), (st (citan 0x207 [255, 2, 0, 0, 0, 0, 0, 0, 1, 0, 0, 0] { ten := { inst := [(255, { state := .live, grant := { plain := 1 } })] } })).br.fresh.visited, 0, 0, ((st (citan 0x207 [255, 2, 0, 0, 0, 0, 0, 0, 1, 0, 0, 0] { ten := { inst := [(255, { state := .live, grant := { plain := 1 } })] } })).br.fresh.cmdOf 0 0), ⟨rfl, by decide +kernel, by decide +kernel, rfl, rfl, by decide +kernel, by decide +kernel⟩, by decide +kernel, ⟨rfl, .inl rfl⟩⟩

theorem wit_SettingsArePrepared_3 :
    ∃ (s : State), ∃ (b : Bridge), ∃ (fn : Fin 256), ∃ (slot : Fin 8), ∃ (c : Cmd), CitanTakes s fn slot 0x208 .manager b c ∧ (c.len = 40 ∧ c.u 16 1 < 64 ∧ c.reserved 17 7 = none) :=
  ⟨st (citan 0x208 (params 40 [63])), (st (citan 0x208 (params 40 [63]))).br.fresh.visited, 0, 0, ((st (citan 0x208 (params 40 [63]))).br.fresh.cmdOf 0 0), ⟨rfl, by decide +kernel, by decide +kernel, rfl, rfl, by decide +kernel, by decide +kernel⟩, by decide +kernel⟩

theorem wit_SettingsArePrepared_4 :
    ∃ (s : State), ∃ (b : Bridge), ∃ (fn : Fin 256), ∃ (slot : Fin 8), ∃ (c : Cmd), CitanTakes s fn slot 0x209 .manager b c ∧ c.len = 8 :=
  ⟨st (citan 0x209 (params 8 [])), (st (citan 0x209 (params 8 []))).br.fresh.visited, 0, 0, ((st (citan 0x209 (params 8 []))).br.fresh.cmdOf 0 0), ⟨rfl, by decide +kernel, by decide +kernel, rfl, rfl, by decide +kernel, by decide +kernel⟩, by decide +kernel⟩

theorem wit_SettingsArePrepared_5 :
    ∃ (s : State), ∃ (b : Bridge), ∃ (fn : Fin 256), ∃ (slot : Fin 8), ∃ (c : Cmd), CitanTakes s fn slot 0x301 .own b c ∧ (c.len = 12 ∧ (b.inst (c.u 16 1)).state = .live ∧ c.u 17 1 = 0 ∧ c.u 18 1 < 8 ∧ c.reserved 19 1 = none ∧ 1 ≤ c.u 24 4 ∧ c.u 24 4 ≤ 65536 ∧ b.allocIn (c.u 16 1) (c.u 20 4) (c.u 24 4) = c.u 24 4 ∧ ((b.withHints.extentsIn (c.u 16 1) (c.u 20 4) (c.u 24 4)).map (Desc.hint 0 (c.u 18 1))).all (fun d => !d.hintClash && !d.pinNear) = true) ∧ Journals b :=
  ⟨st (citan 0x301 [0, 0, 7, 0, 0, 0, 0, 0, 1, 0, 0, 0] { ten := { seg := [(0, { dlaSeg := 0, res := (0, 0), valid := true, inst := 0 })] }, herd := { desc := [(0, { valid := true })] } }), (st (citan 0x301 [0, 0, 7, 0, 0, 0, 0, 0, 1, 0, 0, 0] { ten := { seg := [(0, { dlaSeg := 0, res := (0, 0), valid := true, inst := 0 })] }, herd := { desc := [(0, { valid := true })] } })).br.fresh.visited, 0, 0, ((st (citan 0x301 [0, 0, 7, 0, 0, 0, 0, 0, 1, 0, 0, 0] { ten := { seg := [(0, { dlaSeg := 0, res := (0, 0), valid := true, inst := 0 })] }, herd := { desc := [(0, { valid := true })] } })).br.fresh.cmdOf 0 0), ⟨rfl, by decide +kernel, by decide +kernel, rfl, rfl, by decide +kernel, by decide +kernel⟩, by decide +kernel, ⟨rfl, .inl rfl⟩⟩

theorem wit_SettingsArePrepared_6 :
    ∃ (s : State), ∃ (b : Bridge), ∃ (fn : Fin 256), ∃ (slot : Fin 8), ∃ (c : Cmd), CitanTakes s fn slot 0x303 .manager b c ∧ (c.len = 14 ∧ c.u 16 2 = 0 ∧ b.tuneNext.demote < b.tuneNext.promote ∧ c.reserved 29 1 = none) ∧ Journals b :=
  ⟨st (citan 0x303 (params 14 [])), (st (citan 0x303 (params 14 []))).br.fresh.visited, 0, 0, ((st (citan 0x303 (params 14 []))).br.fresh.cmdOf 0 0), ⟨rfl, by decide +kernel, by decide +kernel, rfl, rfl, by decide +kernel, by decide +kernel⟩, by decide +kernel, ⟨rfl, .inl rfl⟩⟩

theorem wit_SettingsArePrepared_7 :
    ∃ (s : State), ∃ (b : Bridge), ∃ (fn : Fin 256), ∃ (slot : Fin 8), ∃ (c : Cmd), CitanTakes s fn slot 0x304 .manager b c ∧ (c.len = 3 ∧ c.u 16 1 ≤ 64 ∧ c.u 17 1 ≤ 64 ∧ 1 ≤ c.u 18 1 ∧ c.u 18 1 ≤ 64 ∧ c.u 16 1 + c.u 17 1 + c.u 18 1 ≤ 96) ∧ Journals b :=
  ⟨st (citan 0x304 [31, 1, 64]), (st (citan 0x304 [31, 1, 64])).br.fresh.visited, 0, 0, ((st (citan 0x304 [31, 1, 64])).br.fresh.cmdOf 0 0), ⟨rfl, by decide +kernel, by decide +kernel, rfl, rfl, by decide +kernel, by decide +kernel⟩, by decide +kernel, ⟨rfl, .inl rfl⟩⟩

theorem wit_SettingsArePrepared_8 :
    ∃ (s : State), ∃ (b : Bridge), ∃ (fn : Fin 256), ∃ (slot : Fin 8), ∃ (c : Cmd), CitanTakes s fn slot 0x305 .manager b c ∧ (c.len = 1 ∧ c.u 16 1 ≤ 10) ∧ Journals b :=
  ⟨st (citan 0x305 [10]), (st (citan 0x305 [10])).br.fresh.visited, 0, 0, ((st (citan 0x305 [10])).br.fresh.cmdOf 0 0), ⟨rfl, by decide +kernel, by decide +kernel, rfl, rfl, by decide +kernel, by decide +kernel⟩, by decide +kernel, ⟨rfl, .inl rfl⟩⟩

theorem wit_SettingsArePrepared_9 :
    ∃ (s : State), ∃ (b : Bridge), ∃ (fn : Fin 256), ∃ (slot : Fin 8), ∃ (c : Cmd), CitanTakes s fn slot 0x306 .manager b c ∧ (c.len = 1 ∧ c.u 16 1 ≤ 1 ∧ (c.u 16 1 = 1 → 2000 ≤ b.herd.holdup ∧ b.herd.holdup ≤ 100000) ∧ (c.u 16 1 = 1 → channelMask (fun n => (b.chan n).svc.admitted && !(b.chan n).ll.id.persist) = 0)) ∧ Journals b :=
  ⟨st (citan 0x306 [1] { herd := { holdup := 100000 } }), (st (citan 0x306 [1] { herd := { holdup := 100000 } })).br.fresh.visited, 0, 0, ((st (citan 0x306 [1] { herd := { holdup := 100000 } })).br.fresh.cmdOf 0 0), ⟨rfl, by decide +kernel, by decide +kernel, rfl, rfl, by decide +kernel, by decide +kernel⟩, by decide +kernel, ⟨rfl, .inl rfl⟩⟩

theorem wit_SettingsArePrepared_10 :
    ∃ (s : State), ∃ (b : Bridge), ∃ (fn : Fin 256), ∃ (slot : Fin 8), ∃ (c : Cmd), CitanTakes s fn slot 0x501 .manager b c ∧ (c.len = 1 ∧ c.u 16 1 < 64) ∧ Journals b :=
  ⟨st (citan 0x501 [63]), (st (citan 0x501 [63])).br.fresh.visited, 0, 0, ((st (citan 0x501 [63])).br.fresh.cmdOf 0 0), ⟨rfl, by decide +kernel, by decide +kernel, rfl, rfl, by decide +kernel, by decide +kernel⟩, by decide +kernel, ⟨rfl, .inl rfl⟩⟩

theorem wit_SettingsArePrepared_11 :
    ∃ (s : State), ∃ (b : Bridge), ∃ (fn : Fin 256), ∃ (slot : Fin 8), ∃ (c : Cmd), CitanTakes s fn slot 0x505 .manager b c ∧ (c.len = 8 ∧ c.u 16 2 ≤ 0x37 ∧ (faultKind (c.u 16 2) (c.u 18 1) = some .corrected ∨ faultKind (c.u 16 2) (c.u 18 1) = some .error) ∧ 1 ≤ c.u 19 1 ∧ 1 ≤ c.u 20 4 ∧ c.u 20 4 ≤ 1048576) ∧ Journals b :=
  ⟨st (citan 0x505 [0x37, 0, 1, 1, 0, 0, 16, 0]), (st (citan 0x505 [0x37, 0, 1, 1, 0, 0, 16, 0])).br.fresh.visited, 0, 0, ((st (citan 0x505 [0x37, 0, 1, 1, 0, 0, 16, 0])).br.fresh.cmdOf 0 0), ⟨rfl, by decide +kernel, by decide +kernel, rfl, rfl, by decide +kernel, by decide +kernel⟩, by decide +kernel, ⟨rfl, .inl rfl⟩⟩

theorem wit_PlacementAndCancelCommands_0 :
    ∃ (s : State), ∃ (b : Bridge), ∃ (fn : Fin 256), ∃ (slot : Fin 8), ∃ (c : Cmd), CitanTakes s fn slot 0x302 .own b c ∧ (c.len = 12 ∧ (b.inst (c.u 16 1)).state = .live ∧ c.reserved 17 3 = none ∧ 1 ≤ c.u 24 4 ∧ c.u 24 4 ≤ 65536) :=
  ⟨st (citan 0x302 [0, 0, 0, 0, 0, 0, 0, 0, 0, 0, 1, 0]), (st (citan 0x302 [0, 0, 0, 0, 0, 0, 0, 0, 0, 0, 1, 0])).br.fresh.visited, 0, 0, ((st (citan 0x302 [0, 0, 0, 0, 0, 0, 0, 0, 0, 0, 1, 0])).br.fresh.cmdOf 0 0), ⟨rfl, by decide +kernel, by decide +kernel, rfl, rfl, by decide +kernel, by decide +kernel⟩, by decide +kernel⟩

theorem wit_PlacementAndCancelCommands_1 :
    ∃ (s : State), ∃ (b : Bridge), ∃ (fn : Fin 256), ∃ (slot : Fin 8), ∃ (c : Cmd), CitanTakes s fn slot 0x307 .manager b c ∧ (c.len = 1 ∧ c.u 16 1 < 16 ∧ b.chFenced (c.u 16 1) = false ∧ b.herderOn = true ∧ b.evacBusy (c.u 16 1) = false ∧ b.opBusy (65536 + c.u 16 1) = false) ∧ Journals b ∧ b.evacLeft (c.u 16 1) ≤ b.evacRoom (c.u 16 1) :=
  ⟨st (citan 0x307 [15] { herd := { running := true } }), (st (citan 0x307 [15] { herd := { running := true } })).br.fresh.visited, 0, 0, ((st (citan 0x307 [15] { herd := { running := true } })).br.fresh.cmdOf 0 0), ⟨rfl, by decide +kernel, by decide +kernel, rfl, rfl, by decide +kernel, by decide +kernel⟩, by decide +kernel, ⟨rfl, .inl rfl⟩, by decide +kernel⟩

theorem wit_PlacementAndCancelCommands_2 :
    ∃ (s : State), ∃ (b : Bridge), ∃ (fn : Fin 256), ∃ (slot : Fin 8), ∃ (c : Cmd), CitanTakes s fn slot 0x308 .manager b c ∧ (c.len = 1 ∧ c.u 16 1 < 16 ∧ (b.chan (c.u 16 1)).svc.state ≠ .evacuating ∧ (b.chan (c.u 16 1)).herd.evac = true) ∧ Journals b :=
  ⟨st (citan 0x308 [15] { ch := [(15, { herd := { evac := true } })] }), (st (citan 0x308 [15] { ch := [(15, { herd := { evac := true } })] })).br.fresh.visited, 0, 0, ((st (citan 0x308 [15] { ch := [(15, { herd := { evac := true } })] })).br.fresh.cmdOf 0 0), ⟨rfl, by decide +kernel, by decide +kernel, rfl, rfl, by decide +kernel, by decide +kernel⟩, by decide +kernel, ⟨rfl, .inl rfl⟩⟩

theorem wit_PlacementAndCancelCommands_3 :
    ∃ (s : State), ∃ (b : Bridge), ∃ (n : Fin 16), Live s b ∧ ((b.chan n).herd.evac = true ∧ b.evacLeft n = 0 ∧ (∀ o ∈ b.citan.ops, o.running = false)) :=
  ⟨st ({ ch := [(15, { herd := { evac := true } })] }), (st ({ ch := [(15, { herd := { evac := true } })] })).br.fresh, 15, ⟨rfl, rfl⟩, by decide +kernel⟩

theorem wit_PlacementAndCancelCommands_4 :
    ∃ (s : State), ∃ (b : Bridge), ∃ (fn : Fin 256), ∃ (slot : Fin 8), ∃ (c : Cmd), ∃ (o : Operation), CitanTakes s fn slot 0x708 .manager b c ∧ (c.len = 1 ∧ c.u 16 1 < 16 ∧ b.chFenced (c.u 16 1) = false ∧ (b.chan (c.u 16 1)).svc.admitted = true ∧ b.herderOn = true ∧ b.opBusy (65536 + c.u 16 1) = false) ∧ Journals b ∧ (b.startOp c (65536 + c.u 16 1) 0).opOn 0x708 (65536 + c.u 16 1) = some o ∧ (b.startOp c (65536 + c.u 16 1) 0).degradedOn (c.u 16 1) = 0 :=
  ⟨st (citan 0x708 [15] { herd := { running := true }, ch := [(15, { svc := { admitted := true } })] }), (st (citan 0x708 [15] { herd := { running := true }, ch := [(15, { svc := { admitted := true } })] })).br.fresh.visited, 0, 0, ((st (citan 0x708 [15] { herd := { running := true }, ch := [(15, { svc := { admitted := true } })] })).br.fresh.cmdOf 0 0), _, ⟨rfl, by decide +kernel, by decide +kernel, rfl, rfl, by decide +kernel, by decide +kernel⟩, by decide +kernel, ⟨rfl, .inl rfl⟩, rfl, by decide +kernel⟩

theorem wit_PlacementAndCancelCommands_5 :
    ∃ (s : State), ∃ (b : Bridge), ∃ (n : Fin 16), ∃ (i : Fin 256), ∃ (idx : Nat), ∃ (o : Operation), ∃ (e : SegEntry), Live s b ∧ b.opOn 0x708 (65536 + n) = some o ∧ (Tbl.find (i * 131072 + idx) b.ten.seg = some e ∧ e.valid = true ∧ e.mirrored = true ∧ e.degraded = true ∧ e.res.1 = n ∧ b.chFenced n = false ∧ b.chFenced e.alt.1 = false ∧ b.pendingOn (fun c => decide (c = .segRestored n i idx)) = false) :=
  ⟨st ({ citan := { ops := [{ fn := 0, tag := 0, op := 0x708, obj := 65551 }] }, ten := { seg := [(255 * 131072, lostSeg)] } }), (st ({ citan := { ops := [{ fn := 0, tag := 0, op := 0x708, obj := 65551 }] }, ten := { seg := [(255 * 131072, lostSeg)] } })).br.fresh, 15, 255, 0, _, lostSeg, ⟨rfl, rfl⟩, rfl, by decide +kernel⟩

theorem wit_PlacementAndCancelCommands_6 :
    ∃ (s : State), ∃ (b : Bridge), ∃ (b1 : Bridge), ∃ (fn : Fin 256), ∃ (slot : Fin 8), ∃ (c : Cmd), ∃ (st : Nat), ∃ (n : Nat), ∃ (left : Nat), CitanTakes s fn slot 0x401 .own b c ∧ (c.len = 8 ∧ (b.inst (c.u 16 1)).state = .live ∧ c.u 17 1 < (b.inst (c.u 16 1)).grant.rings ∧ (b.ring (c.u 16 1) (c.u 17 1)).recent (c.u 18 2) = true) ∧ b.cancelOne (c.u 16 1) (c.u 17 1) (c.u 18 2) (c.u 20 4) = (st, n, left, b1) ∧ st ≠ 2 :=
  ⟨st (citan 0x401 [0, 0, 0, 0, 0, 0, 0, 0] { scan := { ring := [(0, { enable := true, tail := 1 })], fetch := [(0, { fn := 0, ring := 0, index := 0, before := 0 })] } }), (st (citan 0x401 [0, 0, 0, 0, 0, 0, 0, 0] { scan := { ring := [(0, { enable := true, tail := 1 })], fetch := [(0, { fn := 0, ring := 0, index := 0, before := 0 })] } })).br.fresh.visited, _, 0, 0, ((citan 0x401 [0, 0, 0, 0, 0, 0, 0, 0] { scan := { ring := [(0, { enable := true, tail := 1 })], fetch := [(0, { fn := 0, ring := 0, index := 0, before := 0 })] } } : Bridge).cmdOf 0 0), 0, 0, 0, ⟨rfl, by decide +kernel, by decide +kernel, rfl, rfl, by decide +kernel, by decide +kernel⟩, by decide +kernel, rfl, by decide +kernel⟩

theorem wit_PlacementAndCancelCommands_7 :
    ∃ (s : State), ∃ (b : Bridge), ∃ (fn : Fin 256), ∃ (slot : Fin 8), ∃ (c : Cmd), CitanTakes s fn slot 0x402 .own b c ∧ (c.len = 4 ∧ (b.inst (c.u 16 1)).state = .live ∧ c.u 17 1 < (b.inst (c.u 16 1)).grant.rings ∧ c.reserved 18 2 = none) ∧ let mine := b.scan.job.filter (fun e => decide (e.2.fn = c.u 16 1 ∧ e.2.ring = c.u 17 1)); let r := mine.foldl (fun (a : Nat × Nat × Nat × Bridge) e => let (k, left, d) := a.2.2.2.cancelJob e.1; if k = 0 then (a.1, a.2.1, a.2.2.1 + left, a.2.2.2) else (a.1 + 1, a.2.1 + k, a.2.2.1 + left, d)) (0, 0, 0, b); r.1 = 0 :=
  ⟨st (citan 0x402 (params 4 [])), (st (citan 0x402 (params 4 []))).br.fresh.visited, 0, 0, ((st (citan 0x402 (params 4 []))).br.fresh.cmdOf 0 0), ⟨rfl, by decide +kernel, by decide +kernel, rfl, rfl, by decide +kernel, by decide +kernel⟩, by decide +kernel, by decide +kernel⟩

theorem wit_PlacementAndCancelCommands_8 :
    ∃ (s : State), ∃ (b : Bridge), ∃ (fn : Fin 256), ∃ (slot : Fin 8), ∃ (c : Cmd), CitanTakes s fn slot 0x402 .own b c ∧ (c.len = 4 ∧ (b.inst (c.u 16 1)).state = .live ∧ c.u 17 1 < (b.inst (c.u 16 1)).grant.rings ∧ c.reserved 18 2 = none) ∧ let mine := b.scan.job.filter (fun e => decide (e.2.fn = c.u 16 1 ∧ e.2.ring = c.u 17 1)); let r := mine.foldl (fun (a : Nat × Nat × Nat × Bridge) e => let (k, left, d) := a.2.2.2.cancelJob e.1; if k = 0 then (a.1, a.2.1, a.2.2.1 + left, a.2.2.2) else (a.1 + 1, a.2.1 + k, a.2.2.1 + left, d)) (0, 0, 0, b); r.1 ≠ 0 :=
  ⟨st (citan 0x402 (params 4 []) { scan := { job := [(0, { fn := 0, ring := 0, index := 0, desc := params 128 [], prog := [], set := [], rr := {}, runs := [(0, 0, 2)], total := 2 })] } }), (st (citan 0x402 (params 4 []) { scan := { job := [(0, { fn := 0, ring := 0, index := 0, desc := params 128 [], prog := [], set := [], rr := {}, runs := [(0, 0, 2)], total := 2 })] } })).br.fresh.visited, 0, 0, ((st (citan 0x402 (params 4 []) { scan := { job := [(0, { fn := 0, ring := 0, index := 0, desc := params 128 [], prog := [], set := [], rr := {}, runs := [(0, 0, 2)], total := 2 })] } })).br.fresh.cmdOf 0 0), ⟨rfl, by decide +kernel, by decide +kernel, rfl, rfl, by decide +kernel, by decide +kernel⟩, by decide +kernel, by decide +kernel⟩

theorem wit_FaultCommands_0 :
    ∃ (s : State), ∃ (b : Bridge), ∃ (fn : Fin 256), ∃ (slot : Fin 8), ∃ (c : Cmd), CitanTakes s fn slot 0x502 .manager b c ∧ (c.len = 4 ∧ c.u 19 1 < 2 ∧ b.unitFenced (c.u 16 1) (c.u 17 1) (c.u 18 1) = false ∧ (∀ o ∈ b.citan.ops, o.running = false) ∧ b.citan.waits = []) ∧ Journals b ∧ (c.u 16 1 = 4 ∧ c.u 17 1 < 5 ∧ c.u 18 1 = 0 ∧ 2 ≤ popCount b.glb.coreActive 5) :=
  ⟨st (citan 0x502 [4, 4, 0, 1]), (st (citan 0x502 [4, 4, 0, 1])).br.fresh.visited, 0, 0, ((st (citan 0x502 [4, 4, 0, 1])).br.fresh.cmdOf 0 0), ⟨rfl, by decide +kernel, by decide +kernel, rfl, rfl, by decide +kernel, by decide +kernel⟩, by decide +kernel, ⟨rfl, .inl rfl⟩, by decide +kernel⟩

theorem wit_FaultCommands_1 :
    ∃ (s : State), ∃ (b : Bridge), ∃ (fn : Fin 256), ∃ (slot : Fin 8), ∃ (c : Cmd), CitanTakes s fn slot 0x502 .manager b c ∧ (c.len = 4 ∧ c.u 19 1 < 2 ∧ b.unitFenced (c.u 16 1) (c.u 17 1) (c.u 18 1) = false ∧ (∀ o ∈ b.citan.ops, o.running = false) ∧ b.citan.waits = []) ∧ Journals b ∧ (c.u 16 1 = 5 ∧ c.u 17 1 < 16 ∧ c.u 18 1 < 16 ∧ c.u 18 1 % 8 < 5) :=
  ⟨st (citan 0x502 [5, 15, 12, 1]), (st (citan 0x502 [5, 15, 12, 1])).br.fresh.visited, 0, 0, ((st (citan 0x502 [5, 15, 12, 1])).br.fresh.cmdOf 0 0), ⟨rfl, by decide +kernel, by decide +kernel, rfl, rfl, by decide +kernel, by decide +kernel⟩, by decide +kernel, ⟨rfl, .inl rfl⟩, by decide +kernel⟩

theorem wit_FaultCommands_2 :
    ∃ (s : State), ∃ (b : Bridge), ∃ (fn : Fin 256), ∃ (slot : Fin 8), ∃ (c : Cmd), CitanTakes s fn slot 0x502 .manager b c ∧ (c.len = 4 ∧ c.u 19 1 < 2 ∧ b.unitFenced (c.u 16 1) (c.u 17 1) (c.u 18 1) = false ∧ (∀ o ∈ b.citan.ops, o.running = false) ∧ b.citan.waits = []) ∧ Journals b ∧ (c.u 16 1 = 1 ∧ c.u 17 1 < 16 ∧ c.u 18 1 = 0 ∧ (c.u 19 1 = 1 ∨ b.holdsPlain (c.u 17 1) = false)) :=
  ⟨st (citan 0x502 [1, 15, 0, 1]), (st (citan 0x502 [1, 15, 0, 1])).br.fresh.visited, 0, 0, ((st (citan 0x502 [1, 15, 0, 1])).br.fresh.cmdOf 0 0), ⟨rfl, by decide +kernel, by decide +kernel, rfl, rfl, by decide +kernel, by decide +kernel⟩, by decide +kernel, ⟨rfl, .inl rfl⟩, by decide +kernel⟩

theorem wit_FaultCommands_3 :
    ∃ (s : State), ∃ (b : Bridge), ∃ (n : Fin 16), ∃ (r : CmdRef), Live s b ∧ b.citan.waits = [(r, 2 ^ n.val)] ∧ r.op = 0x502 :=
  ⟨st ({ citan := { waits := [({ fn := 0, slot := 0, order := 0, op := 0x502, tag := 0 }, 2 ^ 15)] } }), (st ({ citan := { waits := [({ fn := 0, slot := 0, order := 0, op := 0x502, tag := 0 }, 2 ^ 15)] } })).br.fresh, 15, _, ⟨rfl, rfl⟩, rfl, rfl⟩

theorem wit_FaultCommands_4 :
    ∃ (s : State), ∃ (b : Bridge), ∃ (fn : Fin 256), ∃ (slot : Fin 8), ∃ (c : Cmd), CitanTakes s fn slot 0x503 .manager b c ∧ (c.len = 4 ∧ c.u 16 1 = 4 ∧ c.u 17 1 < 5 ∧ c.u 18 1 = 0 ∧ c.reserved 19 1 = none ∧ b.unitFenced 4 (c.u 17 1) 0 = true ∧ b.opBusy (unitObj 4 (c.u 17 1) 0) = false) ∧ Journals b :=
  ⟨st (citan 0x503 [4, 4, 0, 0] { glb := { coreFenced := 2 ^ 4 } }), (st (citan 0x503 [4, 4, 0, 0] { glb := { coreFenced := 2 ^ 4 } })).br.fresh.visited, 0, 0, ((st (citan 0x503 [4, 4, 0, 0] { glb := { coreFenced := 2 ^ 4 } })).br.fresh.cmdOf 0 0), ⟨rfl, by decide +kernel, by decide +kernel, rfl, rfl, by decide +kernel, by decide +kernel⟩, by decide +kernel, ⟨rfl, .inl rfl⟩⟩

theorem wit_FaultCommands_5 :
    ∃ (s : State), ∃ (b : Bridge), ∃ (fn : Fin 256), ∃ (slot : Fin 8), ∃ (c : Cmd), CitanTakes s fn slot 0x504 .manager b c ∧ (c.len = 9 ∧ 1 ≤ c.u 24 1 ∧ c.u 24 1 ≤ 6) :=
  ⟨st (citan 0x504 [0, 0, 0, 0, 0, 0, 0, 0, 6]), (st (citan 0x504 [0, 0, 0, 0, 0, 0, 0, 0, 6])).br.fresh.visited, 0, 0, ((st (citan 0x504 [0, 0, 0, 0, 0, 0, 0, 0, 6])).br.fresh.cmdOf 0 0), ⟨rfl, by decide +kernel, by decide +kernel, rfl, rfl, by decide +kernel, by decide +kernel⟩, by decide +kernel⟩

theorem wit_FaultCommands_6 :
    ∃ (s : State), ∃ (b : Bridge), ∃ (fn : Fin 256), ∃ (slot : Fin 8), ∃ (c : Cmd), CitanTakes s fn slot 0x506 .manager b c ∧ (c.len = 4 ∧ c.u 16 2 ≤ 0x37 ∧ c.u 18 1 ≠ 0xFF ∧ (faultKind (c.u 16 2) (c.u 18 1)).isSome = true ∧ c.reserved 19 1 = none) :=
  ⟨st (citan 0x506 [0x37, 0, 9, 0]), (st (citan 0x506 [0x37, 0, 9, 0])).br.fresh.visited, 0, 0, ((st (citan 0x506 [0x37, 0, 9, 0])).br.fresh.cmdOf 0 0), ⟨rfl, by decide +kernel, by decide +kernel, rfl, rfl, by decide +kernel, by decide +kernel⟩, by decide +kernel⟩

theorem wit_ProvisioningAndUpdateCommands_0 :
    ∃ (s : State), ∃ (b : Bridge), ∃ (fn : Fin 256), ∃ (slot : Fin 8), ∃ (c : Cmd), CitanTakes s fn slot 0x602 .manager b c ∧ (c.len = 2 ∧ c.u 16 2 < 128 ∧ b.fuses.marginal.getLsbD (c.u 16 2) = true) :=
  ⟨st (citan 0x602 [127, 0] { fuses := { marginal := BitVec.allOnes 128 } }), (st (citan 0x602 [127, 0] { fuses := { marginal := BitVec.allOnes 128 } })).br.fresh.visited, 0, 0, ((st (citan 0x602 [127, 0] { fuses := { marginal := BitVec.allOnes 128 } })).br.fresh.cmdOf 0 0), ⟨rfl, by decide +kernel, by decide +kernel, rfl, rfl, by decide +kernel, by decide +kernel⟩, by decide +kernel⟩

theorem wit_ProvisioningAndUpdateCommands_1 :
    ∃ (s : State), ∃ (b : Bridge), ∃ (fn : Fin 256), ∃ (slot : Fin 8), ∃ (c : Cmd), CitanTakes s fn slot 0x603 .manager b c ∧ (c.len = 8 + c.u 19 1 ∧ c.u 16 2 = b.knl.provision ∧ 1 ≤ c.u 19 1 ∧ c.u 19 1 ≤ 216 ∧ c.reserved 20 4 = none ∧ c.u 18 1 = 0) :=
  ⟨st (citan 0x603 (params 224 [0, 0, 0, 216])), (st (citan 0x603 (params 224 [0, 0, 0, 216]))).br.fresh.visited, 0, 0, ((st (citan 0x603 (params 224 [0, 0, 0, 216]))).br.fresh.cmdOf 0 0), ⟨rfl, by decide +kernel, by decide +kernel, rfl, rfl, by decide +kernel, by decide +kernel⟩, by decide +kernel⟩

theorem wit_ProvisioningAndUpdateCommands_2 :
    ∃ (s : State), ∃ (b : Bridge), ∃ (fn : Fin 256), ∃ (slot : Fin 8), ∃ (c : Cmd), ∃ (good : Bool), ∃ (img : ProvImage), CitanTakes s fn slot 0x603 .manager b c ∧ (c.len = 8 + c.u 19 1 ∧ c.u 16 2 = b.knl.provision ∧ 1 ≤ c.u 19 1 ∧ c.u 19 1 ≤ 216 ∧ c.reserved 20 4 = none ∧ c.u 18 1 = 1 ∧ good = true ∧ (b.modKnl (fun k => { k with provision := 0 })).sectionRefused img = false ∧ (img.kek.isSome = true → b.tamperSet = false ∧ b.knl.lost = false)) :=
  ⟨st (citan 0x603 (params 224 [0, 0, 1, 216])), (st (citan 0x603 (params 224 [0, 0, 1, 216]))).br.fresh.visited, 0, 0, ((st (citan 0x603 (params 224 [0, 0, 1, 216]))).br.fresh.cmdOf 0 0), true, { owner := some [] }, ⟨rfl, by decide +kernel, by decide +kernel, rfl, rfl, by decide +kernel, by decide +kernel⟩, by decide +kernel⟩

theorem wit_ProvisioningAndUpdateCommands_3 :
    ∃ (s : State), ∃ (b : Bridge), ∃ (fn : Fin 256), ∃ (slot : Fin 8), ∃ (c : Cmd), CitanTakes s fn slot 0xA05 .manager b c ∧ (c.len = 2 ∧ c.u 16 2 ≤ (b.fwSlot b.boot.slot).rollback ∧ b.rollback < c.u 16 2 ∧ c.u 16 2 ≤ 256) :=
  ⟨st (citan 0xA05 [0, 1] { boot := { slot := 1, slots := [(1, { rollback := 256 })] } }), (st (citan 0xA05 [0, 1] { boot := { slot := 1, slots := [(1, { rollback := 256 })] } })).br.fresh.visited, 0, 0, ((st (citan 0xA05 [0, 1] { boot := { slot := 1, slots := [(1, { rollback := 256 })] } })).br.fresh.cmdOf 0 0), ⟨rfl, by decide +kernel, by decide +kernel, rfl, rfl, by decide +kernel, by decide +kernel⟩, by decide +kernel⟩

theorem wit_ProvisioningAndUpdateCommands_4 :
    ∃ (s : State), ∃ (b : Bridge), ∃ (fn : Fin 256), ∃ (slot : Fin 8), ∃ (c : Cmd), CitanTakes s fn slot 0xA01 .manager b c ∧ (c.len = 8 ∧ (c.u 16 1 = 1 ∨ c.u 16 1 = 2) ∧ c.u 16 1 ≠ b.boot.slot ∧ c.reserved 17 3 = none ∧ 1 ≤ c.u 20 4 ∧ c.u 20 4 ≤ 31457280 ∧ c.u 20 4 ≤ b.slotSize ∧ b.boot.session = none ∧ b.opBusy (fwObj (c.u 16 1)) = false) :=
  ⟨st (citan 0xA01 [2, 0, 0, 0, 0, 0, 0xE0, 1]), (st (citan 0xA01 [2, 0, 0, 0, 0, 0, 0xE0, 1])).br.fresh.visited, 0, 0, ((st (citan 0xA01 [2, 0, 0, 0, 0, 0, 0xE0, 1])).br.fresh.cmdOf 0 0), ⟨rfl, by decide +kernel, by decide +kernel, rfl, rfl, by decide +kernel, by decide +kernel⟩, by decide +kernel⟩

theorem wit_ProvisioningAndUpdateCommands_5 :
    ∃ (s : State), ∃ (b : Bridge), ∃ (x : FwSession), ∃ (o : Operation), Live s b ∧ b.boot.session = some x ∧ x.erased = false ∧ (b.putSession (some { x with erased := true })).opOn 0xA01 (fwObj x.slot) = some o :=
  ⟨st ({ boot := { session := some { slot := 2, size := 8 } }, citan := { ops := [{ fn := 0, tag := 0, op := 0xA01, obj := fwObj 2 }] } }), (st ({ boot := { session := some { slot := 2, size := 8 } }, citan := { ops := [{ fn := 0, tag := 0, op := 0xA01, obj := fwObj 2 }] } })).br.fresh, _, _, ⟨rfl, rfl⟩, rfl, by decide +kernel, rfl⟩

theorem wit_ProvisioningAndUpdateCommands_6 :
    ∃ (s : State), ∃ (b : Bridge), ∃ (fn : Fin 256), ∃ (slot : Fin 8), ∃ (c : Cmd), ∃ (x : FwSession), CitanTakes s fn slot 0xA02 .manager b c ∧ c.len = 8 + c.u 20 2 ∧ b.boot.session = some x ∧ (c.u 16 4 % 8 = 0 ∧ c.u 16 4 < x.size ∧ x.overlaps (c.u 16 4) (c.u 16 4 + c.u 20 2) = false ∧ 1 ≤ c.u 20 2 ∧ c.u 20 2 ≤ 216 ∧ c.u 16 4 + c.u 20 2 ≤ x.size ∧ c.reserved 22 2 = none ∧ x.erased = true ∧ x.verifying = false) :=
  ⟨st (citan 0xA02 (params 224 [0, 0, 0, 0, 216]) { boot := { session := some { slot := 2, size := 31457280, erased := true } } }), (st (citan 0xA02 (params 224 [0, 0, 0, 0, 216]) { boot := { session := some { slot := 2, size := 31457280, erased := true } } })).br.fresh.visited, 0, 0, ((st (citan 0xA02 (params 224 [0, 0, 0, 0, 216]) { boot := { session := some { slot := 2, size := 31457280, erased := true } } })).br.fresh.cmdOf 0 0), _, ⟨rfl, by decide +kernel, by decide +kernel, rfl, rfl, by decide +kernel, by decide +kernel⟩, by decide +kernel, rfl, by decide +kernel⟩

theorem wit_ProvisioningAndUpdateCommands_7 :
    ∃ (s : State), ∃ (b : Bridge), ∃ (fn : Fin 256), ∃ (slot : Fin 8), ∃ (c : Cmd), ∃ (x : FwSession), CitanTakes s fn slot 0xA03 .manager b c ∧ c.len = 0 ∧ b.boot.session = some x ∧ (x.erased = true ∧ x.verifying = false ∧ b.opBusy (fwObj x.slot) = false) :=
  ⟨st (citan 0xA03 [] { boot := { session := some { slot := 2, size := 8, erased := true } } }), (st (citan 0xA03 [] { boot := { session := some { slot := 2, size := 8, erased := true } } })).br.fresh.visited, 0, 0, ((st (citan 0xA03 [] { boot := { session := some { slot := 2, size := 8, erased := true } } })).br.fresh.cmdOf 0 0), _, ⟨rfl, by decide +kernel, by decide +kernel, rfl, rfl, by decide +kernel, by decide +kernel⟩, by decide +kernel, rfl, by decide +kernel⟩

theorem wit_ProvisioningAndUpdateCommands_8 :
    ∃ (s : State), ∃ (b : Bridge), ∃ (x : FwSession), ∃ (o : Operation), ∃ (good : Bool), Live s b ∧ b.boot.session = some x ∧ x.verifying = true ∧ ((b.putSession none).modSlot x.slot (fun _ => x.verified good b)).opOn 0xA03 (fwObj x.slot) = some o :=
  ⟨st ({ boot := { session := some { slot := 2, size := 8, erased := true, verifying := true } }, citan := { ops := [{ fn := 0, tag := 0, op := 0xA03, obj := fwObj 2 }] } }), (st ({ boot := { session := some { slot := 2, size := 8, erased := true, verifying := true } }, citan := { ops := [{ fn := 0, tag := 0, op := 0xA03, obj := fwObj 2 }] } })).br.fresh, _, _, true, ⟨rfl, rfl⟩, rfl, by decide +kernel, rfl⟩

theorem wit_ProvisioningAndUpdateCommands_9 :
    ∃ (s : State), ∃ (b : Bridge), ∃ (fn : Fin 256), ∃ (slot : Fin 8), ∃ (c : Cmd), CitanTakes s fn slot 0xA04 .manager b c ∧ (c.len = 1 ∧ (c.u 16 1 = 1 ∨ c.u 16 1 = 2) ∧ (b.fwSlot (c.u 16 1)).state = 3) :=
  ⟨st (citan 0xA04 [2] { boot := { slots := [(2, { state := 3 })] } }), (st (citan 0xA04 [2] { boot := { slots := [(2, { state := 3 })] } })).br.fresh.visited, 0, 0, ((st (citan 0xA04 [2] { boot := { slots := [(2, { state := 3 })] } })).br.fresh.cmdOf 0 0), ⟨rfl, by decide +kernel, by decide +kernel, rfl, rfl, by decide +kernel, by decide +kernel⟩, by decide +kernel⟩

theorem wit_ProvisioningAndUpdateCommands_10 :
    ∃ (s : State), ∃ (b : Bridge), ∃ (fn : Fin 256), ∃ (slot : Fin 8), ∃ (c : Cmd), CitanTakes s fn slot 0xA06 .manager b c ∧ c.len = 0 :=
  ⟨st (citan 0xA06 []), (st (citan 0xA06 [])).br.fresh.visited, 0, 0, ((st (citan 0xA06 [])).br.fresh.cmdOf 0 0), ⟨rfl, by decide +kernel, by decide +kernel, rfl, rfl, by decide +kernel, by decide +kernel⟩, by decide +kernel⟩

theorem wit_SledPowerAndTelemetryCommands_0 :
    ∃ (s : State), ∃ (b : Bridge), ∃ (fn : Fin 256), ∃ (slot : Fin 8), ∃ (c : Cmd), CitanTakes s fn slot 0x701 .manager b c ∧ (c.len = 1 ∧ c.u 16 1 < 16) :=
  ⟨st (citan 0x701 [15]), (st (citan 0x701 [15])).br.fresh.visited, 0, 0, ((st (citan 0x701 [15])).br.fresh.cmdOf 0 0), ⟨rfl, by decide +kernel, by decide +kernel, rfl, rfl, by decide +kernel, by decide +kernel⟩, by decide +kernel⟩

theorem wit_SledPowerAndTelemetryCommands_1 :
    ∃ (s : State), ∃ (b : Bridge), ∃ (fn : Fin 256), ∃ (slot : Fin 8), ∃ (c : Cmd), CitanTakes s fn slot 0x702 .manager b c ∧ (c.len = 1 ∧ c.u 16 1 < 16 ∧ (b.chan (c.u 16 1)).svc.state = .admitted ∧ b.chFenced (c.u 16 1) = false ∧ b.herderOn = true ∧ b.evacBusy (c.u 16 1) = false ∧ b.opBusy (65536 + c.u 16 1) = false) ∧ Journals b :=
  ⟨st (citan 0x702 [15] { herd := { running := true }, ch := [(15, { svc := { state := .admitted } })] }), (st (citan 0x702 [15] { herd := { running := true }, ch := [(15, { svc := { state := .admitted } })] })).br.fresh.visited, 0, 0, ((st (citan 0x702 [15] { herd := { running := true }, ch := [(15, { svc := { state := .admitted } })] })).br.fresh.cmdOf 0 0), ⟨rfl, by decide +kernel, by decide +kernel, rfl, rfl, by decide +kernel, by decide +kernel⟩, by decide +kernel, ⟨rfl, .inl rfl⟩⟩

theorem wit_SledPowerAndTelemetryCommands_2 :
    ∃ (s : State), ∃ (b : Bridge), ∃ (fn : Fin 256), ∃ (slot : Fin 8), ∃ (c : Cmd), CitanTakes s fn slot 0x703 .manager b c ∧ (c.len = 1 ∧ c.u 16 1 < 16 ∧ (b.chan (c.u 16 1)).svc.state = .removeWait ∧ (b.chan (c.u 16 1)).herd.evac = false ∧ b.citan.prepared = []) :=
  ⟨st (citan 0x703 [15] { ch := [(15, { svc := { state := .removeWait } })] }), (st (citan 0x703 [15] { ch := [(15, { svc := { state := .removeWait } })] })).br.fresh.visited, 0, 0, ((st (citan 0x703 [15] { ch := [(15, { svc := { state := .removeWait } })] })).br.fresh.cmdOf 0 0), ⟨rfl, by decide +kernel, by decide +kernel, rfl, rfl, by decide +kernel, by decide +kernel⟩, by decide +kernel⟩

theorem wit_SledPowerAndTelemetryCommands_3 :
    ∃ (s : State), ∃ (b : Bridge), ∃ (fn : Fin 256), ∃ (slot : Fin 8), ∃ (c : Cmd), CitanTakes s fn slot 0x704 .manager b c ∧ (c.len = 1 ∧ c.u 16 1 < 16 ∧ (b.chan (c.u 16 1)).svc.state = .present ∧ b.opBusy (65536 + c.u 16 1) = false ∧ (b.phy (c.u 16 1)).testRate = none) ∧ Journals b :=
  ⟨st (citan 0x704 [15] { ch := [(15, { svc := { state := .present } })] }), (st (citan 0x704 [15] { ch := [(15, { svc := { state := .present } })] })).br.fresh.visited, 0, 0, ((st (citan 0x704 [15] { ch := [(15, { svc := { state := .present } })] })).br.fresh.cmdOf 0 0), ⟨rfl, by decide +kernel, by decide +kernel, rfl, rfl, by decide +kernel, by decide +kernel⟩, by decide +kernel, ⟨rfl, .inl rfl⟩⟩

theorem wit_SledPowerAndTelemetryCommands_4 :
    ∃ (s : State), ∃ (b : Bridge), ∃ (fn : Fin 256), ∃ (slot : Fin 8), ∃ (c : Cmd), CitanTakes s fn slot 0x705 .manager b c ∧ (c.len = 4 ∧ c.u 16 2 ≠ 0 ∧ c.u 18 1 ≤ 3 ∧ c.u 19 1 = 0) ∧ Journals b :=
  ⟨st (citan 0x705 [255, 255, 3, 0]), (st (citan 0x705 [255, 255, 3, 0])).br.fresh.visited, 0, 0, ((st (citan 0x705 [255, 255, 3, 0])).br.fresh.cmdOf 0 0), ⟨rfl, by decide +kernel, by decide +kernel, rfl, rfl, by decide +kernel, by decide +kernel⟩, by decide +kernel, ⟨rfl, .inl rfl⟩⟩

theorem wit_SledPowerAndTelemetryCommands_5 :
    ∃ (s : State), ∃ (b : Bridge), ∃ (fn : Fin 256), ∃ (slot : Fin 8), ∃ (c : Cmd), CitanTakes s fn slot 0x706 .manager b c ∧ (c.len = 6 ∧ c.u 16 2 ≠ 0 ∧ 2 ≤ c.u 18 1 ∧ c.u 18 1 ≤ 8 ∧ c.u 19 1 = 255 ∧ 10 ≤ c.u 20 2 ∧ c.u 20 2 ≤ 10000) ∧ Journals b :=
  ⟨st (citan 0x706 [255, 255, 8, 255, 0x10, 0x27]), (st (citan 0x706 [255, 255, 8, 255, 0x10, 0x27])).br.fresh.visited, 0, 0, ((st (citan 0x706 [255, 255, 8, 255, 0x10, 0x27])).br.fresh.cmdOf 0 0), ⟨rfl, by decide +kernel, by decide +kernel, rfl, rfl, by decide +kernel, by decide +kernel⟩, by decide +kernel, ⟨rfl, .inl rfl⟩⟩

theorem wit_SledPowerAndTelemetryCommands_6 :
    ∃ (s : State), ∃ (b : Bridge), ∃ (fn : Fin 256), ∃ (slot : Fin 8), ∃ (c : Cmd), CitanTakes s fn slot 0x707 .manager b c ∧ (c.len = 4 ∧ c.u 16 2 ≠ 0 ∧ c.reserved 18 2 = none ∧ (∀ n ∈ setBits (c.u 16 2) 16, (b.phy n).state = .down)) :=
  ⟨st (citan 0x707 [255, 255, 0, 0] { ch := (List.range 16).map (fun n => (n, { phy := { state := .down } })) }), (st (citan 0x707 [255, 255, 0, 0] { ch := (List.range 16).map (fun n => (n, { phy := { state := .down } })) })).br.fresh.visited, 0, 0, ((st (citan 0x707 [255, 255, 0, 0] { ch := (List.range 16).map (fun n => (n, { phy := { state := .down } })) })).br.fresh.cmdOf 0 0), ⟨rfl, by decide +kernel, by decide +kernel, rfl, rfl, by decide +kernel, by decide +kernel⟩, by decide +kernel⟩

theorem wit_SledPowerAndTelemetryCommands_7 :
    ∃ (s : State), ∃ (b : Bridge), ∃ (fn : Fin 256), ∃ (slot : Fin 8), ∃ (c : Cmd), CitanTakes s fn slot 0x801 .manager b c ∧ (c.len = 1 ∧ c.u 16 1 ≤ 1) :=
  ⟨st (citan 0x801 [1]), (st (citan 0x801 [1])).br.fresh.visited, 0, 0, ((st (citan 0x801 [1])).br.fresh.cmdOf 0 0), ⟨rfl, by decide +kernel, by decide +kernel, rfl, rfl, by decide +kernel, by decide +kernel⟩, by decide +kernel⟩

theorem wit_SledPowerAndTelemetryCommands_8 :
    ∃ (s : State), ∃ (b : Bridge), ∃ (fn : Fin 256), ∃ (slot : Fin 8), ∃ (c : Cmd), CitanTakes s fn slot 0x801 .manager b c ∧ (c.len = 1 ∧ c.u 16 1 = 2 ∧ b.icu.fenced = false ∧ b.dozeBusy = false) :=
  ⟨st (citan 0x801 [2]), (st (citan 0x801 [2])).br.fresh.visited, 0, 0, ((st (citan 0x801 [2])).br.fresh.cmdOf 0 0), ⟨rfl, by decide +kernel, by decide +kernel, rfl, rfl, by decide +kernel, by decide +kernel⟩, by decide +kernel⟩

theorem wit_SledPowerAndTelemetryCommands_9 :
    ∃ (s : State), ∃ (b : Bridge), ∃ (fn : Fin 256), ∃ (slot : Fin 8), ∃ (c : Cmd), CitanTakes s fn slot 0x802 .manager b c ∧ (c.len = 4 + 2 * c.u 16 1 ∧ c.u 16 1 ≤ 32 ∧ c.reserved 17 3 = none ∧ c.sourceCheck = none) :=
  ⟨st (citan 0x802 [1, 0, 0, 0, 0xFD, 3]), (st (citan 0x802 [1, 0, 0, 0, 0xFD, 3])).br.fresh.visited, 0, 0, ((st (citan 0x802 [1, 0, 0, 0, 0xFD, 3])).br.fresh.cmdOf 0 0), ⟨rfl, by decide +kernel, by decide +kernel, rfl, rfl, by decide +kernel, by decide +kernel⟩, by decide +kernel⟩

theorem wit_SledPowerAndTelemetryCommands_10 :
    ∃ (s : State), ∃ (b : Bridge), ∃ (fn : Fin 256), ∃ (slot : Fin 8), ∃ (c : Cmd), CitanTakes s fn slot 0x903 .manager b c ∧ (c.len = 2 ∧ c.u 16 2 ≤ 115) :=
  ⟨st (citan 0x903 [115, 0]), (st (citan 0x903 [115, 0])).br.fresh.visited, 0, 0, ((st (citan 0x903 [115, 0])).br.fresh.cmdOf 0 0), ⟨rfl, by decide +kernel, by decide +kernel, rfl, rfl, by decide +kernel, by decide +kernel⟩, by decide +kernel⟩

theorem wit_SledPowerAndTelemetryCommands_11 :
    ∃ (s : State), ∃ (b : Bridge), ∃ (fn : Fin 256), ∃ (slot : Fin 8), ∃ (c : Cmd), CitanTakes s fn slot 0x901 .manager b c ∧ c.len = 0 :=
  ⟨st (citan 0x901 []), (st (citan 0x901 [])).br.fresh.visited, 0, 0, ((st (citan 0x901 [])).br.fresh.cmdOf 0 0), ⟨rfl, by decide +kernel, by decide +kernel, rfl, rfl, by decide +kernel, by decide +kernel⟩, by decide +kernel⟩

theorem wit_SledPowerAndTelemetryCommands_12 :
    ∃ (s : State), ∃ (b : Bridge), ∃ (fn : Fin 256), ∃ (slot : Fin 8), ∃ (c : Cmd), CitanTakes s fn slot 0x902 .own b c ∧ (c.len = 1 ∧ (b.inst (c.u 16 1)).state ≠ .none) :=
  ⟨st (citan 0x902 [0]), (st (citan 0x902 [0])).br.fresh.visited, 0, 0, ((st (citan 0x902 [0])).br.fresh.cmdOf 0 0), ⟨rfl, by decide +kernel, by decide +kernel, rfl, rfl, by decide +kernel, by decide +kernel⟩, by decide +kernel⟩

theorem wit_SledPowerAndTelemetryCommands_13 :
    ∃ (s : State), ∃ (b : Bridge), Live s b :=
  ⟨st {}, (st {}).br.fresh, ⟨rfl, rfl⟩⟩

/-- A ready bridge with two admitted sleds and one extent of instance 0, on channel 0. -/
def placed (e : Tbl DirEntry := []) (d : Desc := { valid := true }) (quota avg : Nat := 0) (evac : Bool := false) : Bridge :=
  { glb := { level := 3 }
    ch := [(0, { svc := { state := .admitted, admitted := true, capGib := 4 }, ll := { state := .up }, herd := { inbAvg := avg, evac := evac } }),
      (1, { svc := { state := .admitted, admitted := true, capGib := 4 }, ll := { state := .up } })]
    herd := { running := true, frames := (1, 1), desc := [(0, d)], heat := if avg = 0 ∧ e = [] then [(0, 24)] else [], dir := e }
    ten := { inst := [(0, { state := .live, grant := { quota := quota } })], seg := [(0, { dlaSeg := 0, res := (0, 0), valid := true, inst := 0 })] }
    jrn := { copy := [(0, { state := 1 })] } }

/-- A channel on which a copy's source part runs. -/
def copies (c : Tbl Copy) : Bridge :=
  { ch := [(15, { sch := { running := [{ unit := { id := 5, cls := 5, inst := 0, kind := .copySrc 0 0 1 }, stride := 0 }] } })], herd := { copies := c } }

theorem wit_CxlMailbox_0 :
    ∃ (s : State), ∃ (b : Bridge), RegTakes s true 0 b ∧ b.port.cxl = true ∧ ∃ off, ∃ len, (off + len ≤ celLog.length ∧ off < 2 ^ 32 ∧ len < 2 ^ 32) :=
  ⟨st ({ hosted with port := { hosted.port with cxl := true } }), (st ({ hosted with port := { hosted.port with cxl := true } })).br.fresh.hostArrives, .inr ⟨by decide, ⟨⟨⟨rfl, rfl, rfl, rfl⟩, rfl⟩, by decide +kernel⟩, by decide +kernel⟩, by decide +kernel, 0, celLog.length, by decide +kernel⟩

theorem wit_CxlMailbox_1 :
    ∃ (s : State), ∃ (b : Bridge), RegTakes s true 0 b ∧ b.port.cxl = true ∧ ∃ (p : List Byte), p.length ≠ 24 :=
  ⟨st ({ hosted with port := { hosted.port with cxl := true } }), (st ({ hosted with port := { hosted.port with cxl := true } })).br.fresh.hostArrives, .inr ⟨by decide, ⟨⟨⟨rfl, rfl, rfl, rfl⟩, rfl⟩, by decide +kernel⟩, by decide +kernel⟩, by decide +kernel, [], by decide +kernel⟩

theorem wit_CxlMailbox_2 :
    ∃ (s : State), ∃ (b : Bridge), RegTakes s true 0 b ∧ b.port.cxl = true ∧ ∃ log, (log < 4 ∧ b.cxl.events.filter (fun e => decide (e.log = log)) = []) :=
  ⟨st ({ hosted with port := { hosted.port with cxl := true } }), (st ({ hosted with port := { hosted.port with cxl := true } })).br.fresh.hostArrives, .inr ⟨by decide, ⟨⟨⟨rfl, rfl, rfl, rfl⟩, rfl⟩, by decide +kernel⟩, by decide +kernel⟩, by decide +kernel, 3, by decide +kernel⟩

theorem wit_CxlMailbox_3 :
    ∃ (s : State), ∃ (b : Bridge), RegTakes s true 0 b ∧ b.port.cxl = true ∧ ∃ (p : List Byte), p.length = 4 :=
  ⟨st ({ hosted with port := { hosted.port with cxl := true } }), (st ({ hosted with port := { hosted.port with cxl := true } })).br.fresh.hostArrives, .inr ⟨by decide, ⟨⟨⟨rfl, rfl, rfl, rfl⟩, rfl⟩, by decide +kernel⟩, by decide +kernel⟩, by decide +kernel, List.replicate 4 0, by decide +kernel⟩

theorem wit_CxlMailbox_4 :
    ∃ (s : State), ∃ (b : Bridge), RegTakes s true 0 b ∧ b.port.cxl = true ∧ ∃ (p : List Byte), p.length = 8 :=
  ⟨st ({ hosted with port := { hosted.port with cxl := true } }), (st ({ hosted with port := { hosted.port with cxl := true } })).br.fresh.hostArrives, .inr ⟨by decide, ⟨⟨⟨rfl, rfl, rfl, rfl⟩, rfl⟩, by decide +kernel⟩, by decide +kernel⟩, by decide +kernel, List.replicate 8 0, by decide +kernel⟩

theorem wit_FaultSources_0 :
    ∃ (s : State), ∃ (b : Bridge), ∃ (k : Nat), ∃ (src : Fin 32), Live s b ∧ ¬(k < 16 ∧ src.val = 31 ∧ b.chFenced k = false) :=
  ⟨st ({ glb := { chFenced := 2 ^ 15 } }), (st ({ glb := { chFenced := 2 ^ 15 } })).br.fresh, 15, 31, ⟨rfl, rfl⟩, by decide +kernel⟩

theorem wit_FaultSources_1 :
    ∃ (s : State), ∃ (b : Bridge), ∃ (k : Nat), ∃ (src : Fin 32), Live s b ∧ b.leakDue k src = true :=
  ⟨st ({ glb := { time := 1536 * 2 ^ 20 }, faults := { block := [(0, { src := [(8, { level := 5 })] })] } }), (st ({ glb := { time := 1536 * 2 ^ 20 }, faults := { block := [(0, { src := [(8, { level := 5 })] })] } })).br.fresh, 0, 8, ⟨rfl, rfl⟩, by decide +kernel⟩

theorem wit_FaultSources_2 :
    ∃ (s : State), ∃ (b : Bridge), ∃ (k : Nat), ∃ (src : Fin 32), Live s b ∧ b.leakDue k src = false :=
  ⟨st ({ faults := { block := [(0, { src := [(8, { leakAt := 1 })] })] } }), (st ({ faults := { block := [(0, { src := [(8, { leakAt := 1 })] })] } })).br.fresh, 0, 8, ⟨rfl, rfl⟩, by decide +kernel⟩

theorem wit_FaultSources_3 :
    ∃ (s : State), ∃ (b : Bridge), Live s b ∧ (b.faults.pinEn = true ∧ b.faults.armed = true ∧ bitOf b.faults.due 2 = false) :=
  ⟨st {}, (st {}).br.fresh, ⟨rfl, rfl⟩, by decide +kernel⟩

theorem wit_FaultSources_4 :
    ∃ (s : State), s.br.pwr.pllSpare = true :=
  ⟨st {}, by decide +kernel⟩

theorem wit_FaultSources_5 :
    ∃ (s : State), s.br.pwr.pllSpare = false :=
  ⟨st ({ pwr := { pllSpare := false } }), by decide +kernel⟩

theorem wit_FaultSources_6 :
    ∃ (mv : Nat), (mv < 8192 ∧ 2400 ≤ mv) :=
  ⟨2400, by decide +kernel⟩

theorem wit_FaultSources_7 :
    ∃ (s : State), ∃ (mv : Nat), (mv < 8192 ∧ mv < 2400 ∧ s.br.knl.vbatLow = false) :=
  ⟨st {}, 2399, by decide +kernel⟩

theorem wit_FaultSources_8 :
    ∃ (s : State), ∃ (src : Fin 8), let d : Bridge := { s.br.fresh with knl := { s.br.knl with active := putBit s.br.knl.active src false } }; d.knl.active ≠ 0 :=
  ⟨st ({ knl := { active := 3 } }), 0, by decide +kernel⟩

theorem wit_FaultSources_9 :
    ∃ (s : State), ∃ (src : Fin 8), let d : Bridge := { s.br.fresh with knl := { s.br.knl with active := putBit s.br.knl.active src false } }; d.knl.active = 0 :=
  ⟨st ({ knl := { active := 64 } }), 6, by decide +kernel⟩

theorem wit_FaultSources_10 :
    ∃ (s : State), ∃ (b : Bridge), Live s b ∧ (b.fuses.valid = true ∧ b.fuses.due = true) :=
  ⟨st ({ fuses := { valid := true, due := true } }), (st ({ fuses := { valid := true, due := true } })).br.fresh, ⟨rfl, rfl⟩, by decide +kernel⟩

theorem wit_FaultSources_11 :
    ∃ (s : State), ∃ (b : Bridge), Live s b ∧ (b.fuses.valid = true ∧ b.fuses.due = false) :=
  ⟨st ({ fuses := { valid := true } }), (st ({ fuses := { valid := true } })).br.fresh, ⟨rfl, rfl⟩, by decide +kernel⟩

theorem wit_FaultSources_12 :
    ∃ (s : State), ∃ (b : Bridge), Live s b ∧ b.fuses.verifying = true :=
  ⟨st ({ fuses := { verifying := true } }), (st ({ fuses := { verifying := true } })).br.fresh, ⟨rfl, rfl⟩, by decide +kernel⟩

theorem wit_FaultSources_13 :
    ∃ (s : State), bitOf s.br.glb.sideFenced 2 = false :=
  ⟨st {}, by decide +kernel⟩

theorem wit_FaultSources_14 :
    ∃ (s : State), ∃ (src : Fin 8), (s.br.fresh.watches src = false ∨ bitOf s.br.knl.active src = true) :=
  ⟨st ({ knl := { active := 64 } }), 6, by decide +kernel⟩

theorem wit_FaultSources_15 :
    ∃ (s : State), ∃ (src : Fin 8), ∃ (detail : Nat), (s.br.fresh.watches src = true ∧ bitOf s.br.knl.active src = false ∧ src.val < 7 ∧ s.br.fresh.off = false ∧ s.br.glb.level ≠ 0 ∧ s.br.pwr.state ≠ 3) ∧ let d := ((s.br.fresh.modKnl (fun k => { k.logTamper s.br.glb.time src detail true with active := putBit k.active src true })).level 930 true).zeroiseKek.abortKeys; (d.off = false ∧ d.glb.level ≠ 0 ∧ d.pwr.state ≠ 3) :=
  ⟨st ({ glb := { level := 3 } }), 6, 0, by decide +kernel, by decide +kernel⟩

theorem wit_RepairsComplete_0 :
    ∃ (s : State), ∃ (b : Bridge), ∃ (k : Nat), ∃ (src : Fin 32), Live s b ∧ ((b.faults.source k src).severe = true ∧ (b.faults.source k src).sparing = true) :=
  ⟨st ({ faults := { block := [(55, { src := [(1, { severe := true, sparing := true })] })] } }), (st ({ faults := { block := [(55, { src := [(1, { severe := true, sparing := true })] })] } })).br.fresh, 55, 1, ⟨rfl, rfl⟩, by decide +kernel⟩

theorem wit_RepairsComplete_1 :
    ∃ (s : State), ∃ (b : Bridge), ∃ (n : Fin 16), ∃ (idx : Nat), ∃ (d : Desc), Live s b ∧ (Tbl.find (n * 2 ^ 22 + idx) b.herd.desc = some d ∧ d.state = 3) :=
  ⟨st ({ herd := { desc := [(15 * 2 ^ 22, { state := 3 })] } }), (st ({ herd := { desc := [(15 * 2 ^ 22, { state := 3 })] } })).br.fresh, 15, 0, { state := 3 }, ⟨rfl, rfl⟩, by decide +kernel⟩

theorem wit_RepairsComplete_2 :
    ∃ (s : State), ∃ (b : Bridge), ∃ (k : Fin 2), Live s b ∧ (bitOf b.glb.stackFenced k = true ∧ b.glb.stackFenced ≠ 3) :=
  ⟨st ({ glb := { stackFenced := 2 } }), (st ({ glb := { stackFenced := 2 } })).br.fresh, 1, ⟨rfl, rfl⟩, by decide +kernel⟩

theorem wit_HerderMovesAndCopies_0 :
    ∃ (s : State), ∃ (b : Bridge), ∃ (g : Nat), ∃ (key : Nat), ∃ (hc : Nat), ∃ (hg : Nat), ∃ (d : Desc), Live s b ∧ (b.descOn (b.resChOf g) (g / 512) = some (key, d) ∧ b.homeOf key d g = some (hc, hg) ∧ (b.herd.tune.promote ≤ b.heat g ∨ d.pinNear = true) ∧ d.keepFar = false ∧ (d.noMigrate = false ∨ d.pinNear = true) ∧ b.herderOn = true ∧ d.state ≠ 3 ∧ b.moving g = false ∧ (∀ e ∈ b.herd.dir, e.1 ≠ g) ∧ b.copyChan hc = true ∧ b.copyChan (b.resChOf g) = true ∧ b.chFenced (b.resChOf g) = false ∧ (b.chan hc).herd.evac = false ∧ (b.inst d.inst).grant.quota ≤ b.residentOf d.inst) :=
  ⟨st placed, (st placed).br.fresh, 0, 0, 0, 0, { valid := true }, ⟨rfl, rfl⟩, by decide +kernel⟩

theorem wit_HerderMovesAndCopies_1 :
    ∃ (s : State), ∃ (b : Bridge), ∃ (g : Nat), ∃ (frame : Nat), ∃ (key : Nat), ∃ (hc : Nat), ∃ (hg : Nat), ∃ (d : Desc), Live s b ∧ (b.descOn (b.resChOf g) (g / 512) = some (key, d) ∧ b.homeOf key d g = some (hc, hg) ∧ (b.herd.tune.promote ≤ b.heat g ∨ d.pinNear = true) ∧ d.keepFar = false ∧ (d.noMigrate = false ∨ d.pinNear = true) ∧ b.herderOn = true ∧ d.state ≠ 3 ∧ b.moving g = false ∧ (∀ e ∈ b.herd.dir, e.1 ≠ g) ∧ b.copyChan hc = true ∧ b.copyChan (b.resChOf g) = true ∧ b.chFenced (b.resChOf g) = false ∧ (b.chan hc).herd.evac = false ∧ b.residentOf d.inst < (b.inst d.inst).grant.quota ∧ b.frameFree frame = true ∧ frame / 2 ^ 24 = stackOf (b.resChOf g) ∧ b.copyRoom hc (b.resChOf g) = true) :=
  ⟨st (placed [] { valid := true } 1), (st (placed [] { valid := true } 1)).br.fresh, 0, 0, 0, 0, 0, { valid := true }, ⟨rfl, rfl⟩, by decide +kernel⟩

theorem wit_HerderMovesAndCopies_2 :
    ∃ (s : State), ∃ (b : Bridge), ∃ (g : Nat), ∃ (key : Nat), ∃ (e : DirEntry), ∃ (d : Desc), Live s b ∧ (Tbl.find g b.herd.dir = some e ∧ b.descOn e.resCh (g / 512) = some (key, d) ∧ e.state = .clean ∧ b.herderOn = true ∧ b.moving g = false ∧ b.mayDemote g e d = true) :=
  ⟨st (placed [(0, { frame := 0, inst := 0, resCh := 0, state := .clean })]), (st (placed [(0, { frame := 0, inst := 0, resCh := 0, state := .clean })])).br.fresh, 0, 0, { frame := 0, inst := 0, resCh := 0, state := .clean }, { valid := true }, ⟨rfl, rfl⟩, by decide +kernel⟩

theorem wit_HerderMovesAndCopies_3 :
    ∃ (s : State), ∃ (b : Bridge), ∃ (g : Nat), ∃ (key : Nat), ∃ (hc : Nat), ∃ (hg : Nat), ∃ (slot : Nat), ∃ (dc : Fin 16), ∃ (d : Desc), Live s b ∧ (b.descOn (b.resChOf g) (g / 512) = some (key, d) ∧ b.homeOf key d g = some (hc, hg) ∧ b.mayRelocate g dc slot d hc = true ∧ b.bucketFull (b.resChOf g) g = false ∧ b.herd.retireWait.find? (fun w => decide (w.1 = g)) = none ∧ (b.chan (b.homeCh (b.resChOf g) g)).herd.evac = false) :=
  ⟨st (placed [] { valid := true } 0 100), (st (placed [] { valid := true } 0 100)).br.fresh, 0, 0, 0, 0, 512, 1, { valid := true }, ⟨rfl, rfl⟩, by decide +kernel⟩

theorem wit_HerderMovesAndCopies_4 :
    ∃ (s : State), ∃ (b : Bridge), ∃ (g : Nat), ∃ (hc : Nat), ∃ (hg : Nat), ∃ (e : DirEntry), Live s b ∧ (Tbl.find g b.herd.dir = some e ∧ b.homeLoc e.resCh g = some (hc, hg) ∧ e.state = .dirty ∧ e.dirty ≠ 0 ∧ b.moving g = false ∧ b.copyChan hc = true ∧ (b.awake = true ∨ b.jrn.step ≠ 0) ∧ (e.leaving = true ∨ b.leaversFirst hc = false)) ∧ let ch := if b.chFenced e.resCh then hc else e.resCh; b.copyCounts ch hc = true :=
  ⟨st (placed [(0, { frame := 0, inst := 0, resCh := 0, state := .dirty, dirty := 1 })]), (st (placed [(0, { frame := 0, inst := 0, resCh := 0, state := .dirty, dirty := 1 })])).br.fresh, 0, 0, 0, { frame := 0, inst := 0, resCh := 0, state := .dirty, dirty := 1 }, ⟨rfl, rfl⟩, by decide +kernel, by decide +kernel⟩

theorem wit_HerderMovesAndCopies_5 :
    ∃ (s : State), ∃ (b : Bridge), ∃ (g : Nat), ∃ (key : Nat), ∃ (n : Nat), ∃ (hg : Nat), ∃ (ec : Nat), ∃ (ex : Nat), ∃ (d : Desc), Live s b ∧ (b.descOn (b.resChOf g) (g / 512) = some (key, d) ∧ b.homeOf key d g = some (n, hg) ∧ b.herderOn = true ∧ (b.chan n).herd.evac = true ∧ d.mirror = false ∧ b.moving g = false ∧ b.copyChan n = true ∧ d.state ≠ 3 ∧ b.frameAllows (b.resChOf g) g = true ∧ d.evac = some (ec, ex) ∧ b.copyChan ec = true ∧ b.moveRoom n ec = true ∧ (n, hg / 512) ≠ (ec, ex)) :=
  ⟨st (placed [] { valid := true, evac := some (1, 3) } 0 0 true), (st (placed [] { valid := true, evac := some (1, 3) } 0 0 true)).br.fresh, 0, 0, 0, 0, 1, 3, { valid := true, evac := some (1, 3) }, ⟨rfl, rfl⟩, by decide +kernel⟩

theorem wit_HerderMovesAndCopies_6 :
    ∃ (s : State), ∃ (b : Bridge), ∃ (n : Fin 16), ∃ (uid : Nat), ∃ (c : Nat), ∃ (first : Nat), ∃ (k : Nat), ∃ (r : Running), Live s b ∧ b.runningUnit n uid = some r ∧ r.unit.kind = .copySrc c first k ∧ Tbl.find c b.herd.copies = none :=
  ⟨st (copies []), (st (copies [])).br.fresh, 15, 5, 0, 0, 1, _, ⟨rfl, rfl⟩, rfl, rfl, by decide +kernel⟩

theorem wit_HerderMovesAndCopies_7 :
    ∃ (s : State), ∃ (b : Bridge), ∃ (n : Fin 16), ∃ (uid : Nat), ∃ (c : Nat), ∃ (first : Nat), ∃ (k : Nat), ∃ (r : Running), Live s b ∧ b.runningUnit n uid = some r ∧ r.unit.kind = .copySrc c first k ∧ ∃ x, ∃ dst, Tbl.find c b.herd.copies = some x ∧ (x.dst = dst ∧ dst.link.any b.chFenced = false ∧ (∀ p ∈ r.places, b.earlierOn r.seq p = false)) ∧ (∃ a g, x.src = .sled a g) ∧ r.await = [] :=
  ⟨st (copies [(0, { kind := .promotion, gran := 0, inst := 0, srcCh := 15, dstCh := 15, src := .sled 15 0, dst := .near 0 })]), (st (copies [(0, { kind := .promotion, gran := 0, inst := 0, srcCh := 15, dstCh := 15, src := .sled 15 0, dst := .near 0 })])).br.fresh, 15, 5, 0, 0, 1, _, ⟨rfl, rfl⟩, rfl, rfl, _, .near 0, rfl, by decide +kernel, ⟨_, _, rfl⟩, by decide +kernel⟩

theorem wit_JournalAndPowerLoss_0 :
    ∃ (s : State), ∃ (b : Bridge), Live s b ∧ b.jrn.ended = none :=
  ⟨st {}, (st {}).br.fresh, ⟨rfl, rfl⟩, by decide +kernel⟩

theorem wit_JournalAndPowerLoss_1 :
    ∃ (s : State), ∃ (b : Bridge), Live s b ∧ ((jrnRegion * 3 ≤ b.jrn.fill * 4 ∨ 2 ^ 24 ≤ b.stride - b.jrn.ckptStride) ∧ b.journalUp = true ∧ b.jrn.compacting = false ∧ b.awake = true) :=
  ⟨st ({ jrn := { copy := [(0, { state := 1 })], fill := jrnRegion } }), (st ({ jrn := { copy := [(0, { state := 1 })], fill := jrnRegion } })).br.fresh, ⟨rfl, rfl⟩, by decide +kernel⟩

theorem wit_JournalAndPowerLoss_2 :
    ∃ (s : State), ∃ (b : Bridge), Live s b ∧ (b.jrn.step = 0 ∧ b.jrn.compacting = true) :=
  ⟨st ({ jrn := { compacting := true } }), (st ({ jrn := { compacting := true } })).br.fresh, ⟨rfl, rfl⟩, by decide +kernel⟩

theorem wit_JournalAndPowerLoss_3 :
    ∃ (s : State), (s.br.pwr.por = true ∨ s.br.pwr.dead = true ∨ s.br.pwr.held = true ∨ s.br.jrn.step ≠ 0) :=
  ⟨st ({ pwr := { por := true } }), by decide +kernel⟩

theorem wit_JournalAndPowerLoss_4 :
    ∃ (s : State), (s.br.pwr.por = false ∧ s.br.pwr.dead = false ∧ s.br.pwr.held = false ∧ s.br.jrn.step = 0 ∧ s.br.pwr.state ≤ 2) :=
  ⟨st {}, by decide +kernel⟩

theorem wit_JournalAndPowerLoss_5 :
    ∃ (s : State), ∃ (b : Bridge), ∃ (n : Fin 16), Live s b ∧ ((b.jrn.step = 2 ∨ b.jrn.step = 3) ∧ b.chFenced n = false ∧ bitOf b.jrn.doneCh n = false ∧ b.plDrained n = true ∧ (b.plDirty n = false ∨ b.linkOpen n = false)) :=
  ⟨st ({ jrn := { step := 2 } }), (st ({ jrn := { step := 2 } })).br.fresh, 15, ⟨rfl, rfl⟩, by decide +kernel⟩

theorem wit_JournalAndPowerLoss_6 :
    ∃ (s : State), ∃ (b : Bridge), ∃ (b1 : Bridge), ∃ (n : Fin 16), ∃ (tag : Nat), Live s b ∧ (b.chan n).ll.state = .up ∧ b.takeMgmt n = (true, b1) ∧ (bitOf b1.jrn.saves n = true ∧ (tag + 1) % 256 = (b1.chan n).ll.nextTag % 256) :=
  ⟨st ({ ch := [(15, { ll := { state := .up, vc := [(1, { rxHdr := 1 })] } })], jrn := { saves := 2 ^ 15 } }), (st ({ ch := [(15, { ll := { state := .up, vc := [(1, { rxHdr := 1 })] } })], jrn := { saves := 2 ^ 15 } })).br.fresh, _, 15, 255, ⟨rfl, rfl⟩, by decide +kernel, pair_of (by decide +kernel), by decide +kernel⟩

theorem wit_JournalAndPowerLoss_7 :
    ∃ (s : State), ∃ (b : Bridge), Live s b ∧ (b.jrn.replaying = true ∧ b.pwr.keepMaps = true) :=
  ⟨st ({ jrn := { replaying := true }, pwr := { keepMaps := true } }), (st ({ jrn := { replaying := true }, pwr := { keepMaps := true } })).br.fresh, ⟨rfl, rfl⟩, by decide +kernel⟩

theorem wit_JournalAndPowerLoss_8 :
    ∃ (s : State), ∃ (b : Bridge), ∃ (bad : Nat), Live s b ∧ (b.jrn.replaying = true ∧ b.pwr.keepMaps = false) ∧ (b.image = none ∨ ∀ k ∈ [0, 1], b.copyReads k = false ∨ bitOf bad k = true) :=
  ⟨st ({ jrn := { replaying := true } }), (st ({ jrn := { replaying := true } })).br.fresh, 0, ⟨rfl, rfl⟩, by decide +kernel, .inl rfl⟩

/-- Channel 15 with a state of its lanes and of its link layer. -/
def chan15 (p : Phy) (l : Link := { state := .up }) : Bridge := { ch := [(15, { phy := p, ll := l, svc := { present := true } })] }

/-- The fields of a confirm set from the sled on lane 4. -/
def aSet : SetFields :=
  { lane := 4, chan := 0x8F, rates := 15, rate := 3, width := 4, outMap := 15, inMap := 30, rxOk := 63, preset := 7, round := 255, test := 1 }

/-- A training frame's control field. -/
def aFrame : FrameFields :=
  { lane := 4, rxReady := true, reqs := (1, 2, 0), preset := 5, stat := (0, 1, 2), fast := false, outMap := 15, inMap := 30, count := 15 }

/-- The groups of a SEQ flit without a message, on one lane. -/
def aBlock (seq : Nat) : List Nat := groupsOf false (flitBytes { kind := 1, seq := seq, ack := 4095, slots := [], wvc := 0 } [])

/-- A read of one line through channel 15 that waits. -/
def aRead (partner : Bool) : HostRead :=
  { fn := 0, inst := 0, cxl := false, tag := 0, addr := 4096, len := 64, lines := [{ ln := 64, ch := some 15, partner := partner }] }

theorem wit_LinkFormsReadBack_0 :
    ∃ (l : List Nat), (∀ x ∈ l, x < 256) :=
  ⟨[0, 255], by decide +kernel⟩

theorem wit_LinkFormsReadBack_1 :
    ∃ (l : List Nat), (l.length = 13 ∧ (∀ x ∈ l, x < 256)) :=
  ⟨[255, 254, 253, 252, 251, 250, 249, 248, 247, 246, 245, 244, 243], by decide +kernel⟩

theorem wit_LinkFormsReadBack_2 :
    ∃ (f : SetFields), (f.lane < 8 ∧ f.chan < 256 ∧ f.rates < 16 ∧ f.rate < 4 ∧ f.width < 8 ∧ f.outMap < 32 ∧ f.inMap < 32 ∧ f.rxOk < 64 ∧ f.preset < 8 ∧ f.round < 256 ∧ f.test < 8) :=
  ⟨aSet, by decide +kernel⟩

theorem wit_LinkFormsReadBack_3 :
    ∃ (f : FrameFields), (f.lane < 8 ∧ f.reqs.1 < 4 ∧ f.reqs.2.1 < 4 ∧ f.reqs.2.2 < 4 ∧ f.preset < 8 ∧ f.stat.1 < 4 ∧ f.stat.2.1 < 4 ∧ f.stat.2.2 < 4 ∧ f.outMap < 32 ∧ f.inMap < 32 ∧ f.count < 16) :=
  ⟨aFrame, by decide +kernel⟩

theorem wit_LinkFormsReadBack_4 :
    ∃ (h : FlitHead), ∃ (payload : List Nat), (h.kind < 4 ∧ h.seq < 4096 ∧ h.ack < 4096 ∧ h.slots.length = 15 ∧ (∀ x ∈ h.slots, x < 4) ∧ h.wvc < 8 ∧ (∀ x ∈ payload, x < 256)) :=
  ⟨{ kind := 3, seq := 4095, ack := 4095, slots := [1, 2, 2, 2, 2, 0, 3, 1, 2, 2, 2, 2, 0, 0, 3], wvc := 7 }, [255], by decide +kernel⟩

theorem wit_LanesTrain_0 :
    ∃ (s : State), ∃ (b : Bridge), ∃ (n : Fin 16), Live s b ∧ ((b.phy n).state = .disabled ∧ (b.chan n).svc.present = true) :=
  ⟨st (chan15 {}), (st (chan15 {})).br.fresh, 15, ⟨rfl, rfl⟩, by decide +kernel⟩

theorem wit_LanesTrain_1 :
    ∃ (s : State), ∃ (b : Bridge), ∃ (n : Fin 16), Live s b ∧ ((b.phy n).state = .detect ∧ 2 ≤ (lanes5.filter (fun j => !((b.phy n).ln j).los)).length) :=
  ⟨st (chan15 { state := .detect }), (st (chan15 { state := .detect })).br.fresh, 15, ⟨rfl, rfl⟩, by decide +kernel⟩

theorem wit_LanesTrain_2 :
    ∃ (s : State), ∃ (b : Bridge), ∃ (n : Fin 16), ∃ (k : Fin 5), Live s b ∧ ∃ com, ∃ id, ∃ rest, ∃ x, let gs := com :: id :: rest; (readFields .ofr gs = some x ∧ ((b.setIn n k .ofr gs).phy n).state = .sync) :=
  ⟨st (chan15 { state := .sync }), (st (chan15 { state := .sync })).br.fresh, 15, 4, ⟨rfl, rfl⟩, ((setGroups true .ofr aSet.bytes).getD 0 0), ((setGroups true .ofr aSet.bytes).getD 1 0), ((setGroups true .ofr aSet.bytes).drop 2), aSet, by decide +kernel⟩

theorem wit_LanesTrain_3 :
    ∃ (s : State), ∃ (b : Bridge), ∃ (n : Fin 16), ∃ (k : Fin 5), Live s b ∧ ∃ com, ∃ id, ∃ g₂, ∃ g₃, ∃ g₄, ∃ rest, ∃ x, let gs := com :: id :: g₂ :: g₃ :: g₄ :: rest; (readFields .cnf gs = some x ∧ x.loopLocked = true ∧ ((b.setIn n k .cnf gs).phy n).state = .confirm ∧ x.echoes ((b.setIn n k .cnf gs).setFields n k true) = true) :=
  ⟨st (chan15 { state := .confirm, outMap := 15, inMap := 30, nextRate := 3, test := 1 }), (st (chan15 { state := .confirm, outMap := 15, inMap := 30, nextRate := 3, test := 1 })).br.fresh, 15, 4, ⟨rfl, rfl⟩, ((setGroups false .cnf aSet.bytes).getD 0 0), ((setGroups false .cnf aSet.bytes).getD 1 0), ((setGroups false .cnf aSet.bytes).getD 2 0), ((setGroups false .cnf aSet.bytes).getD 3 0), ((setGroups false .cnf aSet.bytes).getD 4 0), ((setGroups false .cnf aSet.bytes).drop 5), aSet, by decide +kernel⟩

theorem wit_LanesTrain_4 :
    ∃ (s : State), ∃ (b : Bridge), ∃ (n : Fin 16), ∃ (k : Fin 5), Live s b ∧ ∃ gs, ∃ body, ((readSet .swt gs).1 = some body ∧ ((b.setIn n k .swt gs).phy n).state = .rateSwitch) :=
  ⟨st (chan15 { state := .rateSwitch }), (st (chan15 { state := .rateSwitch })).br.fresh, 15, 4, ⟨rfl, rfl⟩, setGroups false .swt (noticeBytes 3 4), noticeBytes 3 4, by decide +kernel⟩

theorem wit_LanesTrain_5 :
    ∃ (s : State), ∃ (b : Bridge), ∃ (n : Fin 16), Live s b ∧ ((b.phy n).state = .rateSwitch ∧ (b.phy n).idleDone = false ∧ 2 ≤ (b.phy n).nextRate) :=
  ⟨st (chan15 { state := .rateSwitch, nextRate := 2 }), (st (chan15 { state := .rateSwitch, nextRate := 2 })).br.fresh, 15, ⟨rfl, rfl⟩, by decide +kernel⟩

theorem wit_LanesTrain_6 :
    ∃ (s : State), ∃ (b : Bridge), ∃ (n : Fin 16), Live s b ∧ ∃ low, ∃ o, ∃ i, ∃ count, ∃ high, ∃ chk, ∃ x, (readFrame (frameControl low o i count high chk) = some x ∧ x.rxReady = true ∧ x.fast = false ∧ (b.phy n).state = .equalize ∧ 2 ≤ (b.phy n).rate) :=
  ⟨st (chan15 { state := .equalize, rate := 2 }), (st (chan15 { state := .equalize, rate := 2 })).br.fresh, 15, ⟨rfl, rfl⟩, (aFrame.word % 2 ^ 20), (aFrame.word / 2 ^ 20 % 2 ^ 5), (aFrame.word / 2 ^ 25 % 2 ^ 5), (aFrame.word / 2 ^ 30 % 2 ^ 4), (aFrame.word / 2 ^ 34 % 2 ^ 22), (aFrame.word / 2 ^ 56 % 2 ^ 8), aFrame, by decide +kernel⟩

theorem wit_LanesTrain_7 :
    ∃ (s : State), ∃ (b : Bridge), ∃ (n : Fin 16), ∃ (k : Fin 5), Live s b ∧ ∃ skew, ∃ (ppm : Int), ∃ mark, ∃ (c : Nat), (alignCarry (decide (2 ≤ (b.phy n).rate)) mark = some c ∧ (b.phy n).state = .align ∧ bitOf (b.phy n).inMap k = true ∧ skew ≤ 16 ∧ -20 ≤ ppm ∧ ppm ≤ 20) :=
  ⟨st (chan15 { state := .align, inMap := 16 }), (st (chan15 { state := .align, inMap := 16 })).br.fresh, 15, 4, ⟨rfl, rfl⟩, 16, -20, setGroups false .aln (alignBytes 4 15), 0, by decide +kernel⟩

theorem wit_LanesInService_0 :
    ∃ (s : State), ∃ (b : Bridge), ∃ (n : Fin 16), Live s b ∧ (b.phy n).state = .equalize :=
  ⟨st (chan15 { state := .equalize }), (st (chan15 { state := .equalize })).br.fresh, 15, ⟨rfl, rfl⟩, by decide +kernel⟩

theorem wit_LanesInService_1 :
    ∃ (s : State), ∃ (b : Bridge), ∃ (n : Fin 16), Live s b ∧ (b.phy n).state = .sync :=
  ⟨st (chan15 { state := .sync }), (st (chan15 { state := .sync })).br.fresh, 15, ⟨rfl, rfl⟩, by decide +kernel⟩

theorem wit_LanesInService_2 :
    ∃ (s : State), ∃ (b : Bridge), ∃ (n : Fin 16), ∃ (k : Fin 5), Live s b ∧ ((b.phy n).ln k).los = false :=
  ⟨st (chan15 {}), (st (chan15 {})).br.fresh, 15, 4, ⟨rfl, rfl⟩, by decide +kernel⟩

theorem wit_LanesInService_3 :
    ∃ (s : State), ∃ (b : Bridge), ∃ (n : Fin 16), ∃ (k : Fin 5), Live s b ∧ ((b.phy n).ln k).lol = false :=
  ⟨st (chan15 {}), (st (chan15 {})).br.fresh, 15, 4, ⟨rfl, rfl⟩, by decide +kernel⟩

theorem wit_LanesInService_4 :
    ∃ (s : State), ∃ (b : Bridge), ∃ (n : Fin 16), Live s b ∧ ((b.phy n).state = .fastRetrain ∧ (b.phy n).rateWait = false ∧ (b.phy n).allIn (b.phy n).inMap (fun l => decide ((if 2 ≤ (b.phy n).rate then 8 else 16) ≤ l.run)) = true) :=
  ⟨st (chan15 { state := .fastRetrain, inMap := 1, lane := [(0, { run := 16 })] }), (st (chan15 { state := .fastRetrain, inMap := 1, lane := [(0, { run := 16 })] })).br.fresh, 15, ⟨rfl, rfl⟩, by decide +kernel⟩

theorem wit_LanesInService_5 :
    ∃ (s : State), ∃ (b : Bridge), ∃ (n : Fin 16), Live s b ∧ ((b.phy n).state = .active ∨ (b.phy n).state = .eidle) :=
  ⟨st (chan15 { state := .eidle }), (st (chan15 { state := .eidle })).br.fresh, 15, ⟨rfl, rfl⟩, by decide +kernel⟩

theorem wit_LanesInService_6 :
    ∃ (s : State), ∃ (b : Bridge), ∃ (n : Fin 16), Live s b ∧ (b.phy n).state = .eidle :=
  ⟨st (chan15 { state := .eidle }), (st (chan15 { state := .eidle })).br.fresh, 15, ⟨rfl, rfl⟩, by decide +kernel⟩

theorem wit_LanesInService_7 :
    ∃ (s : State), ∃ (b : Bridge), ∃ (n : Fin 16), ∃ (k : Fin 5), Live s b ∧ ((b.phy n).state = .exit ∧ bitOf (b.phy n).inMap k = true ∧ ((b.phy n).ln k).aligned = false) :=
  ⟨st (chan15 { state := .exit, inMap := 16 }), (st (chan15 { state := .exit, inMap := 16 })).br.fresh, 15, 4, ⟨rfl, rfl⟩, by decide +kernel⟩

theorem wit_LanesInService_8 :
    ∃ (s : State), ∃ (b : Bridge), ∃ (n : Fin 16), ∃ (k : Fin 5), Live s b ∧ (b.phy n).checksPrbs k = true :=
  ⟨st (chan15 { state := .test, inMap := 16, testRate := some 3, lane := [(4, { prbsTest := 4 })] }), (st (chan15 { state := .test, inMap := 16, testRate := some 3, lane := [(4, { prbsTest := 4 })] })).br.fresh, 15, 4, ⟨rfl, rfl⟩, by decide +kernel⟩

set_option maxRecDepth 20000 in
theorem wit_FlitsReplaysAndCredits_0 :
    ∃ (s : State), ∃ (b : Bridge), ∃ (n : Fin 16), Live s b ∧ (b.chan n).ll.state = .up ∧ ∃ h₀, ∃ h₁, ∃ s₀, ∃ s₁, ∃ s₂, ∃ crc, ∃ parity, let r := b.blockIn n (h₀ ++ h₁ ++ s₀ ++ s₁ ++ s₂ ++ crc ++ parity); let e := b.blockTaken n r; let h := FlitHead.of r.flit; (r.bad = 0 ∧ h.kind = 1 ∧ slotsBad h r.flit = false ∧ (e.chan n).ll.state = .up ∧ (e.chan n).ll.ackValid h.ack = true ∧ h.seq = (e.chan n).ll.exp) :=
  ⟨st (chan15 { state := .active, inMap := 1 } { state := .up }), (st (chan15 { state := .active, inMap := 1 } { state := .up })).br.fresh, 15, ⟨rfl, rfl⟩, by decide +kernel, (((aBlock 0).drop 0).take 4), (((aBlock 0).drop 4).take 4), (((aBlock 0).drop 8).take 80), (((aBlock 0).drop 88).take 80), (((aBlock 0).drop 168).take 80), (((aBlock 0).drop 248).take 8), (((aBlock 0).drop 256).take 16), by decide +kernel⟩

set_option maxRecDepth 20000 in
theorem wit_FlitsReplaysAndCredits_1 :
    ∃ (s : State), ∃ (b : Bridge), ∃ (n : Fin 16), Live s b ∧ (b.chan n).ll.state = .up ∧ ∃ h₀, ∃ h₁, ∃ s₀, ∃ s₁, ∃ s₂, ∃ crc, ∃ parity, let r := b.blockIn n (h₀ ++ h₁ ++ s₀ ++ s₁ ++ s₂ ++ crc ++ parity); let e := b.blockTaken n r; let h := FlitHead.of r.flit; (r.bad = 0 ∧ h.kind = 1 ∧ slotsBad h r.flit = false ∧ (e.chan n).ll.state = .up ∧ (e.chan n).ll.ackValid h.ack = true ∧ h.seq ≠ (e.chan n).ll.exp ∧ 128 < ((e.chan n).ll.exp + 4096 - h.seq) % 4096) :=
  ⟨st (chan15 { state := .active, inMap := 1 } { state := .up }), (st (chan15 { state := .active, inMap := 1 } { state := .up })).br.fresh, 15, ⟨rfl, rfl⟩, by decide +kernel, (((aBlock 3967).drop 0).take 4), (((aBlock 3967).drop 4).take 4), (((aBlock 3967).drop 8).take 80), (((aBlock 3967).drop 88).take 80), (((aBlock 3967).drop 168).take 80), (((aBlock 3967).drop 248).take 8), (((aBlock 3967).drop 256).take 16), by decide +kernel⟩

theorem wit_FlitsReplaysAndCredits_2 :
    ∃ (s : State), ∃ (b : Bridge), ∃ (n : Fin 16), Live s b ∧ (b.chan n).ll.state = .up ∧ ∃ h₀, ∃ h₁, ∃ s₀, ∃ s₁, ∃ s₂, ∃ crc, ∃ parity, let r := b.blockIn n (h₀ ++ h₁ ++ s₀ ++ s₁ ++ s₂ ++ crc ++ parity); r.bad = 1 :=
  ⟨st (chan15 { state := .active, inMap := 1, rate := 2 } { state := .up }), (st (chan15 { state := .active, inMap := 1, rate := 2 } { state := .up })).br.fresh, 15, ⟨rfl, rfl⟩, by decide +kernel, (((List.range 272).drop 0).take 4), (((List.range 272).drop 4).take 4), (((List.range 272).drop 8).take 80), (((List.range 272).drop 88).take 80), (((List.range 272).drop 168).take 80), (((List.range 272).drop 248).take 8), (((List.range 272).drop 256).take 16), by decide +kernel⟩

theorem wit_FlitsReplaysAndCredits_3 :
    ∃ (s : State), ∃ (b : Bridge), ∃ (n : Fin 16), Live s b ∧ (b.chan n).ll.state = .up ∧ ∃ h₀, ∃ h₁, ∃ s₀, ∃ s₁, ∃ s₂, ∃ crc, ∃ parity, let r := b.blockIn n (h₀ ++ h₁ ++ s₀ ++ s₁ ++ s₂ ++ crc ++ parity); r.bad = 2 :=
  ⟨st (chan15 { state := .active, inMap := 1 } { state := .up }), (st (chan15 { state := .active, inMap := 1 } { state := .up })).br.fresh, 15, ⟨rfl, rfl⟩, by decide +kernel, (((List.replicate 256 0).drop 0).take 4), (((List.replicate 256 0).drop 4).take 4), (((List.replicate 256 0).drop 8).take 80), (((List.replicate 256 0).drop 88).take 80), (((List.replicate 256 0).drop 168).take 80), (((List.replicate 256 0).drop 248).take 8), (((List.replicate 256 0).drop 256).take 16), by decide +kernel⟩

theorem wit_FlitsReplaysAndCredits_4 :
    ∃ (s : State), ∃ (b : Bridge), ∃ (n : Fin 16), Live s b ∧ (b.chan n).ll.state = .up ∧ ∃ (exp : Nat), ((exp + 4096 - (b.chan n).ll.oldest) % 4096 ≤ ((b.chan n).ll.txNext + 4096 - (b.chan n).ll.oldest) % 4096 ∧ (b.chan n).ll.replayAt.2 = 0) :=
  ⟨st (chan15 {} { state := .up }), (st (chan15 {} { state := .up })).br.fresh, 15, ⟨rfl, rfl⟩, by decide +kernel, 0, by decide +kernel⟩

theorem wit_FlitsReplaysAndCredits_5 :
    ∃ (s : State), ∃ (b : Bridge), ∃ (n : Fin 16), Live s b ∧ ((b.chan n).ll.state = .up ∧ (b.chan n).ll.unacked ≠ [] ∧ (b.chan n).ll.replayAt.2 = 0) :=
  ⟨st (chan15 {} { state := .up, unacked := [(0, 1, .save 0)] }), (st (chan15 {} { state := .up, unacked := [(0, 1, .save 0)] })).br.fresh, 15, ⟨rfl, rfl⟩, by decide +kernel⟩

theorem wit_FlitsReplaysAndCredits_6 :
    ∃ (s : State), ∃ (b : Bridge), ∃ (n : Fin 16), Live s b ∧ ((b.chan n).ll.state = .up ∧ (b.chan n).ll.retrying = true) :=
  ⟨st (chan15 {} { state := .up, retrying := true }), (st (chan15 {} { state := .up, retrying := true })).br.fresh, 15, ⟨rfl, rfl⟩, by decide +kernel⟩

theorem wit_FlitsReplaysAndCredits_7 :
    ∃ (s : State), ∃ (b : Bridge), ∃ (n : Fin 16), Live s b ∧ (b.chan n).ll.state = .up ∧ ∃ (v : Fin 8), v.val ≠ 3 :=
  ⟨st (chan15 {} { state := .up }), (st (chan15 {} { state := .up })).br.fresh, 15, ⟨rfl, rfl⟩, by decide +kernel, 7, by decide +kernel⟩

theorem wit_FlitsReplaysAndCredits_8 :
    ∃ (s : State), ∃ (b : Bridge), ∃ (n : Fin 16), Live s b ∧ ((b.chan n).ll.state = .up ∧ (b.chan n).ll.count < 5) :=
  ⟨st (chan15 {} { state := .up, vcs := 3 }), (st (chan15 {} { state := .up, vcs := 3 })).br.fresh, 15, ⟨rfl, rfl⟩, by decide +kernel⟩

theorem wit_FlitsReplaysAndCredits_9 :
    ∃ (s : State), ∃ (b : Bridge), ∃ (n : Fin 16), Live s b ∧ ((b.chan n).ll.state = .up ∧ 5 ≤ (b.chan n).ll.count) :=
  ⟨st (chan15 {} { state := .up, vcs := 4 }), (st (chan15 {} { state := .up, vcs := 4 })).br.fresh, 15, ⟨rfl, rfl⟩, by decide +kernel⟩

theorem wit_FlitsReplaysAndCredits_10 :
    ∃ (s : State), ∃ (b : Bridge), ∃ (n : Fin 16), Live s b ∧ ((b.chan n).ll.state = .up ∧ 4 ≤ (b.chan n).ll.count) :=
  ⟨st (chan15 {} { state := .up, vcs := 3 }), (st (chan15 {} { state := .up, vcs := 3 })).br.fresh, 15, ⟨rfl, rfl⟩, by decide +kernel⟩

theorem wit_FlitsReplaysAndCredits_11 :
    ∃ (s : State), ∃ (b : Bridge), ∃ (n : Fin 16), Live s b ∧ ((b.chan n).ll.state = .up ∧ (b.chan n).ll.msyncDue = true ∧ (b.chan n).ll.nonce = none) :=
  ⟨st (chan15 {} { state := .up, msyncDue := true }), (st (chan15 {} { state := .up, msyncDue := true })).br.fresh, 15, ⟨rfl, rfl⟩, by decide +kernel⟩

theorem wit_FlitsReplaysAndCredits_12 :
    ∃ (s : State), ∃ (b : Bridge), ∃ (n : Fin 16), Live s b ∧ ((b.chan n).ll.state = .up ∧ (b.chan n).ll.msyncDue = false) :=
  ⟨st (chan15 {} { state := .up }), (st (chan15 {} { state := .up })).br.fresh, 15, ⟨rfl, rfl⟩, by decide +kernel⟩

theorem wit_FlitsReplaysAndCredits_13 :
    ∃ (s : State), ∃ (b : Bridge), ∃ (n : Fin 16), Live s b ∧ (b.chan n).ll.state = .up ∧ ∃ (x : Nat), (b.chan n).ll.nonce = some x ∧ (b.chan n).ll.msyncFails < 2 :=
  ⟨st (chan15 {} { state := .up, nonce := some 255, msyncFails := 1 }), (st (chan15 {} { state := .up, nonce := some 255, msyncFails := 1 })).br.fresh, 15, ⟨rfl, rfl⟩, by decide +kernel, _, rfl, by decide +kernel⟩

theorem wit_FlitsReplaysAndCredits_14 :
    ∃ (s : State), ∃ (b : Bridge), ∃ (n : Fin 16), Live s b ∧ (b.chan n).ll.state = .up ∧ ∃ (x : Nat), (b.chan n).ll.nonce = some x ∧ 2 ≤ (b.chan n).ll.msyncFails :=
  ⟨st (chan15 {} { state := .up, nonce := some 255, msyncFails := 2 }), (st (chan15 {} { state := .up, nonce := some 255, msyncFails := 2 })).br.fresh, 15, ⟨rfl, rfl⟩, by decide +kernel, _, rfl, by decide +kernel⟩

theorem wit_FlitsReplaysAndCredits_15 :
    ∃ (s : State), ∃ (b : Bridge), ∃ (n : Fin 16), Live s b ∧ (b.chan n).ll.state = .up ∧ ∃ (x : Nat), (b.chan n).ll.nonce = some x ∧ ∃ free, free < 256 :=
  ⟨st (chan15 {} { state := .up, nonce := some 255 }), (st (chan15 {} { state := .up, nonce := some 255 })).br.fresh, 15, ⟨rfl, rfl⟩, by decide +kernel, _, rfl, 255, by decide +kernel⟩

theorem wit_FlitsReplaysAndCredits_16 :
    ∃ (s : State), ∃ (b : Bridge), ∃ (n : Fin 16), Live s b ∧ ((b.chan n).ll.state = .up ∧ 4 ≤ (b.chan n).ll.count) :=
  ⟨st (chan15 {} { state := .up, vcs := 3 }), (st (chan15 {} { state := .up, vcs := 3 })).br.fresh, 15, ⟨rfl, rfl⟩, by decide +kernel⟩

theorem wit_SledMessages_0 :
    ∃ (s : State), ∃ (b : Bridge), ∃ (n : Fin 16), Live s b ∧ (b.chan n).ll.state = .up ∧ ∃ tag, ∃ idx, ∃ (status : Fin 4), ∃ b1, ∃ c, ∃ uid, ∃ off, ∃ (t : RdTag), (Tbl.find tag (b.chan n).ll.tags = some t ∧ idx < t.len ∧ bitOf t.got idx = false ∧ t.use = .unit c uid off) ∧ b.takeRx n (rspVc (b.chan n).ll.count t.vc) true = (true, b1) ∧ status = 0 :=
  ⟨st (chan15 {} { state := .up, vc := [(0, { rxHdr := 1, rxData := 1 }), (1, { rxHdr := 1, rxData := 1 }), (2, { rxHdr := 1, rxData := 1 })], tags := [(65535, { line := 0, len := 1, use := .unit 15 5 0 })] }), (st (chan15 {} { state := .up, vc := [(0, { rxHdr := 1, rxData := 1 }), (1, { rxHdr := 1, rxData := 1 }), (2, { rxHdr := 1, rxData := 1 })], tags := [(65535, { line := 0, len := 1, use := .unit 15 5 0 })] })).br.fresh, 15, ⟨rfl, rfl⟩, by decide +kernel, 65535, 0, 0, _, 15, 5, 0, { line := 0, len := 1, use := .unit 15 5 0 }, by decide +kernel, pair_of (by decide +kernel), by decide +kernel⟩

theorem wit_SledMessages_1 :
    ∃ (s : State), ∃ (b : Bridge), ∃ (n : Fin 16), Live s b ∧ (b.chan n).ll.state = .up ∧ ∃ tag, ∃ idx, ∃ (status : Fin 4), ∃ b1, ∃ c, ∃ uid, ∃ off, ∃ (t : RdTag), (Tbl.find tag (b.chan n).ll.tags = some t ∧ idx < t.len ∧ bitOf t.got idx = false ∧ t.use = .unit c uid off) ∧ b.takeRx n (rspVc (b.chan n).ll.count t.vc) true = (true, b1) ∧ status ≠ 0 :=
  ⟨st (chan15 {} { state := .up, vc := [(0, { rxHdr := 1, rxData := 1 }), (1, { rxHdr := 1, rxData := 1 }), (2, { rxHdr := 1, rxData := 1 })], tags := [(65535, { line := 0, len := 1, use := .unit 15 5 0 })] }), (st (chan15 {} { state := .up, vc := [(0, { rxHdr := 1, rxData := 1 }), (1, { rxHdr := 1, rxData := 1 }), (2, { rxHdr := 1, rxData := 1 })], tags := [(65535, { line := 0, len := 1, use := .unit 15 5 0 })] })).br.fresh, 15, ⟨rfl, rfl⟩, by decide +kernel, 65535, 0, 3, _, 15, 5, 0, { line := 0, len := 1, use := .unit 15 5 0 }, by decide +kernel, pair_of (by decide +kernel), by decide +kernel⟩

theorem wit_SledMessages_2 :
    ∃ (s : State), ∃ (b : Bridge), ∃ (n : Fin 16), Live s b ∧ (b.chan n).ll.state = .up ∧ ∃ tag, Tbl.find tag (b.chan n).ll.tags = none :=
  ⟨st (chan15 {} { state := .up }), (st (chan15 {} { state := .up })).br.fresh, 15, ⟨rfl, rfl⟩, by decide +kernel, 65535, by decide +kernel⟩

theorem wit_SledMessages_3 :
    ∃ (s : State), ∃ (b : Bridge), ∃ (n : Fin 16), Live s b ∧ (b.chan n).ll.state = .up ∧ ∃ b1, b.takeMgmt n = (true, b1) ∧ ∃ code, code ≠ 5 :=
  ⟨st (chan15 {} { state := .up, vc := [(0, { rxHdr := 1, rxData := 1 }), (1, { rxHdr := 1, rxData := 1 }), (2, { rxHdr := 1, rxData := 1 })] }), (st (chan15 {} { state := .up, vc := [(0, { rxHdr := 1, rxData := 1 }), (1, { rxHdr := 1, rxData := 1 }), (2, { rxHdr := 1, rxData := 1 })] })).br.fresh, 15, ⟨rfl, rfl⟩, by decide +kernel, _, pair_of (by decide +kernel), 0, by decide +kernel⟩

theorem wit_LinkInitialises_0 :
    ∃ (s : State), ∃ (b : Bridge), ∃ (n : Fin 16), Live s b ∧ (b.chan n).ll.state = .init ∧ ∃ vcs, ∃ rev, (rev / 256 = 1 ∧ 4 ≤ vcs) :=
  ⟨st (chan15 {} { state := .init }), (st (chan15 {} { state := .init })).br.fresh, 15, ⟨rfl, rfl⟩, by decide +kernel, 4, 256, by decide +kernel⟩

theorem wit_LinkInitialises_1 :
    ∃ (s : State), ∃ (b : Bridge), ∃ (n : Fin 16), Live s b ∧ (b.chan n).ll.state = .init ∧ ∃ capGib, (1 ≤ capGib ∧ capGib ≤ 8192) :=
  ⟨st (chan15 {} { state := .init }), (st (chan15 {} { state := .init })).br.fresh, 15, ⟨rfl, rfl⟩, by decide +kernel, 8192, by decide +kernel⟩

theorem wit_LinkInitialises_2 :
    ∃ (s : State), ∃ (b : Bridge), ∃ (n : Fin 16), Live s b ∧ (b.chan n).ll.state = .init ∧ ∃ hdr, ∃ data, ((b.chan n).ll.resumeOffered = false ∧ hdr < 65536 ∧ data < 65536) :=
  ⟨st (chan15 {} { state := .init }), (st (chan15 {} { state := .init })).br.fresh, 15, ⟨rfl, rfl⟩, by decide +kernel, 65535, 65535, by decide +kernel⟩

theorem wit_LinkPowerAndSpeed_0 :
    ∃ (s : State), ∃ (b : Bridge), ∃ (n : Fin 16), Live s b ∧ ((b.chan n).ll.state = .up ∧ (b.chan n).ll.unacked = [] ∧ (b.chan n).ll.tags = [] ∧ (b.chan n).ll.txq = [] ∧ b.linkWork n = false ∧ (b.chan n).ll.pmSent = false) ∧ (b.pwr.state = 2 ∨ (b.chan n).ll.idleEn = true) :=
  ⟨st (chan15 {} { state := .up, idleEn := true }), (st (chan15 {} { state := .up, idleEn := true })).br.fresh, 15, ⟨rfl, rfl⟩, by decide +kernel, .inr (by decide +kernel)⟩

theorem wit_LinkPowerAndSpeed_1 :
    ∃ (s : State), ∃ (b : Bridge), ∃ (n : Fin 16), Live s b ∧ ((b.chan n).ll.pmSent = true ∧ (b.chan n).ll.state = .up ∧ (b.phy n).state = .active) :=
  ⟨st (chan15 { state := .active } { state := .up, pmSent := true }), (st (chan15 { state := .active } { state := .up, pmSent := true })).br.fresh, 15, ⟨rfl, rfl⟩, by decide +kernel⟩

theorem wit_LinkPowerAndSpeed_2 :
    ∃ (s : State), ∃ (b : Bridge), ∃ (n : Fin 16), Live s b ∧ ∃ r, ((b.phy n).bestRate = some r ∧ (b.chan n).ll.state = .up ∧ (b.phy n).state = .active ∧ (b.chan n).ll.rateReq = none ∧ r ≠ (b.phy n).rate) :=
  ⟨st (chan15 { state := .active, sledRates := 8 }), (st (chan15 { state := .active, sledRates := 8 })).br.fresh, 15, ⟨rfl, rfl⟩, 3, by decide +kernel⟩

theorem wit_LinkPowerAndSpeed_3 :
    ∃ (s : State), ∃ (b : Bridge), ∃ (n : Fin 16), Live s b ∧ ∃ r, ((b.chan n).ll.rateReq = some r ∧ (b.phy n).state = .active) :=
  ⟨st (chan15 { state := .active } { state := .paused, rateReq := some 3 }), (st (chan15 { state := .active } { state := .paused, rateReq := some 3 })).br.fresh, 15, ⟨rfl, rfl⟩, 3, by decide +kernel⟩

theorem wit_LinkPowerAndSpeed_4 :
    ∃ (s : State), ∃ (b : Bridge), ∃ (n : Fin 16), Live s b ∧ ∃ r, ((b.chan n).ll.rateReq = some r ∧ (b.phy n).state = .fastRetrain) :=
  ⟨st (chan15 { state := .fastRetrain } { state := .paused, rateReq := some 3 }), (st (chan15 { state := .fastRetrain } { state := .paused, rateReq := some 3 })).br.fresh, 15, ⟨rfl, rfl⟩, 3, by decide +kernel⟩

theorem wit_LinkPowerAndSpeed_5 :
    ∃ (s : State), ∃ (b : Bridge), ∃ (n : Fin 16), Live s b ∧ ((b.chan n).ll.state = .paused ∧ (b.chan n).ll.rateReq.isSome = true) :=
  ⟨st (chan15 {} { state := .paused, rateReq := some 3 }), (st (chan15 {} { state := .paused, rateReq := some 3 })).br.fresh, 15, ⟨rfl, rfl⟩, by decide +kernel⟩

theorem wit_LinkLoss_0 :
    ∃ (s : State), ∃ (b : Bridge), Live s b ∧ ∃ (n : Fin 16), (b.chan n).ll.state = .up :=
  ⟨st (chan15 {} { state := .up }), (st (chan15 {} { state := .up })).br.fresh, ⟨rfl, rfl⟩, 15, by decide +kernel⟩

theorem wit_LinkLoss_1 :
    ∃ (s : State), ∃ (b : Bridge), Live s b ∧ ∃ (n : Fin 16), ((b.chan n).ll.state = .grace ∧ (b.chan n).ll.hold = false) :=
  ⟨st (chan15 {} { state := .grace }), (st (chan15 {} { state := .grace })).br.fresh, ⟨rfl, rfl⟩, 15, by decide +kernel⟩

theorem wit_LinkLoss_2 :
    ∃ (s : State), ∃ (b : Bridge), Live s b ∧ ∃ (n : Fin 16), ((b.chan n).ll.state = .grace ∧ (b.chan n).ll.hold = true) :=
  ⟨st (chan15 {} { state := .grace, hold := true }), (st (chan15 {} { state := .grace, hold := true })).br.fresh, ⟨rfl, rfl⟩, 15, by decide +kernel⟩

theorem wit_LinkLoss_3 :
    ∃ (s : State), ∃ (b : Bridge), Live s b ∧ ∃ (n : Fin 16), ((b.chan n).ll.state = .flush ∧ (b.chan n).ll.hold = true ∧ (b.chan n).ll.flushFromInit = false) :=
  ⟨st (chan15 {} { state := .flush, hold := true }), (st (chan15 {} { state := .flush, hold := true })).br.fresh, ⟨rfl, rfl⟩, 15, by decide +kernel⟩

theorem wit_LinkLoss_4 :
    ∃ (s : State), ∃ (b : Bridge), Live s b ∧ ∃ rid, ∃ (idx : Nat), ∃ r, ∃ (l : RdLine), ∃ ch, ∃ c, (b.read rid = some r ∧ r.lines[idx]? = some l ∧ l.ch = some ch ∧ l.done = none ∧ l.partner = false ∧ b.exposed r.inst ch l = true ∧ b.partnerOf ch l.ln = some c) :=
  ⟨st ({ glb := { chFenced := 2 ^ 15 }, port := { reads := [(0, aRead false)] }, ten := { seg := [(0, { dlaSeg := 0, res := (15, 0), alt := (14, 0), mirrored := true, valid := true, inst := 0 })] } }), (st ({ glb := { chFenced := 2 ^ 15 }, port := { reads := [(0, aRead false)] }, ten := { seg := [(0, { dlaSeg := 0, res := (15, 0), alt := (14, 0), mirrored := true, valid := true, inst := 0 })] } })).br.fresh, ⟨rfl, rfl⟩, 0, 0, aRead false, { ln := 64, ch := some 15 }, 15, 14, by decide +kernel⟩

theorem wit_LinkLoss_5 :
    ∃ (s : State), ∃ (b : Bridge), Live s b ∧ ∃ rid, ∃ (idx : Nat), ∃ r, ∃ (l : RdLine), ∃ ch, (b.read rid = some r ∧ r.lines[idx]? = some l ∧ l.ch = some ch ∧ l.done = none ∧ b.exposed r.inst ch l = true ∧ (l.partner = true ∨ b.partnerOf ch l.ln = none)) :=
  ⟨st ({ glb := { chFenced := 2 ^ 15 }, port := { reads := [(0, aRead true)] } }), (st ({ glb := { chFenced := 2 ^ 15 }, port := { reads := [(0, aRead true)] } })).br.fresh, ⟨rfl, rfl⟩, 0, 0, aRead true, { ln := 64, ch := some 15, partner := true }, 15, by decide +kernel⟩

theorem wit_LinkLoss_6 :
    ∃ (s : State), ∃ (b : Bridge), Live s b ∧ ∃ (n : Fin 16), ∃ ln, ∃ e, ∃ c, ∃ x, ∃ g, ((b.chan n).acc.openEntry ln = some e ∧ b.place n e.inst ln = .at (.sled c x) ∧ e.offered = true ∧ ((b.chan n).acc.wcb.any (fun x => decide (x.ln = ln) && x.sealed)) = false ∧ b.locFenced n (.sled c 0) = false ∧ b.linkBad c = true) ∧ let e1 := b.sealEntry n ln (b.poisonDue ln (.sled c x)); (e1.chan n).acc.sealedEntry ln = some g ∧ ∃ d, e1.toGrace c n g = (false, d) :=
  ⟨st ({ ch := [(15, { acc := { wcb := [{ ln := 64, inst := 0, offered := true }] } })], herd := { desc := [(15 * 2 ^ 22, { valid := true, home := (14, 3) })] } }), (st ({ ch := [(15, { acc := { wcb := [{ ln := 64, inst := 0, offered := true }] } })], herd := { desc := [(15 * 2 ^ 22, { valid := true, home := (14, 3) })] } })).br.fresh, ⟨rfl, rfl⟩, 15, 64, { ln := 64, inst := 0, offered := true }, 14, 1537, { ln := 64, inst := 0, offered := true, sealed := true }, by decide +kernel, by decide +kernel, _, pair_of (by decide +kernel)⟩

/-- Sled position 15 in a state. -/
def sled (x : Service) (level : Nat := 2) : Bridge := { glb := { level := level }, ch := [(15, { svc := x })], herd := { running := true } }

/-- A descriptor: the first extent, in rows of 8 bytes, of which all qualify. -/
def scanDesc : List Byte := leBytes 16 1 ++ leBytes 8 0x200000 ++ leBytes 8 0 ++ leBytes 2 8 ++ leBytes 94 0

/-- A job of that descriptor. -/
def aJob : Job := { fn := 0, ring := 0, index := 0, desc := scanDesc, prog := List.replicate 64 0, set := [] }

/-- A ready bridge with a job, with the segment it scans, and with a piece of it queued and another on lane 4. -/
def scans (j : Job) (valid : Bool := true) (active : Nat := 0x0F) (x : Piece := { job := 3, ord := 0, ext := 0, backed := true, dla := 0, near := false })
    (rows : Nat := 0) : Bridge :=
  { glb := { level := 3, time := 1536 }
    scan := { job := [(3, j)], nextId := 4 }
    herd := { running := true, desc := [(0, { valid := true })] }
    port := { fn := [(0, { bme := true })] }
    ten := { inst := [(0, { state := .live, grant := { plain := 512 } })], seg := [(0, { dlaSeg := 0, res := (0, 0), valid := valid, inst := 0 })] }
    ch := [(0, { rtv := { active := active, farQ := [x], lane := [(4, x)], parked := [x], work := [(4, (1, (0, rows)))] } })] }

/-- Every granule of the first extent, resident. -/
def allNear : Tbl DirEntry := (List.range 512).map (fun g => (g, { frame := g, inst := 0, resCh := 0, state := .clean }))

/-- The same bridge with the job's descriptor being fetched. -/
def fetching (f : Fetch) : Bridge := { scans aJob with scan := { fetch := [(3, f)] } }

theorem wit_PowerAndReset_0 :
    ∃ (s : State), (s.br.pwr.started = false ∧ s.br.pwr.dead = false) :=
  ⟨st {}, by decide +kernel⟩

theorem wit_PowerAndReset_1 :
    ∃ (s : State), (s.br.pwr.perstLow = false ∧ s.br.pwr.por = false ∧ s.br.pwr.dead = false ∧ s.br.pwr.started = true ∧ s.br.jrn.step ≠ 0 ∧ s.br.pwr.held = false) :=
  ⟨st ({ pwr := { started := true }, jrn := { step := 2 } }), by decide +kernel⟩

theorem wit_PowerAndReset_2 :
    ∃ (s : State), (s.br.pwr.perstLow = false ∧ s.br.pwr.por = false ∧ s.br.pwr.dead = false ∧ s.br.pwr.started = true ∧ s.br.jrn.step = 0 ∧ s.br.pwr.state = 3) :=
  ⟨st ({ pwr := { started := true, state := 3 } }), by decide +kernel⟩

theorem wit_PowerAndReset_3 :
    ∃ (s : State), (s.br.pwr.perstLow = false ∧ s.br.pwr.por = false ∧ s.br.pwr.dead = false ∧ s.br.pwr.started = true ∧ s.br.jrn.step = 0 ∧ s.br.pwr.state < 2) :=
  ⟨st ({ pwr := { started := true } }), by decide +kernel⟩

theorem wit_PowerAndReset_4 :
    ∃ (s : State), (s.br.pwr.perstLow = true ∧ s.br.boot.qspiFree = false ∧ s.br.pwr.started = false) :=
  ⟨st ({ pwr := { perstLow := true } }), by decide +kernel⟩

theorem wit_PowerAndReset_5 :
    ∃ (s : State), (s.br.pwr.perstLow = true ∧ s.br.boot.qspiFree = false ∧ s.br.pwr.started = true ∧ s.br.pwr.por = false ∧ s.br.pwr.dead = false ∧ s.br.pwr.perstDue = false ∧ bitOf s.br.pwr.wakeThen 0 = false) :=
  ⟨st ({ pwr := { perstLow := true, started := true } }), by decide +kernel⟩

theorem wit_PowerAndReset_6 :
    ∃ (s : State), (s.br.pwr.por = false ∧ s.br.pwr.dead = false ∧ s.br.pwr.held = false ∧ s.br.pwr.state ≤ 2 ∧ s.br.jrn.step = 0) :=
  ⟨st {}, by decide +kernel⟩

theorem wit_PowerAndReset_7 :
    ∃ (s : State), ∃ b, Live s b ∧ (b.boot.rom = true ∧ b.boot.qspiFree = false) :=
  ⟨st ({ boot := { rom := true } }), (st ({ boot := { rom := true } })).br.fresh, ⟨rfl, rfl⟩, by decide +kernel⟩

theorem wit_PowerAndReset_8 :
    ∃ (s : State), ∃ b, Live s b ∧ (b.pwr.state = 2 ∧ b.dozeReady = true ∧ b.jrn.step = 0 ∧ b.port.up = false) :=
  ⟨st ({ pwr := { state := 2 } }), (st ({ pwr := { state := 2 } })).br.fresh, ⟨rfl, rfl⟩, by decide +kernel⟩

theorem wit_PowerAndReset_9 :
    ∃ (s : State), ∃ b, Live s b ∧ ∃ i, (b.watchedHigh = some i ∧ b.pwr.state = 3) :=
  ⟨st ({ pwr := { state := 3 }, icu := { watched := [6], src := [(6, { level := true })] } }), (st ({ pwr := { state := 3 }, icu := { watched := [6], src := [(6, { level := true })] } })).br.fresh, ⟨rfl, rfl⟩, 6, by decide +kernel⟩

theorem wit_PowerAndReset_10 :
    ∃ (s : State), ∃ b, Live s b ∧ b.pwr.state = 3 :=
  ⟨st ({ pwr := { state := 3 } }), (st ({ pwr := { state := 3 } })).br.fresh, ⟨rfl, rfl⟩, by decide +kernel⟩

theorem wit_PowerAndReset_11 :
    ∃ (s : State), ∃ b, Live s b ∧ (b.pwr.state = 4 ∧ b.pwr.wakeThen = 0 ∧ b.knl.atWake = []) :=
  ⟨st ({ pwr := { state := 4 } }), (st ({ pwr := { state := 4 } })).br.fresh, ⟨rfl, rfl⟩, by decide +kernel⟩

theorem wit_PowerAndReset_12 :
    ∃ (s : State), ∃ b, Live s b ∧ (b.pwr.state = 4 ∧ bitOf b.pwr.wakeThen 0 = false ∧ bitOf b.pwr.wakeThen 1 = true ∧ b.knl.atWake = []) :=
  ⟨st ({ pwr := { state := 4, wakeThen := 2 } }), (st ({ pwr := { state := 4, wakeThen := 2 } })).br.fresh, ⟨rfl, rfl⟩, by decide +kernel⟩

theorem wit_PowerAndReset_13 :
    ∃ (s : State), ∃ b, Live s b ∧ b.tlm.fenced = false :=
  ⟨st {}, (st {}).br.fresh, ⟨rfl, rfl⟩, by decide +kernel⟩

theorem wit_PowerAndReset_14 :
    ∃ (s : State), ∃ b, Live s b ∧ ∃ (mw : List Nat), (mw.length = 7 ∧ (∀ x ∈ mw, x < 2 ^ 20) ∧ b.tlm.fenced = false) :=
  ⟨st {}, (st {}).br.fresh, ⟨rfl, rfl⟩, List.replicate 7 (2 ^ 20 - 1), by decide +kernel⟩

theorem wit_PowerAndReset_15 :
    ∃ (s : State), ∃ b, Live s b ∧ bitOf b.glb.sideFenced 0 = false :=
  ⟨st {}, (st {}).br.fresh, ⟨rfl, rfl⟩, by decide +kernel⟩

theorem wit_PowerAndReset_16 :
    ∃ (s : State), ∃ b, Live s b ∧ bitOf b.glb.sideFenced 1 = false :=
  ⟨st {}, (st {}).br.fresh, ⟨rfl, rfl⟩, by decide +kernel⟩

theorem wit_SledPositions_0 :
    ∃ (s : State), ∃ (n : Fin 16), ((s.br.chan n).svc.present = false ∧ ((s.br.chan n).svc.state = .empty ∨ (s.br.chan n).svc.state = .ready ∨ ((s.br.chan n).svc.state = .lost ∧ s.br.opOn 0x0503 (65536 + n) = none))) :=
  ⟨st {}, 15, by decide +kernel⟩

theorem wit_SledPositions_1 :
    ∃ (s : State), ∃ (n : Fin 16), ((s.br.chan n).svc.present = true ∧ ((s.br.chan n).svc.state = .present ∨ (s.br.chan n).svc.state = .ready ∨ (s.br.chan n).svc.state = .failed)) :=
  ⟨st (sled { state := .failed, present := true }), 15, by decide +kernel⟩

theorem wit_SledPositions_2 :
    ∃ (s : State), ∃ (n : Fin 16), ((s.br.chan n).svc.present = true ∧ (s.br.chan n).svc.state = .admitWait) :=
  ⟨st (sled { state := .admitWait, present := true }), 15, by decide +kernel⟩

theorem wit_SledPositions_3 :
    ∃ (s : State), ∃ (n : Fin 16), ((s.br.chan n).svc.present = true ∧ (s.br.chan n).svc.state = .admitting) :=
  ⟨st (sled { state := .admitting, present := true }), 15, by decide +kernel⟩

theorem wit_SledPositions_4 :
    ∃ (s : State), ∃ (n : Fin 16), ((s.br.chan n).svc.present = true ∧ ((s.br.chan n).svc.state = .admitted ∨ (s.br.chan n).svc.state = .removeWait ∨ (s.br.chan n).svc.state = .evacuating ∨ (s.br.chan n).svc.state = .poweringOff)) :=
  ⟨st (sled { state := .poweringOff, present := true }), 15, by decide +kernel⟩

theorem wit_SledPositions_5 :
    ∃ (s : State), ∃ (n : Fin 16), ∃ b, Live s b ∧ (b.pwr.state ≠ 3 ∧ 2 ≤ b.glb.level ∧ ((b.chan n).svc.state = .present ∨ (b.chan n).svc.state = .failed)) :=
  ⟨st (sled { state := .failed }), 15, (st (sled { state := .failed })).br.fresh, ⟨rfl, rfl⟩, by decide +kernel⟩

theorem wit_SledPositions_6 :
    ∃ (s : State), ∃ (n : Fin 16), ∃ b, Live s b ∧ (b.pwr.state ≠ 3 ∧ 2 ≤ b.glb.level ∧ (b.chan n).svc.state = .admitWait) :=
  ⟨st (sled { state := .admitWait }), 15, (st (sled { state := .admitWait })).br.fresh, ⟨rfl, rfl⟩, by decide +kernel⟩

theorem wit_SledPositions_7 :
    ∃ (s : State), ∃ (n : Fin 16), ∃ b, Live s b ∧ (b.pwr.state ≠ 3 ∧ 2 ≤ b.glb.level ∧ (b.chan n).svc.state = .admitted ∧ b.mayRemove n = true) :=
  ⟨st (sled { state := .admitted }), 15, (st (sled { state := .admitted })).br.fresh, ⟨rfl, rfl⟩, by decide +kernel⟩

theorem wit_SledPositions_8 :
    ∃ (s : State), ∃ (n : Fin 16), ∃ b, Live s b ∧ (b.pwr.state ≠ 3 ∧ 2 ≤ b.glb.level ∧ (b.chan n).svc.state = .removeWait) :=
  ⟨st (sled { state := .removeWait }), 15, (st (sled { state := .removeWait })).br.fresh, ⟨rfl, rfl⟩, by decide +kernel⟩

theorem wit_SledPositions_9 :
    ∃ (s : State), ∃ (n : Fin 16), ∃ b, Live s b ∧ (b.pwr.state ≠ 3 ∧ 2 ≤ b.glb.level ∧ ((b.chan n).svc.state = .empty ∨ (b.chan n).svc.state = .ready ∨ (b.chan n).svc.state = .evacuating)) :=
  ⟨st (sled { state := .evacuating }), 15, (st (sled { state := .evacuating })).br.fresh, ⟨rfl, rfl⟩, by decide +kernel⟩

theorem wit_SledPositions_10 :
    ∃ (s : State), ∃ b, Live s b ∧ (b.pwr.state = 3 ∨ b.glb.level < 2) :=
  ⟨st (sled {} 1), (st (sled {} 1)).br.fresh, ⟨rfl, rfl⟩, by decide +kernel⟩

theorem wit_SledPositions_11 :
    ∃ (s : State), ∃ (n : Fin 16), ∃ b, Live s b ∧ (b.chan n).svc.state = .admitWait :=
  ⟨st (sled { state := .admitWait }), 15, (st (sled { state := .admitWait })).br.fresh, ⟨rfl, rfl⟩, by decide +kernel⟩

theorem wit_SledPositions_12 :
    ∃ (s : State), ∃ (n : Fin 16), ∃ b, Live s b ∧ (b.chan n).svc.state = .removeWait :=
  ⟨st (sled { state := .removeWait }), 15, (st (sled { state := .removeWait })).br.fresh, ⟨rfl, rfl⟩, by decide +kernel⟩

theorem wit_SledPositions_13 :
    ∃ (s : State), ∃ (n : Fin 16), ∃ b, Live s b ∧ ((b.chan n).svc.state = .admitting ∧ (b.phy n).state = .disabled ∧ (b.chan n).svc.present = true) :=
  ⟨st (sled { state := .admitting, present := true }), 15, (st (sled { state := .admitting, present := true })).br.fresh, ⟨rfl, rfl⟩, by decide +kernel⟩

theorem wit_SledPositions_14 :
    ∃ (s : State), ∃ (n : Fin 16), ∃ b, Live s b ∧ (b.chan n).svc.state = .poweringOff :=
  ⟨st (sled { state := .poweringOff }), 15, (st (sled { state := .poweringOff })).br.fresh, ⟨rfl, rfl⟩, by decide +kernel⟩

theorem wit_SledPositions_15 :
    ∃ (s : State), ∃ (n : Fin 16), ∃ b, Live s b ∧ (b.chan n).svc.attn = true :=
  ⟨st (sled { attn := true }), 15, (st (sled { attn := true })).br.fresh, ⟨rfl, rfl⟩, by decide +kernel⟩

theorem wit_ScansProceed_0 :
    ∃ (b : Bridge), ∃ (key : Nat), b.fetchTurn = some key :=
  ⟨({ scans aJob with scan := { ring := [(7, { enable := true, tail := 1 })] } }), 7, by decide +kernel⟩

theorem wit_ScansProceed_1 :
    ∃ (b : Bridge), ∃ (inst : Nat), ∃ (ext : Nat), ∃ (e : SegEntry), b.segAt inst (ext / 512) = some e ∧ (e.valid = false ∨ e.inst ≠ inst) :=
  ⟨(scans aJob false), 0, 511, { dlaSeg := 0, res := (0, 0), valid := false, inst := 0 }, by decide +kernel, .inl rfl⟩

theorem wit_ScansProceed_2 :
    ∃ (b : Bridge), ∃ (inst : Nat), ∃ (ext : Nat), ∃ (e : SegEntry), b.segAt inst (ext / 512) = some e ∧ ∃ home, let dla := e.dlaSeg * 2 ^ 24 + ext % 512 * 32768; (e.valid = true ∧ e.inst = inst ∧ b.place e.chan inst dla = .at home ∧ b.chFenced e.chan = false ∧ (b.chan e.chan).rtv.noLane = false ∧ (b.chan e.chan).rtv.nearQ.length < 256 ∧ (b.chan e.chan).rtv.farQ.length < 256) :=
  ⟨(scans aJob), 0, 0, { dlaSeg := 0, res := (0, 0), valid := true, inst := 0 }, by decide +kernel, (.sled 0 0), by decide +kernel⟩

theorem wit_ScansProceed_3 :
    ∃ (s : State), ∃ (b : Bridge), Live s b ∧ ∃ (fn : Fin 256), ∃ (k : Fin 8), b.fetchTurn ≠ some (fn * 8 + k.val) :=
  ⟨st ({ scans aJob with scan := { ring := [(7, { enable := true, tail := 1 })] } }), (st ({ scans aJob with scan := { ring := [(7, { enable := true, tail := 1 })] } })).br.fresh, ⟨rfl, rfl⟩, 0, 6, by decide +kernel⟩

theorem wit_ScansProceed_4 :
    ∃ (s : State), ∃ (b : Bridge), Live s b ∧ ∃ (fn : Fin 256), ∃ (k : Fin 8), b.fetchTurn = some (fn * 8 + k.val) :=
  ⟨st ({ scans aJob with scan := { ring := [(7, { enable := true, tail := 1 })] } }), (st ({ scans aJob with scan := { ring := [(7, { enable := true, tail := 1 })] } })).br.fresh, ⟨rfl, rfl⟩, 0, 7, by decide +kernel⟩

theorem wit_ScansProceed_5 :
    ∃ (s : State), ∃ (b : Bridge), Live s b ∧ ∃ id, ∃ (f : Fetch), Tbl.find id b.scan.fetch = some f ∧ f.hdr = .unasked ∧ f.stale = false ∧ ∃ bs, f.desc = .read bs :=
  ⟨st (fetching { fn := 0, ring := 0, index := 0, before := 0, desc := .read scanDesc }), (st (fetching { fn := 0, ring := 0, index := 0, before := 0, desc := .read scanDesc })).br.fresh, ⟨rfl, rfl⟩, 3, { fn := 0, ring := 0, index := 0, before := 0, desc := .read scanDesc }, by decide +kernel, rfl, by decide +kernel, scanDesc, by decide +kernel⟩

theorem wit_ScansProceed_6 :
    ∃ (s : State), ∃ (b : Bridge), Live s b ∧ ∃ id, ∃ (f : Fetch), Tbl.find id b.scan.fetch = some f ∧ f.hdr = .unasked ∧ (f.stale = false ∧ f.desc = .failed) :=
  ⟨st (fetching { fn := 0, ring := 0, index := 0, before := 0, desc := .failed }), (st (fetching { fn := 0, ring := 0, index := 0, before := 0, desc := .failed })).br.fresh, ⟨rfl, rfl⟩, 3, { fn := 0, ring := 0, index := 0, before := 0, desc := .failed }, by decide +kernel, rfl, by decide +kernel⟩

theorem wit_ScansProceed_7 :
    ∃ (s : State), ∃ (b : Bridge), Live s b ∧ ∃ id, ∃ (f : Fetch), ∃ bs, (Tbl.find id b.scan.fetch = some f ∧ f.hdr = .failed ∧ f.prog = .read bs ∧ f.program.inSet = false ∧ f.set = .unasked ∧ f.list = .unasked ∧ (b.ring f.fn f.ring).marks = []) :=
  ⟨st (fetching { fn := 0, ring := 0, index := 0, before := 0, desc := .read scanDesc, hdr := .failed, prog := .read (List.replicate 64 0) }), (st (fetching { fn := 0, ring := 0, index := 0, before := 0, desc := .read scanDesc, hdr := .failed, prog := .read (List.replicate 64 0) })).br.fresh, ⟨rfl, rfl⟩, 3, { fn := 0, ring := 0, index := 0, before := 0, desc := .read scanDesc, hdr := .failed, prog := .read (List.replicate 64 0) }, List.replicate 64 0, by decide +kernel⟩

theorem wit_ScansProceed_8 :
    ∃ (s : State), ∃ (b : Bridge), Live s b ∧ ∃ id, ∃ (f : Fetch), ∃ h, ∃ bs, (Tbl.find id b.scan.fetch = some f ∧ f.hdr = .read h ∧ badHeader h = false ∧ f.prog = .read bs ∧ f.program.inSet = false ∧ f.set = .unasked ∧ f.list = .unasked ∧ f.program.isList = false ∧ f.program.flag 0 = false ∧ (b.ring f.fn f.ring).marks = [] ∧ f.refusal (b.inst f.fn).grant.segs (b.vectors f.fn) = none ∧ b.scan.job.any (fun e => decide (e.2.program.ring = f.program.ring)) = false) :=
  ⟨st (fetching { fn := 0, ring := 0, index := 0, before := 0, desc := .read scanDesc, hdr := .read (leBytes 8 0 ++ leBytes 4 4096 ++ leBytes 52 0), prog := .read (List.replicate 64 0) }), (st (fetching { fn := 0, ring := 0, index := 0, before := 0, desc := .read scanDesc, hdr := .read (leBytes 8 0 ++ leBytes 4 4096 ++ leBytes 52 0), prog := .read (List.replicate 64 0) })).br.fresh, ⟨rfl, rfl⟩, 3, { fn := 0, ring := 0, index := 0, before := 0, desc := .read scanDesc, hdr := .read (leBytes 8 0 ++ leBytes 4 4096 ++ leBytes 52 0), prog := .read (List.replicate 64 0) }, (leBytes 8 0 ++ leBytes 4 4096 ++ leBytes 52 0), List.replicate 64 0, by decide +kernel⟩

theorem wit_ScansProceed_9 :
    ∃ (s : State), ∃ (b : Bridge), Live s b ∧ ∃ id, ∃ (j : Job), (Tbl.find id b.scan.job = some j ∧ j.ringHeld = true ∧ b.scan.job.any (fun e => decide (e.1 < id) && decide (e.2.program.ring = j.program.ring)) = false) :=
  ⟨st (scans { aJob with ringHeld := true }), (st (scans { aJob with ringHeld := true })).br.fresh, ⟨rfl, rfl⟩, 3, { aJob with ringHeld := true }, by decide +kernel⟩

theorem wit_ScansProceed_10 :
    ∃ (s : State), ∃ (b : Bridge), Live s b ∧ ∃ id, ∃ (j : Job), ∃ before, (Tbl.find id b.scan.job = some j ∧ j.fence = some before ∧ b.fenceOver before = true) :=
  ⟨st (scans { aJob with fence := some 0 }), (st (scans { aJob with fence := some 0 })).br.fresh, ⟨rfl, rfl⟩, 3, { aJob with fence := some 0 }, 0, by decide +kernel⟩

theorem wit_ScansProceed_11 :
    ∃ (s : State), ∃ (b : Bridge), Live s b ∧ ∃ id, ∃ (j : Job), ∃ ord, ∃ ext, ∃ (j' : Job), (b.scan.job.find? (fun e => (b.nextPlacement e.2).goes) = some (id, j) ∧ j.nextPiece = (some (ord, ext), j')) ∧ ∃ (status : Nat), ∃ ch, b.nextPlacement j = .ends status ch :=
  ⟨st (scans { aJob with split := true, runs := [(0, 511, 1)] } false), (st (scans { aJob with split := true, runs := [(0, 511, 1)] } false)).br.fresh, ⟨rfl, rfl⟩, 3, { aJob with split := true, runs := [(0, 511, 1)] }, 0, 511, { aJob with split := true }, by decide +kernel, 2, some 0, by decide +kernel⟩

theorem wit_ScansProceed_12 :
    ∃ (s : State), ∃ (b : Bridge), Live s b ∧ ∃ id, ∃ (j : Job), ∃ ord, ∃ ext, ∃ (j' : Job), (b.scan.job.find? (fun e => (b.nextPlacement e.2).goes) = some (id, j) ∧ j.nextPiece = (some (ord, ext), j')) ∧ ∃ ch, ∃ dla, b.nextPlacement j = .queue ch dla false :=
  ⟨st (scans { aJob with split := true, runs := [(0, 0, 1)] }), (st (scans { aJob with split := true, runs := [(0, 0, 1)] })).br.fresh, ⟨rfl, rfl⟩, 3, { aJob with split := true, runs := [(0, 0, 1)] }, 0, 0, { aJob with split := true }, by decide +kernel, 0, 0, by decide +kernel⟩

theorem wit_ScansProceed_13 :
    ∃ (s : State), ∃ (b : Bridge), Live s b ∧ ∃ id, ∃ (j : Job), ∃ ord, ∃ ext, ∃ (j' : Job), (b.scan.job.find? (fun e => (b.nextPlacement e.2).goes) = some (id, j) ∧ j.nextPiece = (some (ord, ext), j')) ∧ ∃ ch, ∃ dla, b.nextPlacement j = .queue ch dla true :=
  ⟨st ({ scans { aJob with split := true, runs := [(0, 0, 1)] } with herd := { running := true, desc := [(0, { valid := true })], dir := allNear } }), (st ({ scans { aJob with split := true, runs := [(0, 0, 1)] } with herd := { running := true, desc := [(0, { valid := true })], dir := allNear } })).br.fresh, ⟨rfl, rfl⟩, 3, { aJob with split := true, runs := [(0, 0, 1)] }, 0, 0, { aJob with split := true }, by decide +kernel, 0, 0, by decide +kernel⟩

theorem wit_ScansProceed_14 :
    ∃ (s : State), ∃ (b : Bridge), Live s b ∧ ∃ (n : Fin 16), ∃ (x : Piece), (b.chFenced n = false ∧ b.pwr.thermHold = false ∧ b.scan.stopped = false ∧ (b.chan n).rtv.grantAt ≠ some b.glb.time ∧ (b.chan n).rtv.nearQ = [] ∧ b.nextOf (b.chan n).rtv.farQ (b.chan n).rtv.lastInst.2 = some x ∧ (List.range 5).any (b.chan n).rtv.free = true) :=
  ⟨st (scans aJob), (st (scans aJob)).br.fresh, ⟨rfl, rfl⟩, 0, { job := 3, ord := 0, ext := 0, backed := true, dla := 0, near := false }, by decide +kernel⟩

theorem wit_ScansProceed_15 :
    ∃ (s : State), ∃ (b : Bridge), Live s b ∧ ∃ (n : Fin 16), ∃ (k : Nat), ∃ (x : Piece), ∃ (j : Job), ∃ (r : Rec), ∃ (t : List Rec), ((b.chan n).rtv.parked[k]? = some x ∧ Tbl.find x.job b.scan.job = some j ∧ x.out = r :: t ∧ j.rr.room (64 * r.units) = true ∧ (b.chan n).rtv.nearQ.length < 256 ∧ (b.chan n).rtv.farQ.length < 256) :=
  ⟨st (scans aJob true 0x0F { job := 3, ord := 0, ext := 0, backed := true, dla := 0, near := false, out := [{ kind := 1, piece := 0 }] }), (st (scans aJob true 0x0F { job := 3, ord := 0, ext := 0, backed := true, dla := 0, near := false, out := [{ kind := 1, piece := 0 }] })).br.fresh, ⟨rfl, rfl⟩, 0, 0, { job := 3, ord := 0, ext := 0, backed := true, dla := 0, near := false, out := [{ kind := 1, piece := 0 }] }, aJob, { kind := 1, piece := 0 }, [], by decide +kernel⟩

theorem wit_ScansProceed_16 :
    ∃ (s : State), ∃ (b : Bridge), Live s b ∧ ∃ id, ∃ (j : Job), (Tbl.find id b.scan.job = some j ∧ j.lost = false ∧ j.rr.short = true ∧ j.rr.reading = false ∧ j.rr.readAt ≠ b.stride + 1 ∧ b.mayRead j.fn = true) :=
  ⟨st (scans { aJob with rr := { short := true } }), (st (scans { aJob with rr := { short := true } })).br.fresh, ⟨rfl, rfl⟩, 3, { aJob with rr := { short := true } }, by decide +kernel⟩

theorem wit_ScansProceed_17 :
    ∃ (s : State), ∃ (b : Bridge), Live s b ∧ ∃ (n : Fin 16), ∃ (lane : Fin 5), ∃ (x : Piece), (Tbl.find lane.val (b.chan n).rtv.lane = some x ∧ Tbl.find x.job b.scan.job = none) :=
  ⟨st ({ scans aJob with scan := {} }), (st ({ scans aJob with scan := {} })).br.fresh, ⟨rfl, rfl⟩, 0, 4, { job := 3, ord := 0, ext := 0, backed := true, dla := 0, near := false }, by decide +kernel⟩

theorem wit_ScansProceed_18 :
    ∃ (s : State), ∃ (b : Bridge), Live s b ∧ ∃ (n : Fin 16), ∃ (lane : Fin 5), ∃ (x : Piece), let e := b.laneOn n lane 1024; ∃ (j : Job), (Tbl.find lane.val (e.chan n).rtv.lane = some x ∧ Tbl.find x.job e.scan.job = some j ∧ x.ended = false ∧ j.program.advance x ≠ .over) :=
  ⟨st (scans aJob true 0x0F { job := 3, ord := 0, ext := 0, backed := true, dla := 0, near := false } 6144), (st (scans aJob true 0x0F { job := 3, ord := 0, ext := 0, backed := true, dla := 0, near := false } 6144)).br.fresh, ⟨rfl, rfl⟩, 0, 4, { job := 3, ord := 0, ext := 0, backed := true, dla := 0, near := false }, aJob, by decide +kernel⟩

theorem wit_ScansProceed_19 :
    ∃ (s : State), ∃ (b : Bridge), Live s b ∧ ∃ (n : Fin 16), ∃ (lane : Fin 5), ∃ (x : Piece), let e := b.laneOn n lane 1024; ∃ (j : Job), (Tbl.find lane.val (e.chan n).rtv.lane = some x ∧ Tbl.find x.job e.scan.job = some j ∧ x.ended = true ∧ j.lost = false) ∧ let r := e.laneWrites n lane x; r.1.out = [] :=
  ⟨st (scans aJob true 0x0F { job := 3, ord := 0, ext := 0, backed := true, dla := 0, near := false, ended := true }), (st (scans aJob true 0x0F { job := 3, ord := 0, ext := 0, backed := true, dla := 0, near := false, ended := true })).br.fresh, ⟨rfl, rfl⟩, 0, 4, { job := 3, ord := 0, ext := 0, backed := true, dla := 0, near := false, ended := true }, aJob, by decide +kernel, by decide +kernel⟩

theorem wit_ScansProceed_20 :
    ∃ (s : State), ∃ (b : Bridge), Live s b ∧ ∃ (n : Fin 16), ∃ (lane : Fin 5), ∃ (x : Piece), let e := b.laneOn n lane 1024; ∃ (j : Job), (Tbl.find lane.val (e.chan n).rtv.lane = some x ∧ Tbl.find x.job e.scan.job = some j ∧ x.ended = true ∧ j.lost = false) ∧ let r := e.laneWrites n lane x; r.1.out ≠ [] :=
  ⟨st (scans { aJob with rr := { prod := 4096 } } true 0x0F { job := 3, ord := 0, ext := 0, backed := true, dla := 0, near := false, ended := true, out := [{ kind := 1, piece := 0 }] }), (st (scans { aJob with rr := { prod := 4096 } } true 0x0F { job := 3, ord := 0, ext := 0, backed := true, dla := 0, near := false, ended := true, out := [{ kind := 1, piece := 0 }] })).br.fresh, ⟨rfl, rfl⟩, 0, 4, { job := 3, ord := 0, ext := 0, backed := true, dla := 0, near := false, ended := true, out := [{ kind := 1, piece := 0 }] }, { aJob with rr := { prod := 4096, short := true } }, by decide +kernel, by decide +kernel⟩

theorem wit_ScansProceed_21 :
    ∃ (s : State), ∃ (b : Bridge), Live s b ∧ ∃ (n : Fin 16), ∃ (lane : Fin 5), ∃ (x : Piece), let e := b.laneOn n lane 1024; ∃ (j : Job), (Tbl.find lane.val (e.chan n).rtv.lane = some x ∧ Tbl.find x.job e.scan.job = some j ∧ x.ended = false ∧ j.program.advance x = .over ∧ j.lost = false) ∧ let r := e.laneWrites n lane (j.program.finish x); r.1.out = [] :=
  ⟨st (scans aJob true 0x0F { job := 3, ord := 0, ext := 0, backed := true, dla := 0, near := false, row := 262144 }), (st (scans aJob true 0x0F { job := 3, ord := 0, ext := 0, backed := true, dla := 0, near := false, row := 262144 })).br.fresh, ⟨rfl, rfl⟩, 0, 4, { job := 3, ord := 0, ext := 0, backed := true, dla := 0, near := false, row := 262144 }, aJob, by decide +kernel, by decide +kernel⟩

theorem wit_ScansProceed_22 :
    ∃ (s : State), ∃ (b : Bridge), Live s b ∧ ∃ (n : Fin 16), ∃ (lane : Fin 5), ∃ (x : Piece), let e := b.laneOn n lane 1024; ∃ (j : Job), (Tbl.find lane.val (e.chan n).rtv.lane = some x ∧ Tbl.find x.job e.scan.job = some j ∧ x.ended = false ∧ j.program.advance x = .over ∧ j.lost = false) ∧ let r := e.laneWrites n lane (j.program.finish x); r.1.out ≠ [] :=
  ⟨st (scans { aJob with rr := { prod := 4096 } } true 0x0F { job := 3, ord := 0, ext := 0, backed := true, dla := 0, near := false, row := 262144, out := [{ kind := 1, piece := 0 }] }), (st (scans { aJob with rr := { prod := 4096 } } true 0x0F { job := 3, ord := 0, ext := 0, backed := true, dla := 0, near := false, row := 262144, out := [{ kind := 1, piece := 0 }] })).br.fresh, ⟨rfl, rfl⟩, 0, 4, { job := 3, ord := 0, ext := 0, backed := true, dla := 0, near := false, row := 262144, out := [{ kind := 1, piece := 0 }] }, { aJob with rr := { prod := 4096, short := true } }, by decide +kernel, by decide +kernel⟩

end Sys2Proof.Tests
end

section
/-! Obligation O16: what a fenced channel's scheduler does with the commands that hand it work (R53). -/

namespace Sys2Proof.Proofs

open Sys2Proof Sys2Proof.Machine

/-- A command that a living bridge takes completes with what its operation makes of the bridge that it finds. -/
theorem completes_of_live {i : Instr} {s : State} {b b' : Bridge} {f : Bridge → Bridge} (h : Live s b)
    (runs : exec i s = .next (s.run (Bridge.live f))) (own : f b = b') : Completes i s b' :=
  ⟨_, runs, State.run_follows ((h.gate f).trans own)⟩

section Fenced

variable {n : Nat} {b : Bridge} (fenced : b.chFenced n = true)
include fenced

theorem doAdmissionDecision_of_fenced : doAdmissionDecision n b = b := by
  simp [doAdmissionDecision, fenced]

theorem doWorkUnitArrival_of_fenced (send : Bool) : doWorkUnitArrival n send b = b := by
  simp [doWorkUnitArrival, fenced]

theorem doScrubReadStart_of_fenced (first lines : Nat) : doScrubReadStart n first lines b = b := by
  simp [doScrubReadStart, fenced]

/-- A step that does not fail and is not the last of a pass: a failed one is an event of its unit's fault block, and the last one is
counted, on a fenced channel too. -/
theorem doOnlineSelfTestStep_of_fenced (window : Bool) (cost : Slots) : doOnlineSelfTestStep n window cost none false b = b := by
  simp [doOnlineSelfTestStep, fenced]

end Fenced

/-- Settles O16: each of the four operations asks first whether its channel is fenced, and leaves the bridge as it finds it. -/
theorem fencedChannelAdmitsNothing : Obligations.FencedChannelAdmitsNothing := by
  intro s b n live fenced
  refine ⟨?admission, fun send => ?arrival, fun first lines => ?scrub, fun window out inb eng => ?selfTest⟩
  case admission => exact completes_of_live live rfl (doAdmissionDecision_of_fenced fenced)
  case arrival => exact completes_of_live live rfl (doWorkUnitArrival_of_fenced fenced send)
  case scrub => exact completes_of_live live rfl (doScrubReadStart_of_fenced fenced first lines)
  case selfTest => exact completes_of_live live rfl (doOnlineSelfTestStep_of_fenced fenced window _)

end Sys2Proof.Proofs
end

section
/-! Obligation O11: what an event leaves in the history queue of its fault block (R389). -/

namespace Sys2Proof.Proofs

open Sys2Proof Sys2Proof.Machine

/-- The history queue of block `k`: its entries by position, and the position of the oldest, which is written next (R389). -/
def historyQueue (k : Nat) (b : Bridge) : Tbl HistEntry × Nat := ((b.faults.blk k).hist, (b.faults.blk k).next)

@[simp] theorem intaEval_faults (b : Bridge) : b.intaEval.faults = b.faults := by
  dsimp only [Bridge.intaEval]
  split
  · rfl
  · rfl

@[simp] theorem msixSend_faults (f v : Nat) (b : Bridge) : (b.msixSend f v).faults = b.faults := by
  simp only [Bridge.msixSend, Bridge.emit_faults, Bridge.modPort_faults, Bridge.modFunc_faults]

/-- A host interrupt leaves the fault state alone. -/
@[simp] theorem raise_faults (f v : Nat) (b : Bridge) : (b.raise f v).faults = b.faults := by
  unfold Bridge.raise
  split
  case isTrue inta => rw [intaEval_faults, Bridge.modPort_faults]
  case isFalse msix =>
    split
    · exact msixSend_faults ..
    · split
      · exact Bridge.modFunc_faults ..
      · rfl

/-- A CXL event record leaves the fault state alone. -/
@[simp] theorem cxlRecord_faults (k s : Nat) (kind : FaultKind) (detail : Nat) (b : Bridge) :
    (b.cxlRecord k s kind detail).faults = b.faults := by
  unfold Bridge.cxlRecord
  split
  · rfl
  · extract_lets log record dev recorded
    have untouched : recorded.faults = b.faults := rfl
    split
    · exact (raise_faults ..).trans untouched
    · exact untouched

@[simp] theorem forward_block (b : Bridge) : b.forward.faults.block = b.faults.block := by
  unfold Bridge.forward
  split
  · rfl
  · rw [raise_faults]; rfl

/-- The fault log stands beside the fault blocks: writing it changes none of them. -/
@[simp] theorem logWrite_block (block src kind : Nat) (forced : Bool) (suppressed : Nat) (inst : Option Nat) (detail : Nat) (b : Bridge) :
    (b.logWrite block src kind forced suppressed inst detail).faults.block = b.faults.block := by
  unfold Bridge.logWrite
  split
  · rfl
  · split
    · rw [forward_block, Bridge.modFlt_faults]
    · rw [Bridge.modFlt_faults]

/-- The block that an update names is what the update makes of it. -/
@[simp] theorem modBlk_blk (k : Nat) (g : FaultBlock → FaultBlock) (b : Bridge) : (b.modBlk k g).faults.blk k = g (b.faults.blk k) :=
  Tbl.get_put_self ..

/-- The queue is read from the fault blocks alone. -/
theorem historyQueue_of_block {b b' : Bridge} (h : b'.faults.block = b.faults.block) (k : Nat) :
    historyQueue k b' = historyQueue k b := by
  simp only [historyQueue, Faults.blk, h]

/-- Recording an event puts it over the oldest entry. -/
theorem historyQueue_record (k : Nat) (e : HistEntry) (b : Bridge) :
    historyQueue k (b.modBlk k (FaultBlock.record e)) = (Tbl.put (historyQueue k b).2 e (historyQueue k b).1, ((historyQueue k b).2 + 1) % 8) := by
  simp only [historyQueue, modBlk_blk, FaultBlock.record]

/-- A source's count, level and flags stand outside the queue of its block. -/
@[simp] theorem historyQueue_modFs (k s : Nat) (g : FaultSrc → FaultSrc) (b : Bridge) :
    historyQueue k (b.modFs k s g) = historyQueue k b := by
  simp only [historyQueue, Bridge.modFs, modBlk_blk]

@[simp] theorem historyQueue_leak (k s : Nat) (b : Bridge) : historyQueue k (b.leak k s) = historyQueue k b := by
  unfold Bridge.leak
  split
  · exact historyQueue_modFs ..
  · rfl

@[simp] theorem leak_glb (k s : Nat) (b : Bridge) : (b.leak k s).glb = b.glb := by
  unfold Bridge.leak
  split
  · rfl
  · rfl

@[simp] theorem historyQueue_logWrite (k block src kind : Nat) (forced : Bool) (suppressed : Nat) (inst : Option Nat) (detail : Nat)
    (b : Bridge) : historyQueue k (b.logWrite block src kind forced suppressed inst detail) = historyQueue k b :=
  historyQueue_of_block (logWrite_block ..) k

@[simp] theorem historyQueue_cxlRecord (k s : Nat) (kind : FaultKind) (detail : Nat) (b : Bridge) :
    historyQueue k (b.cxlRecord k s kind detail) = historyQueue k b :=
  historyQueue_of_block (congrArg Faults.block (cxlRecord_faults ..)) k

/-- The queue stands the same whether the log takes an event or suppresses it (R389, R401). -/
@[simp] theorem historyQueue_logEvent (k s : Nat) (kind : FaultKind) (forced : Bool) (inst : Option Nat) (detail : Nat) (b : Bridge) :
    historyQueue k (b.logEvent k s kind forced inst detail) = historyQueue k b := by
  dsimp only [Bridge.logEvent]
  split
  case isTrue suppressed => exact historyQueue_modFs ..
  case isFalse logged => exact (historyQueue_logWrite ..).trans (historyQueue_modFs ..)

/-- What one event that its block implements and that is not muted leaves in the block's queue (R389). -/
theorem historyQueue_countEvent {k s : Nat} {forced : Bool} {kind : FaultKind} {b : Bridge} (implemented : faultKind k s = some kind)
    (raised : (forced || !b.muted k s) = true) (detail : Nat) (inst : Option Nat) :
    historyQueue k (b.countEvent k s forced detail inst)
      = (Tbl.put (historyQueue k b).2 { time := b.glb.time, src := s, forced := forced, kind := kind, detail := detail % 2 ^ 32 }
          (historyQueue k b).1, ((historyQueue k b).2 + 1) % 8) := by
  have unmuted : (!forced && b.muted k s) = false := by
    cases forced with
    | true => rfl
    | false => simpa only [Bool.false_or, Bool.not_eq_true', Bool.not_false, Bool.true_and] using raised
  simp -zeta only [Bridge.countEvent, implemented, unmuted, Bool.false_eq_true, if_false]
  extract_lets was n counted recorded logged fresh told driven
  have hcounted : historyQueue k counted = historyQueue k b := (historyQueue_modFs ..).trans (historyQueue_leak ..)
  have htime : counted.glb.time = b.glb.time := congrArg Global.time (leak_glb k s b)
  have hlogged : historyQueue k logged = historyQueue k recorded := (historyQueue_cxlRecord ..).trans (historyQueue_logEvent ..)
  have htold : historyQueue k told = historyQueue k logged := by
    unfold told
    split
    · exact historyQueue_logWrite ..
    · rfl
  have hdriven : historyQueue k driven = historyQueue k told := by
    unfold driven
    split
    · rfl
    · rfl
  calc _ = historyQueue k driven := by split <;> rfl
    _ = historyQueue k recorded := hdriven.trans (htold.trans hlogged)
    _ = _ := by rw [historyQueue_record, hcounted, htime]

/-- Settles O11: of all that an event does, only its recording touches the queue, and that puts it over the oldest entry. -/
theorem historyQueueRecordsEveryEvent : Obligations.HistoryQueueRecordsEveryEvent := by
  intro b k s forced detail inst kind implemented raised
  have queue := historyQueue_countEvent implemented raised detail inst
  obtain ⟨hist, next⟩ := Prod.mk.inj queue
  refine ⟨hist, next, fun j ne => ?_⟩
  rw [hist]
  exact Tbl.find_put_ne _ _ ne

end Sys2Proof.Proofs
end

section
/-! Obligations O1, O3 to O6: a step, reset, and what every command keeps. -/

namespace Sys2Proof.Proofs

open Sys2Proof Sys2Proof.Machine

/-- Every command answers the run of an operation on the bridge, after which power-on reset, and a supply fault below the threshold, empty
the near tier besides (R106, R488). -/
theorem exec_runs (i : Instr) (s : State) :
    ∃ f, exec i s = .next (s.run f) ∨ exec i s = .next { s.run f with near := [] } := by
  cases i
  case powerOnReset kept => exact ⟨_, .inr rfl⟩
  case supplyFault below =>
    cases below
    case false => exact ⟨_, .inl rfl⟩
    case true => exact ⟨_, .inr rfl⟩
  all_goals exact ⟨_, .inl rfl⟩

/-- A run keeps the near tier's canonical form: all it does there is to land lines. -/
theorem run_inv {s : State} (f : Bridge → Bridge) (inv : State.Inv s) : State.Inv (s.run f) := landAll_wf inv

theorem exec_inv {i : Instr} {s t : State} (inv : State.Inv s) (answer : exec i s = .next t) : State.Inv t := by
  obtain ⟨f, runs | empties⟩ := exec_runs i s
  · obtain rfl : s.run f = t := by simpa [runs] using answer
    exact run_inv f inv
  · obtain rfl : { s.run f with near := [] } = t := by simpa [empties] using answer
    rfl

/-- Settles O1: on a queue that is not empty the step is its own second branch. -/
theorem stepRunsTheFrontCommand : Obligations.StepRunsTheFrontCommand := by
  intro s c rest queue
  simp only [step, queue]

/-- Settles O3: each field stands at the value its declaration gives. -/
theorem resetValues : Obligations.ResetValues := by
  refine ⟨rfl, rfl, rfl, fun _ _ => rfl, fun _ => rfl, fun _ _ => ⟨rfl, rfl⟩, rfl, rfl, rfl, rfl, rfl, rfl, fun _ => ⟨rfl, rfl⟩, rfl, rfl⟩

/-- Settles O4: the empty near tier is in canonical form. -/
theorem resetKeepsInvariant : Obligations.ResetKeepsInvariant := rfl

/-- Settles O5: a step is a run of the bridge on its own or of the front command, and a run only lands lines. -/
theorem everyStepKeepsInvariant : Obligations.EveryStepKeepsInvariant := by
  intro s t inv answer
  cases queue : s.pending with
  | nil =>
    obtain rfl : s.run Bridge.idle = t := by simpa [step, queue] using answer
    exact run_inv Bridge.idle inv
  | cons c rest =>
    rw [stepRunsTheFrontCommand s c rest queue] at answer
    exact exec_inv (s := { s with pending := rest }) inv answer

/-- Settles O6: both forms of a command's answer leave the queue as it was and nothing landing. -/
theorem everyCommandAnswers : Obligations.EveryCommandAnswers := by
  intro i s
  obtain ⟨f, runs | empties⟩ := exec_runs i s
  · exact ⟨_, runs, rfl, rfl⟩
  · exact ⟨_, empties, rfl, rfl⟩

end Sys2Proof.Proofs
end

section
/-! Obligation O50: what the link's writers write, its readers read back (R253 to R259, R275 to R280). -/

namespace Sys2Proof.Proofs

open Sys2Proof Sys2Proof.Machine

-- Numbers as bytes and digits

theorem natBytes_succ (n v : Nat) : natBytes (n + 1) v = v % 256 :: natBytes n (v / 256) := by
  simp only [natBytes, List.range_succ_eq_map, List.map_cons, List.map_map, Nat.pow_zero, Nat.div_one]
  congr 1
  refine List.map_congr_left fun k _ => ?_
  simp only [Function.comp_apply, Nat.succ_eq_add_one, Nat.pow_succ', ← Nat.div_div_eq_div_mul]

theorem natBytes_length (n v : Nat) : (natBytes n v).length = n := by simp [natBytes]

theorem natBytes_lt (n v : Nat) : ∀ x ∈ natBytes n v, x < 256 := by
  intro x hx
  obtain ⟨k, -, rfl⟩ := List.mem_map.mp hx
  exact Nat.mod_lt _ (by decide)

theorem bytesNat_natBytes (n v : Nat) : bytesNat (natBytes n v) = v % 256 ^ n := by
  induction n generalizing v with
  | zero => simp [natBytes, bytesNat, Nat.mod_one]
  | succ n ih =>
    have ih' : List.foldr (fun x v => x + 256 * v) 0 (natBytes n (v / 256)) = v / 256 % 256 ^ n := ih (v / 256)
    rw [natBytes_succ, bytesNat, List.foldr_cons, ih', Nat.pow_succ', Nat.mod_mul]

/-- The bytes of a number do not see what stands above them. -/
theorem natBytes_congr {n v w : Nat} (h : v % 256 ^ n = w % 256 ^ n) : natBytes n v = natBytes n w := by
  induction n generalizing v w with
  | zero => rfl
  | succ n ih =>
    rw [Nat.pow_succ', Nat.mod_mul, Nat.mod_mul] at h
    have low : v % 256 = w % 256 := by omega
    have high : v / 256 % 256 ^ n = w / 256 % 256 ^ n := by omega
    rw [natBytes_succ, natBytes_succ, low, ih high]

/-- A slot's type stands at its place in the number that the header packs (R276). -/
theorem slots_digit {l : List Nat} (small : ∀ x ∈ l, x < 4) (i : Nat) :
    l.foldr (fun t v => t % 4 + 4 * v) 0 / 4 ^ i % 4 = l.getD i 0 := by
  induction l generalizing i with
  | nil => simp
  | cons x t ih =>
    have hx : x < 4 := small x (by simp)
    have ht := ih (fun y hy => small y (by simp [hy]))
    cases i with
    | zero => simp only [List.foldr_cons, Nat.pow_zero, Nat.div_one, List.getD_cons_zero]; omega
    | succ i =>
      rw [List.foldr_cons, List.getD_cons_succ, ← ht i, Nat.pow_succ', ← Nat.div_div_eq_div_mul]
      congr 2
      omega

theorem slots_lt (l : List Nat) : l.foldr (fun t v => t % 4 + 4 * v) 0 < 4 ^ l.length := by
  induction l with
  | nil => simp
  | cons x t ih => rw [List.foldr_cons, List.length_cons, Nat.pow_succ']; omega

-- CRCs stay in their registers

theorem crcSteps_lt {w poly : Nat} (hw : 0 < w) (hp : poly < 2 ^ w) (k : Nat) {r : Nat} (hr : r < 2 ^ w) : crcSteps w poly k r < 2 ^ w := by
  induction k generalizing r with
  | zero => exact hr
  | succ k ih =>
    refine ih ?_
    split
    · exact Nat.xor_lt_two_pow (Nat.mod_lt _ (Nat.two_pow_pos w)) hp
    next small =>
      have : 2 ^ w = 2 * 2 ^ (w - 1) := by rw [← Nat.pow_succ', Nat.sub_one, Nat.succ_pred_eq_of_pos hw]
      omega

theorem crcBytes_lt {w poly init : Nat} {l : List Nat} (hw : 8 ≤ w) (hp : poly < 2 ^ w) (hi : init < 2 ^ w) (hl : ∀ x ∈ l, x < 256) :
    crcBytes w poly init l < 2 ^ w := by
  induction l generalizing init with
  | nil => exact hi
  | cons x t ih =>
    have hx : x * 2 ^ (w - 8) < 2 ^ w := by
      have split : 2 ^ w = 256 * 2 ^ (w - 8) := by rw [show (256 : Nat) = 2 ^ 8 from rfl, ← Nat.pow_add]; congr 1; omega
      rw [split]
      exact Nat.mul_lt_mul_of_pos_right (hl x (by simp)) (Nat.two_pow_pos _)
    exact ih (crcSteps_lt (by omega) hp 8 (Nat.xor_lt_two_pow hi hx)) (fun y hy => hl y (by simp [hy]))

theorem crc8_lt {l : List Nat} (hl : ∀ x ∈ l, x < 256) : crc8 l < 256 :=
  crcBytes_lt (w := 8) (by decide) (by decide) (by decide) hl

theorem crc64_lt {l : List Nat} (hl : ∀ x ∈ l, x < 256) : crc64 l < 2 ^ 64 :=
  Nat.xor_lt_two_pow (crcBytes_lt (w := 64) (by decide) (by decide) (by decide) hl) (by decide)

-- Code groups and levels

theorem group_readsBack : ∀ (rd : Bool) (byte : Fin 256),
    groupByte rd (groupOf rd byte).1 = some byte.val ∧ afterGroup rd (groupOf rd byte).1 = (groupOf rd byte).2 := by
  decide +kernel

theorem levels_readBack : ∀ (prev : Fin 4) (byte : Fin 256),
    byteOfLevels prev (levelsOf prev byte).1 = (byte.val, (levelsOf prev byte).2) := by
  decide +kernel

/-- A run of bytes reads back, without a code error. -/
theorem groups_readBack (rd : Bool) (l : List Nat) (hl : ∀ x ∈ l, x < 256) :
    (readGroups rd (groupsOf rd l)).1 = l ∧ (readGroups rd (groupsOf rd l)).2.1 = 0 := by
  induction l generalizing rd with
  | nil => exact ⟨rfl, rfl⟩
  | cons x t ih =>
    obtain ⟨byte, after⟩ := group_readsBack rd ⟨x, hl x (by simp)⟩
    obtain ⟨bytes, errors⟩ := ih (groupOf rd x).2 (fun y hy => hl y (by simp [hy]))
    simp only at byte after
    simp only [groupsOf, readGroups, byte, after, bytes, errors, and_self]

-- Ordered sets

/-- COM tells the disparity at which a set was sent. -/
theorem com_tells (rd : Bool) : decide ((Ctl.group rd .com).1 = (Ctl.group true .com).1) = rd := by
  cases rd <;> decide

theorem set_readsBack (rd : Bool) (id : Ctl) (l : List Nat) (hlen : l.length = 13) (hl : ∀ x ∈ l, x < 256) :
    (readSet id (setGroups rd id l)).1 = some l := by
  have small : ∀ x ∈ l ++ [crc8 l], x < 256 := by
    intro x hx
    rcases List.mem_append.mp hx with h | h
    · exact hl x h
    · rw [List.mem_singleton.mp h]; exact crc8_lt hl
  obtain ⟨bytes, errors⟩ := groups_readBack (id.group (Ctl.group rd .com).2).2 _ small
  have chk : (l ++ [crc8 l]).getD 13 256 = crc8 l := by simp [← hlen]
  have body : (l ++ [crc8 l]).take 13 = l := by simp [← hlen]
  simp only [setGroups, readSet, com_tells, bytes, errors, body, chk]
  simp [b2n, hlen]

theorem setFields_readBack (f : SetFields) (hlane : f.lane < 8) (hchan : f.chan < 256) (hrates : f.rates < 16) (hrate : f.rate < 4)
    (hwidth : f.width < 8) (hout : f.outMap < 32) (hin : f.inMap < 32) (hrx : f.rxOk < 64) (hpreset : f.preset < 8) (hround : f.round < 256)
    (htest : f.test < 8) : SetFields.ofBytes f.bytes = f := by
  simp [SetFields.ofBytes, SetFields.bytes, Nat.mod_eq_of_lt, *]

-- Training frames

/-- A field of 64 bits carries the CHK that its low 56 bits ask for. -/
theorem withChk_good (v : Nat) : chkGood (withChk v) = true := by
  have chk : crc8 (natBytes 7 v) < 256 := crc8_lt (natBytes_lt 7 v)
  have same : natBytes 7 (withChk v) = natBytes 7 v := natBytes_congr (by unfold withChk; omega)
  have top : withChk v / 2 ^ 56 = crc8 (natBytes 7 v) := by unfold withChk; omega
  have fits : withChk v < 2 ^ 64 := by unfold withChk; omega
  simp only [chkGood, same, top, fits, and_self, decide_true]

/-- A field of bits that lies below CHK is the number's own. -/
theorem bitsOf_withChk (v : Nat) {hi lo : Nat} (le : lo ≤ hi) (below : hi < 56) : bitsOf (withChk v) hi lo = bitsOf v hi lo := by
  have split : (2 : Nat) ^ 56 = 2 ^ lo * (2 ^ (hi - lo + 1) * 2 ^ (55 - hi)) := by rw [← Nat.pow_add, ← Nat.pow_add]; congr 1; omega
  have cut : ∀ u, u / 2 ^ lo % 2 ^ (hi - lo + 1) = u % 2 ^ 56 / 2 ^ lo % 2 ^ (hi - lo + 1) := by
    intro u
    rw [split, Nat.mod_mul_right_div_self, Nat.mod_mul_right_mod]
  have low : withChk v % 2 ^ 56 = v % 2 ^ 56 := by unfold withChk; omega
  rw [bitsOf, cut, low, ← cut, bitsOf]

theorem bitOf_eq_bitsOf (v k : Nat) : bitOf v k = decide (bitsOf v k k = 1) := by simp [bitOf, bitsOf]

theorem frame_readsBack (f : FrameFields) (hlane : f.lane < 8) (h0 : f.reqs.1 < 4) (h1 : f.reqs.2.1 < 4) (h2 : f.reqs.2.2 < 4) (hpreset : f.preset < 8)
    (s0 : f.stat.1 < 4) (s1 : f.stat.2.1 < 4) (s2 : f.stat.2.2 < 4) (hout : f.outMap < 32) (hin : f.inMap < 32) (hcount : f.count < 16) :
    readFrame f.word = some f := by
  obtain ⟨lane, ready, ⟨r0, r1, r2⟩, preset, ⟨t0, t1, t2⟩, fast, outMap, inMap, count⟩ := f
  simp only at hlane h0 h1 h2 hpreset s0 s1 s2 hout hin hcount
  have flag : ∀ c : Bool, b2n c < 2 ∧ decide (b2n c = 1) = c := by decide
  obtain ⟨ready2, readyIs⟩ := flag ready
  obtain ⟨fast2, fastIs⟩ := flag fast
  simp only [readFrame, FrameFields.word, withChk_good, if_true, FrameFields.ofWord, bitOf_eq_bitsOf]
  simp (disch := decide) only [bitsOf_withChk]
  simp only [Nat.mod_eq_of_lt, hlane, h0, h1, h2, hpreset, s0, s1, s2, hout, hin, hcount]
  generalize b2n ready = u at *
  generalize b2n fast = w at *
  simp only [bitsOf, Option.some.injEq, FrameFields.mk.injEq, Prod.mk.injEq, Nat.reduceAdd, Nat.reducePow, Nat.reduceSub]
  refine ⟨?_, ?ready, ⟨?_, ?_, ?_⟩, ?_, ⟨?_, ?_, ?_⟩, ?fast, ?_, ?_, ?_⟩
  case ready => rw [← readyIs]; congr 2; omega
  case fast => rw [← fastIs]; congr 2; omega
  all_goals omega

-- Flits

/-- The 248 bytes that a flit's CRC covers (R275). -/
def flitBody (h : FlitHead) (payload : List Nat) : List Nat := ((natBytes 8 h.word ++ payload) ++ List.replicate 248 0).take 248

theorem flitBytes_eq (h : FlitHead) (payload : List Nat) :
    flitBytes h payload = flitBody h payload ++ natBytes 8 (crc64 (flitBody h payload)) := rfl

theorem flitBody_length (h : FlitHead) (payload : List Nat) : (flitBody h payload).length = 248 := by
  rw [flitBody, List.length_take, List.length_append, List.length_replicate]; omega

theorem flitBody_lt {h : FlitHead} {payload : List Nat} (small : ∀ x ∈ payload, x < 256) : ∀ x ∈ flitBody h payload, x < 256 := by
  intro x hx
  rcases List.mem_append.mp (List.mem_of_mem_take hx) with hx | hx
  · rcases List.mem_append.mp hx with hx | hx
    · exact natBytes_lt 8 _ x hx
    · exact small x hx
  · rw [List.eq_of_mem_replicate hx]; decide

/-- A flit's CRC-64 stands in its last 8 bytes. -/
theorem flit_crcGood (h : FlitHead) {payload : List Nat} (small : ∀ x ∈ payload, x < 256) : crcGood (flitBytes h payload) = true := by
  have fits : crc64 (flitBody h payload) < 256 ^ 8 := crc64_lt (flitBody_lt small)
  rw [crcGood, flitBytes_eq, List.drop_left' (flitBody_length ..), List.take_left' (flitBody_length ..), bytesNat_natBytes,
    Nat.mod_eq_of_lt fits, decide_eq_true rfl]

/-- A flit's header stands in its first 8 bytes. -/
theorem flitBytes_take_head (h : FlitHead) (payload : List Nat) : (flitBytes h payload).take 8 = natBytes 8 h.word := by
  rw [flitBytes_eq, List.take_append_of_le_length (by rw [flitBody_length]; decide), flitBody, List.take_take, List.append_assoc]
  exact List.take_left' (natBytes_length ..)

theorem flitHead_readsBack (h : FlitHead) (payload : List Nat) (hkind : h.kind < 4) (hseq : h.seq < 4096) (hack : h.ack < 4096)
    (hlen : h.slots.length = 15) (hslots : ∀ x ∈ h.slots, x < 4) (hwvc : h.wvc < 8) : FlitHead.of (flitBytes h payload) = h := by
  obtain ⟨kind, seq, ack, slots, wvc⟩ := h
  simp only at hkind hseq hack hlen hslots hwvc
  have packed := slots_lt slots
  have digit := slots_digit hslots
  rw [hlen] at packed
  simp only [FlitHead.of, flitBytes_take_head, bytesNat_natBytes, FlitHead.word]
  generalize slots.foldr (fun t v => t % 4 + 4 * v) 0 = n at packed digit
  have word : (kind % 4 + seq % 4096 * 2 ^ 2 + ack % 4096 * 2 ^ 14 + n % 2 ^ 30 * 2 ^ 26 + wvc % 8 * 2 ^ 56) % 256 ^ 8
      = kind + seq * 2 ^ 2 + ack * 2 ^ 14 + n * 2 ^ 26 + wvc * 2 ^ 56 := by omega
  have shift : (kind + seq * 2 ^ 2 + ack * 2 ^ 14 + n * 2 ^ 26 + wvc * 2 ^ 56) / 2 ^ 26 = n + wvc * 2 ^ 30 := by omega
  have slot : ∀ i < 15, bitsOf (kind + seq * 2 ^ 2 + ack * 2 ^ 14 + n * 2 ^ 26 + wvc * 2 ^ 56) (2 * i + 27) (2 * i + 26) = slots.getD i 0 := by
    intro i hi
    have width : 2 * i + 27 - (2 * i + 26) + 1 = 2 := by omega
    have high : (2 : Nat) ^ 30 = 4 ^ i * (4 * 4 ^ (14 - i)) := by
      rw [show (2 : Nat) ^ 30 = 4 ^ 15 from rfl, ← Nat.pow_succ', ← Nat.pow_add]; congr 1; omega
    rw [bitsOf, width, Nat.add_comm (2 * i), Nat.pow_add, ← Nat.div_div_eq_div_mul, shift, Nat.pow_mul, high, ← digit i]
    rw [Nat.mul_left_comm, Nat.add_mul_div_left _ _ (Nat.pow_pos (by decide)), Nat.mul_left_comm]
    exact Nat.add_mul_mod_self_left ..
  rw [word, FlitHead.mk.injEq]
  refine ⟨?_, ?_, ?_, ?types, ?_⟩
  case types =>
    refine List.ext_getElem (by simp [hlen]) fun i h1 h2 => ?_
    rw [List.getElem_map, List.getElem_range, slot i (by omega), List.getD_eq_getElem?_getD, List.getElem?_eq_getElem h2, Option.getD_some]
  all_goals
    simp only [bitsOf, Nat.reduceAdd, Nat.reducePow, Nat.reduceSub]
    omega

/-- Settles O50: the codings by their finite tables, the fields by their places, the CRCs by what the writers put there. -/
theorem linkFormsReadBack : Obligations.LinkFormsReadBack := by
  refine ⟨group_readsBack, groups_readBack, set_readsBack, setFields_readBack, frame_readsBack, levels_readBack, ?_⟩
  intro h payload hkind hseq hack hlen hslots hwvc small
  exact ⟨flitHead_readsBack h payload hkind hseq hack hlen hslots hwvc, flit_crcGood h small⟩

end Sys2Proof.Proofs
end

section
/-! Obligations O7 and O8: commands that the gates keep from the bridge (R190, R443, R488 to R490). -/

namespace Sys2Proof.Proofs

open Sys2Proof Sys2Proof.Machine

/-- A command whose answer is the run of an operation completes with what the operation makes of the bridge. -/
theorem completes_of_run {i : Instr} {s : State} {b : Bridge} {f : Bridge → Bridge} (runs : exec i s = .next (s.run f))
    (own : f s.br.fresh = b) : Completes i s b :=
  ⟨_, runs, State.run_follows own⟩

section Held

variable {b : Bridge} (held : b.heldAll = true) (f : Bridge → Bridge)
include held

/-- A bridge that is held lets nothing through. -/
theorem live_of_held : Bridge.live f b = b := by simp [Bridge.live, held]

theorem link_of_held : Bridge.link f b = b := live_of_held held _

theorem host_of_held : Bridge.host f b = b := link_of_held held _

theorem config_of_held (data : Nat) : Bridge.config data f b = b := host_of_held held _

theorem configRow_of_held (fn : Nat) : Bridge.configRow fn f b = b := config_of_held held _ 1

theorem flrRow_of_held : Bridge.flrRow f b = b := config_of_held held _ 1

theorem access_of_held (posted : Bool) (fn : Nat) : Bridge.access posted fn f b = b := by
  unfold Bridge.access
  split
  · exact live_of_held held f
  · exact host_of_held held _

theorem reg_of_held (fn : Nat) : Bridge.reg fn f b = b := access_of_held held f true fn

theorem regRead_of_held (fn : Nat) : Bridge.regRead fn f b = b := access_of_held held f false fn

end Held

theorem doHostLinkTraining_of_held {b : Bridge} (held : b.heldAll = true) (cxl flit bypass : Bool) (rate width lanes : Nat) (reversed : Bool) :
    doHostLinkTraining cxl flit bypass rate width lanes reversed b = b := by
  simp [doHostLinkTraining, held]

/-- Settles O7: each command that is not the board's or the kennel's passes a gate, or asks itself first whether the bridge is held. -/
theorem heldBridgeTakesNoCommand : Obligations.HeldBridgeTakesNoCommand := by
  intro i s held others
  have h : s.br.fresh.heldAll = true := held
  cases i
  case strideTick | planSeal | glideEnd | pllLockLoss | tamperFire | tamperSourceClear | vbatMeasure | powerFail | powerOnReset | supplyFault
      | startUp | perstAssert | perstDeassert | thermalTrip | sledInserted | sledDeparted | jtagInstruction =>
    exact absurd others Bool.true_eq_false.mp
  case hostLinkTraining => exact completes_of_run rfl (doHostLinkTraining_of_held h ..)
  all_goals
    refine completes_of_run rfl ?_
    simp only [live_of_held h, link_of_held h, host_of_held h, config_of_held h, configRow_of_held h, flrRow_of_held h, reg_of_held h,
      regRead_of_held h]

/-- An access of a function goes through the gate for requests of the host. -/
theorem access_eq_host {fn : Nat} (function : fn < 256) (posted : Bool) (f : Bridge → Bridge) :
    Bridge.access posted fn f = Bridge.host (·.withCredit posted (b2n posted) (fun b => if b.takesMemory fn then f b else b.unsupported fn true 0)) := by
  funext b
  rw [Bridge.access, if_neg (by omega)]

/-- A request of the host runs behind the gate for requests of the host. -/
theorem exec_hostRequest {i : Instr} (s : State) (request : hostRequest i = true) : ∃ f, exec i s = .next (s.run (Bridge.host f)) := by
  have register {fn : Nat} (function : fn < 256) (posted : Bool) (f : Bridge → Bridge) :
      ∃ g, (Host.Outcome.next (s.run (Bridge.access posted fn f)) : Host.Outcome State Fault Refusal) = .next (s.run (Bridge.host g)) :=
    ⟨_, by rw [access_eq_host function]⟩
  cases i
  case windowMemoryRead | windowMemoryWrite | configRead | configWrite | functionLevelReset | vfEnableChange | memEnableWrite
      | hdmDecoderCommit | powerStateWrite | msixEnableChange | interruptDisableWrite | busMasterEnableWrite | unsupportedRequest | pmeTurnOff
      | vendorDefinedMessage | cxlMemrd | cxlMemrddata | cxlMemwr | cxlMemwrptl | cxlMemspecrd | cxlM2sOther | functionMaskWrite
      | setSlotPowerLimit => exact ⟨_, rfl⟩
  case counterClear | eccLastClear | wcbHighWaterReset | faultForce | forceLockSet | snapshotTrigger | snapshotRearm | debugLockSet
      | prbsInjectOne | telemetryLatch | intaPendingClear | intaEnableWrite => exact register (fn := 0) (by decide) true _
  case mailboxDoorbell fn _ | mailboxCommandWrite fn _ _ _ | mailboxDoneAck fn _ | notifyAck fn | mailboxCtrlWrite fn _ | jobDoorbell fn _ _
      | ringEnable fn _ | ringDisable fn _ | semReleaseWrite fn _ | msixTableWrite fn _ _ _ => exact register fn.isLt true _
  case semAcquireRead fn _ => exact register fn.isLt false _
  all_goals exact absurd request Bool.false_eq_true.mp

/-- The gate lets no request through while the host link is down or PERST_N is low. -/
theorem host_of_deaf {b : Bridge} (deaf : b.port.up = false ∨ b.pwr.perstLow = true) (f : Bridge → Bridge) : Bridge.host f b = b := by
  have shut : (b.pwr.perstLow || !b.port.up) = true := by rcases deaf with h | h <;> simp [h]
  simp only [Bridge.host, Bridge.link, Bridge.live, shut, if_true, ite_self]

/-- Settles O8: every request of the host passes the one gate, which is shut while the bridge cannot hear, and lets the arrival alone through
while the power-loss sequence runs. -/
theorem noHostRequestUnheard : Obligations.NoHostRequestUnheard := by
  refine ⟨fun i s request deaf => ?unheard, fun i s request alive perst up step => ?powerLoss⟩
  case unheard =>
    obtain ⟨f, runs⟩ := exec_hostRequest s request
    exact completes_of_run runs (host_of_deaf (b := s.br.fresh) deaf f)
  case powerLoss =>
    obtain ⟨f, runs⟩ := exec_hostRequest s request
    have takes : LinkTakes s s.br.fresh.hostArrives := ⟨alive, perst, up, rfl⟩
    refine completes_of_run runs ?_
    rw [Bridge.host, takes.gate, if_neg step]

end Sys2Proof.Proofs
end

section
/-! Obligations O9, O10, O15 and O2: what a command leaves unchanged, heat, and the FCLK that passes with no command. -/

namespace Sys2Proof.Proofs

open Sys2Proof Sys2Proof.Machine

/-- The near tier holds at a line what landed there last. -/
theorem nearAt_landAll_last (ls : List (Nat × Option Line)) {m : Near} (k : Nat) (c : Option Line) (h : Near.wf m) :
    Tbl.find k (landAll (ls ++ [(k, c)]) m) = c := by
  induction ls generalizing m with
  | nil =>
    cases c with
    | none => exact Tbl.find_del_self h
    | some c => exact Tbl.find_put_self ..
  | cons e t ih =>
    obtain ⟨j, d⟩ := e
    cases d with
    | none => exact ih (Tbl.rising_del h)
    | some d => exact ih (Tbl.rising_put h)

/-- Settles O9: a command's run touches the near tier by what it lands alone. -/
theorem nearTierFrame : Obligations.NearTierFrame := by
  refine ⟨fun s t b frame line follows apart => ?frame, fun ls m frame line c wf => ?last, fun kept s t answer => ?reset⟩
  case frame => rw [nearAt, nearAt, follows.near, landAll_other apart]
  case last => exact nearAt_landAll_last ls _ c wf
  case reset =>
    have power : exec (.powerOnReset kept) s = .next { s.run (doPowerOnReset kept) with near := [] } := rfl
    have supply : exec (.supplyFault true) s = .next { s.run (doSupplyFault true) with near := [] } := rfl
    rcases answer with h | h
    · rw [power] at h; cases h; rfl
    · rw [supply] at h; cases h; rfl

/-- Settles O10: where nothing goes on by itself, settling changes interrupt levels and adds to what is sent. -/
theorem stillBridgeStaysAsLeft : Obligations.StillBridgeStaysAsLeft := by
  intro was b still
  have sent : b.out <+: (was.settle b).out := Bridge.settle_out still
  have rest := Bridge.settle_still still
  generalize was.settle b = after at sent rest
  rw [rest]
  exact ⟨rfl, rfl, rfl, rfl, rfl, rfl, rfl, rfl, rfl, rfl, rfl, rfl, rfl, rfl, rfl, rfl, rfl, rfl, sent⟩

-- Heat

@[simp] theorem pump_herd (n : Nat) (b : Bridge) : (b.pump n).herd = b.herd := by
  dsimp only [Bridge.pump]
  split
  · rfl
  · rfl

@[simp] theorem sendHtl_herd (n vc : Nat) (m : HtlMsg) (b : Bridge) : (b.sendHtl n vc m).herd = b.herd := pump_herd ..

@[simp] theorem msync_herd (n : Nat) (b : Bridge) : (b.msync n).herd = b.herd := by
  dsimp only [Bridge.msync]
  split
  · rfl
  · exact sendHtl_herd ..

@[simp] theorem doMsyncStart_herd (n : Nat) (b : Bridge) : (doMsyncStart n b).herd = b.herd := by
  dsimp only [doMsyncStart]
  split
  · rfl
  · split
    · exact msync_herd ..
    · rfl

@[simp] theorem doYellowAgeing_herd (n : Nat) (b : Bridge) : (doYellowAgeing n b).herd = b.herd := rfl

@[simp] theorem leak_herd (k s : Nat) (b : Bridge) : (b.leak k s).herd = b.herd := by
  dsimp only [Bridge.leak]
  split
  · rfl
  · rfl

@[simp] theorem leakAll_herd (b : Bridge) : b.leakAll.herd = b.herd := by
  refine Bridge.each_keeps Bridge.herd _ _ (fun block b => ?_) b
  refine Bridge.each_keeps Bridge.herd _ _ (fun src b => ?_) b
  split
  · rfl
  · exact leak_herd ..

@[simp] theorem doFuseReverify_herd (b : Bridge) : (doFuseReverify b).herd = b.herd := by
  unfold doFuseReverify
  split
  · rfl
  · rfl

@[simp] theorem doIcuGroupTimeExpiry_herd (g : Nat) (b : Bridge) : (doIcuGroupTimeExpiry g b).herd = b.herd := by
  dsimp only [doIcuGroupTimeExpiry]
  split
  · rfl
  · rfl

/-- The heats after one decay (R110): each loses a part of itself, at least 1, and those that come to 0 are listed no more. -/
def decayedHeat (h : Herder) : Tbl Nat :=
  (h.heat.map (fun e => (e.1, e.2 - Nat.max 1 (e.2 >>> h.tune.decayShift)))).filter (fun e => decide (e.2 ≠ 0))

theorem doHeatDecay_eq (b : Bridge) :
    doHeatDecay b = if b.herd.decayDue then b.modHerd (fun h => { h with decayDue := false, heat := decayedHeat h }) else b := by
  simp only [doHeatDecay, decayedHeat, Tbl.mapv, Herder.decayed, Nat.shiftRight_eq_div_pow]

/-- All that a tick makes due, but for the decay, leaves the Herder alone. -/
theorem tickDue_herd {b : Bridge} (alive : b.heldAll = false) : b.tickDue.herd = (doHeatDecay b).herd := by
  have before : (b.each channels (fun n b => doMsyncStart n (doYellowAgeing n b))).leakAll.herd = b.herd := by
    rw [leakAll_herd]
    exact Bridge.each_keeps Bridge.herd _ _ (fun n b => by rw [doMsyncStart_herd, doYellowAgeing_herd]) b
  rw [Bridge.tickDue, if_neg (by simp [alive])]
  refine (Bridge.each_keeps Bridge.herd _ _ (fun g b => ?_) _).trans ?_
  · dsimp only
    split
    · exact doIcuGroupTimeExpiry_herd ..
    · rfl
  · rw [doFuseReverify_herd, doHeatDecay_eq, doHeatDecay_eq, before]
    split
    · simp only [Bridge.modHerd_herd, before]
    · exact before

/-- Settles O15: the decay is one operation, made due by the tick, and nothing else that the tick makes due touches the Herder. -/
theorem heatDecaysAtItsTicks : Obligations.HeatDecaysAtItsTicks := by
  refine ⟨fun s b live due => ?decays, fun s b live idle => ?stands, fun b => ?tick, fun b alive => ?due⟩
  case decays => exact completes_of_live live rfl (by rw [doHeatDecay_eq, if_pos due]; rfl)
  case stands => exact completes_of_live live rfl (by rw [doHeatDecay_eq, if_neg (by simp [idle])])
  case tick => simp only [Bridge.decayTick, Bridge.modHerd_herd, decide_eq_true_eq, Nat.dvd_iff_mod_eq_zero]
  case due =>
    rw [tickDue_herd alive, doHeatDecay_eq]
    split
    · rfl
    · rfl

@[simp] theorem intaEval_glb (b : Bridge) : b.intaEval.glb = b.glb := by
  dsimp only [Bridge.intaEval]
  split
  · rfl
  · rfl

/-- A new FCLK changes the timestamp, and empties the overruns of the FCLK, among the global registers. -/
@[simp] theorem toTime_glb (t : Nat) (b : Bridge) : (b.toTime t).glb = { b.glb with time := t % 2 ^ 64, overrunNow := 0 } := by
  dsimp only [Bridge.toTime, Bridge.when]
  split
  · rw [intaEval_glb]; rfl
  · rfl

/-- What an FCLK with no command is, told by the timestamp it comes to. -/
theorem idle_eq {b : Bridge} {t : Nat} (next : t = (b.glb.time + 1) % 2 ^ 64) :
    b.idle = if t % 1536 = 0 then (doStrideTick b).tickDue
      else if t % 1536 = 32 && !b.glb.sealedNow then (b.toTime t).sealPlan
      else if t % 1536 = 128 && !b.glb.glideDone then (b.toTime t).endGlide
      else b.toTime t := by
  subst next
  dsimp only [Bridge.idle]
  rw [toTime_glb]
  rfl

/-- An FCLK in which no change of PCX_INTA_EN is due leaves everything else of the bridge. -/
theorem toTime_frame {b : Bridge} {t : Nat} (wrapped : t % 2 ^ 64 = t) (settled : b.port.intaDue = false) :
    b.toTime t = { b with glb := { b.glb with time := t, overrunNow := 0 }, mark := (b.toTime t).mark } := by
  have advances : b.toTime t = b.advance t := if_neg (Bool.eq_false_iff.mp settled)
  rw [advances, Bridge.advance, wrapped]

/-- Settles O2: an FCLK that is no boundary is the passing of time alone; the three boundaries are their own operations. -/
theorem emptyQueuePassesOneFclk : Obligations.EmptyQueuePassesOneFclk := by
  intro s t queue ht
  have idle := idle_eq (b := s.br.fresh) ht
  have idles {b : Bridge} (own : Bridge.idle s.br.fresh = b) : ∃ u, step s = .next u ∧ Follows s b u :=
    ⟨s.run Bridge.idle, by simp only [step, queue], State.run_follows own⟩
  refine ⟨fun no0 no32 no128 => idles ?passes, fun at32 unsealed => idles ?seals, fun at128 glides => idles ?glide, fun at0 => idles ?tick,
    fun settled => toTime_frame (b := s.br.fresh) (by rw [ht, Nat.mod_mod]) settled⟩
  case passes => simp only [idle, no0, no32, no128, if_false, decide_false, Bool.false_and, Bool.false_eq_true]
  case seals => simp [idle, at32, unsealed]
  case glide => simp [idle, at128, glides]
  case tick => rw [idle, if_pos at0]

end Sys2Proof.Proofs
end

section
/-! Obligations O12, O14, O17 and O18: completions of interrupt sources, functions that have no tenant, semaphores, and the stride's boundaries. -/

namespace Sys2Proof.Proofs

open Sys2Proof Sys2Proof.Machine

theorem source_modSrc (i : Nat) (f : Source → Source) (u : Icu) : (u.modSrc i f).source i = f (u.source i) :=
  Tbl.get_put_self ..

/-- A source that core `k` has in service stays so when its level falls (R415). -/
theorem setLevel_keepsService {u : Icu} {i k : Nat} (service : (u.source i).state = .inService) (holder : (u.source i).core = k) :
    ((u.setLevel i false).source i).state = .inService ∧ ((u.setLevel i false).source i).core = k := by
  simp only [Icu.setLevel, service]
  split
  · exact ⟨service, holder⟩
  · split
    · simp [source_modSrc, service, holder]
    · simp [source_modSrc, service, holder]

/-- What resident firmware does in serving a source leaves it with the core that holds it. -/
theorem served_keepsService {b : Bridge} {i k : Nat} (service : (b.icu.source i).state = .inService) (holder : (b.icu.source i).core = k) :
    ((b.served i).icu.source i).state = .inService ∧ ((b.served i).icu.source i).core = k := by
  unfold Bridge.served
  split
  case h_1 m found =>
    have drives : blockSource m = some i := by simpa using List.find?_some found
    simp only [Bridge.serveBlock, drives]
    exact setLevel_keepsService service holder
  case h_2 =>
    split
    · simp only [Bridge.when]
      split
      · exact setLevel_keepsService service holder
      · exact ⟨service, holder⟩
    · simp only [Bridge.when]
      split
      · exact setLevel_keepsService service holder
      · exact ⟨service, holder⟩

/-- The source of a fault block is one that a block drives (R414). -/
theorem blockSource_driven : ∀ m < 56, (blockSource m).all (fun i => !icuReserved i) = true := by decide

/-- Serving a source that no block drives does nothing. -/
theorem served_of_reserved {b : Bridge} {i : Nat} (reserved : icuReserved i = true) : b.served i = b := by
  have ignored (high : Bool) : b.level i high = b := by simp [Bridge.level, Icu.setLevel, reserved]
  unfold Bridge.served
  split
  case h_1 m found =>
    have drives : blockSource m = some i := by simpa using List.find?_some found
    have := blockSource_driven m (List.mem_range.mp (List.mem_of_find?_eq_some found))
    simp [drives, reserved] at this
  case h_2 =>
    split
    case isTrue sled =>
      simp only [Bool.and_eq_true, decide_eq_true_eq] at sled
      simp [icuReserved, sled] at reserved
    case isFalse => rw [Bridge.when, ignored, ite_self]

/-- Settles O12: a source in service stays with its core while it is served, so its completion samples the level again. -/
theorem completionResamplesOrIsDiscarded : Obligations.CompletionResamplesOrIsDiscarded := by
  refine ⟨fun s b k i live number driven service holder => ?resampled, fun s b k i live cause => ?discarded⟩
  case resampled =>
    obtain ⟨service', holder'⟩ := served_keepsService service holder
    refine completes_of_live live rfl ?_
    simp only [doIcuCompleteServed, service, holder, number, decide_true, Bool.and_self, Bridge.when, if_true, doIcuComplete, service', holder',
      driven, and_self, Icu.resample, Icu.modSrc]
  case discarded =>
    have refused : ¬((b.icu.source i).state = .inService ∧ (b.icu.source i).core = k ∧ icuReserved i = false ∧ i < 1022) := by
      rintro ⟨service, holder, driven, number⟩
      simp [service, holder, driven, (Nat.not_le.mpr number)] at cause
    have unserved : b.when (decide ((b.icu.source i).state = .inService) && decide ((b.icu.source i).core = k) && decide (i < 1022)) (·.served i) = b := by
      rw [Bridge.when, ite_eq_right_iff]
      intro held
      simp only [Bool.and_eq_true, decide_eq_true_eq] at held
      obtain ⟨⟨service, holder⟩, number⟩ := held
      refine served_of_reserved ?_
      simpa [service, holder, number] using refused
    refine completes_of_live live rfl ?_
    simp only [doIcuCompleteServed, unserved, doIcuComplete]
    exact if_neg refused

/-- The place of the round is all that a visit changes. -/
theorem visited_fields (b : Bridge) : b.visited.boot = b.boot ∧ b.visited.glb = b.glb ∧ b.visited.ten = b.ten ∧ b.visited.knl = b.knl := by
  unfold Bridge.visited
  split
  · exact ⟨rfl, rfl, rfl, rfl⟩
  · exact ⟨rfl, rfl, rfl, rfl⟩

/-- The mailbox of a function that has no live tenant serves at most IDENTIFY and ECHO (R334). -/
theorem serves_of_dead {b : Bridge} {fn op : Nat} (vf : fn ≠ 0) (dead : (b.inst fn).state ≠ .live) (notIdentify : op ≠ 0x101)
    (notEcho : op ≠ 0x102) : b.serves fn op = false := by
  by_cases base : b.boot.rom = true ∨ b.glb.level = 1
  · simp [Bridge.serves, vf, base]
  · obtain ⟨resident, level⟩ := not_or.mp base
    simp [Bridge.serves, vf, resident, level, dead, notIdentify, notEcho]

/-- Settles O14: the first of the common checks is whether the function's mailbox serves the command (R352, R354). -/
theorem noInstanceNoCommands : Obligations.NoInstanceNoCommands := by
  intro op cls lenOk check act fn slot b vf dead serves oldest opcode notIdentify notEcho
  obtain ⟨-, -, ten, -⟩ := visited_fields b
  have dead' : (b.visited.inst fn).state ≠ .live := by rwa [Bridge.inst, ten]
  have refused : b.visited.commonCheck (b.cmdOf fn slot) cls (lenOk (b.cmdOf fn slot)) = some (3, 0, []) := by
    have unserved : b.visited.serves (b.cmdOf fn slot).ref.fn (b.cmdOf fn slot).ref.op = false := by
      rw [opcode]
      exact serves_of_dead vf dead' notIdentify notEcho
    simp [Bridge.commonCheck, unserved, failIf, firstBad]
  simp only [Bridge.citanRun, serves, oldest, opcode, refused, decide_true, Bool.true_or, Bool.and_self, if_true]

/-- What a semaphore's view shows where someone of the access set, `fn`, reads it: the holder `h`, and whether that is `fn` (R345). -/
theorem semView_of_holder {x : Sem} {fn h : Nat} (access : x.access.getLsbD fn = true) (holder : x.holder = some h) (broken : Bool) :
    x.view fn broken = b2n (decide (h = fn)) + 2 * b2n broken + (8 + 256 * h) := by
  simp only [Sem.view, access, holder, Bool.not_true, Bool.false_eq_true, if_false, Option.some.injEq]

/-- Settles O17, by the access set and the holder. -/
theorem semaphoresHaveOneHolder : Obligations.SemaphoresHaveOneHolder := by
  refine ⟨fun s b fn k takes access free => ?acquired, fun s b fn k h takes access holder => ?told, fun s b fn k takes outside => ?denied,
    fun s b fn k takes holder => ?released, fun s b fn k takes other => ?discarded⟩
  case acquired =>
    refine completes_of_run rfl ((takes.readGate _).trans ?_)
    simp only [doSemAcquireRead, access, free, Bool.not_true, Bool.false_eq_true, if_false]
    rw [semView_of_holder (x := { b.semOf k with holder := some fn.val, broken := false, relAt := none }) access rfl]
    simp only [decide_true, b2n, if_true]
    congr 2
    omega
  case told =>
    refine completes_of_run rfl ((takes.readGate _).trans ?_)
    simp only [doSemAcquireRead, access, holder, Bool.not_true, Bool.false_eq_true, if_false]
    rw [semView_of_holder access holder]
    simp only [b2n, Bool.false_eq_true, if_false]
    congr 2
    omega
  case denied =>
    refine completes_of_run rfl ((takes.readGate _).trans ?_)
    simp only [doSemAcquireRead, outside, Bool.not_false, if_true]
  case released => exact completes_of_run rfl ((takes.writeGate _).trans (if_pos holder))
  case discarded => exact completes_of_run rfl ((takes.writeGate _).trans (if_neg other))

/-- A timestamp that is reached leaves the power states and Citan as they were. -/
theorem toTime_keeps (t : Nat) (b : Bridge) : (b.toTime t).pwr = b.pwr ∧ (b.toTime t).citan = b.citan := by
  dsimp only [Bridge.toTime, Bridge.when, Bridge.intaEval]
  split
  · split
    · exact ⟨rfl, rfl⟩
    · exact ⟨rfl, rfl⟩
  · exact ⟨rfl, rfl⟩

/-- The bridge comes to an FCLK of the stride as it does to a timestamp, unless it is past it. -/
theorem toFclk_keeps (k : Nat) (b : Bridge) : (b.toFclk k).pwr = b.pwr ∧ (b.toFclk k).citan = b.citan := by
  dsimp only [Bridge.toFclk]
  split
  · exact toTime_keeps ..
  · exact ⟨rfl, rfl⟩

/-- Freeing a location changes the Herder's extents, or what lands in the near tier, and nothing else. -/
theorem freeLoc_keeps (l : Loc) (retired : Bool) (b : Bridge) :
    (b.freeLoc l retired).citan = b.citan ∧ (b.freeLoc l retired).herd.freeing = b.herd.freeing := by
  have extents (n x : Nat) (f : SledExt → SledExt) : (b.modExt n x f).citan = b.citan ∧ (b.modExt n x f).herd.freeing = b.herd.freeing :=
    ⟨rfl, rfl⟩
  cases l with
  | near f =>
    have lines {α : Type} (g : Bridge → α) (keeps : ∀ k b, g (Bridge.land f k none b) = g b) :
        g (b.each (List.range 64) (fun k b => b.land f k none)) = g b := Bridge.each_keeps g _ _ keeps b
    exact ⟨lines Bridge.citan (fun _ _ => rfl), lines (fun b => b.herd.freeing) (fun _ _ => rfl)⟩
  | sled c g =>
    rw [Bridge.freeLoc]
    split
    · exact extents ..
    · exact extents ..

theorem freeIdle_citan (b : Bridge) : b.freeIdle.citan = b.citan := by
  rw [Bridge.freeIdle, Bridge.each_keeps Bridge.citan _ _ (fun e b => (freeLoc_keeps _ _ b).1)]
  rfl

/-- After the glide's end, the locations that are still reserved are those in use (R119). -/
theorem freeIdle_freeing (b : Bridge) : b.freeIdle.herd.freeing = b.herd.freeing.filter (fun e => b.locBusy e.1) := by
  rw [Bridge.freeIdle, Bridge.each_keeps (·.herd.freeing) _ _ (fun e b => (freeLoc_keeps _ _ b).2)]
  refine List.filter_congr (fun e member => ?_)
  simp [member]

/-- Stale translation entries are dropped from the channels' caches, and nothing else changes (R78). -/
theorem dropStale_keeps {α : Type} (g : Bridge → α) (caches : ∀ n f b, g (Bridge.modAcc n f b) = g b) (was b : Bridge) :
    g (was.dropStale b) = g b :=
  Bridge.each_keeps g _ _ (fun n b => caches n _ b) b

theorem heatUp_desc (st : Nat → Nat) (g : Nat) (h : Herder) : (h.heatUp st g).desc = h.desc := by
  unfold Herder.heatUp
  split
  · rfl
  · split
    · rfl
    · dsimp only [Herder.enterHeat]
      split
      · rfl
      · split
        · rfl
        · rfl

/-- Samples raise heats alone. -/
theorem applySamples_desc (b : Bridge) : b.applySamples.herd.desc = b.herd.desc := by
  have samples (xs : List Nat) (f : Herder → Nat → Herder) (keeps : ∀ h g, (f h g).desc = h.desc) (h : Herder) :
      (xs.foldl f h).desc = h.desc := by
    induction xs generalizing h with
    | nil => rfl
    | cons x xs ih => rw [List.foldl_cons, ih, keeps]
  dsimp only [Bridge.applySamples, Bridge.modHerd]
  refine samples _ _ (fun h g => ?_) _
  exact heatUp_desc _ g h

/-- Settles O18. -/
theorem ticksSealsAndGlides : Obligations.TicksSealsAndGlides := by
  refine ⟨fun s sealed glided => ?ticks, fun s b x live unsealed at32 => ?seals, fun s b x live sealed unglided idle at128 => ?glides,
    freeIdle_freeing, fun was b => ?frame, fun b => ?maps, fun b p alone ready records command => ?change⟩
  case ticks =>
    refine completes_of_run rfl ?_
    have caught : s.br.fresh.catchUp = s.br.fresh := by simp [Bridge.catchUp, sealed, glided]
    simp only [doStrideTick, caught]
    rfl
  case seals =>
    have x_eq : x = b.toFclk 32 := at32
    have alive : x.heldAll = false := by
      rw [Bridge.heldAll, x_eq, (toFclk_keeps 32 b).1, live.found]
      exact live.alive
    have held : (x.modGlb (fun g => { g with sealedNow := true })).heldAll = false := alive
    refine completes_of_run rfl ?_
    rw [← live.found, doPlanSeal, unsealed, ← x_eq, Bridge.sealPlan]
    simp only [held, Bool.false_eq_true, if_false]
  case glides =>
    have x_eq : x = b.toFclk 128 := at128
    obtain ⟨pwr, citan⟩ := toFclk_keeps 128 b
    have held : (x.modGlb (fun g => { g with glideDone := true })).heldAll = false := by
      show (x.pwr.por || x.pwr.held || x.pwr.dead) = false
      rw [x_eq, pwr, live.found]
      exact live.alive
    have none : (x.modGlb (fun g => { g with glideDone := true })).freeIdle.citan.prepared = [] := by
      rw [freeIdle_citan, Bridge.modGlb_citan, x_eq, citan, idle]
    refine completes_of_run rfl ?_
    rw [← live.found, doGlideEnd, unglided, doPlanSeal, sealed, if_neg Bool.false_ne_true, if_pos rfl, ← x_eq, Bridge.endGlide]
    simp only [held, none, Bool.false_eq_true, if_false, List.filter_nil, Bridge.each, List.foldl_nil]
    rw [← none]
  case frame =>
    exact ⟨dropStale_keeps Bridge.glb (fun _ _ _ => rfl) was b, dropStale_keeps Bridge.herd (fun _ _ _ => rfl) was b,
      dropStale_keeps Bridge.ten (fun _ _ _ => rfl) was b, dropStale_keeps Bridge.citan (fun _ _ _ => rfl) was b,
      dropStale_keeps Bridge.jrn (fun _ _ _ => rfl) was b, dropStale_keeps Bridge.port (fun _ _ _ => rfl) was b⟩
  case maps => 
    refine ⟨((b.modFuses (fun f => { f with due := f.due || decide (b.stride % 2 ^ 20 = 0) })).modKnl (fun k => { k with timeCopy := b.glb.time })).decayTick.applySamples,
      ?desc, ?citan, ?glb, ?tick⟩
    case desc => exact (applySamples_desc _)
    case citan => rfl
    case glb => rfl
    case tick => rfl
  case change =>
    simp only [Bridge.applyPrepared, alone, Bridge.each, List.foldl_cons, List.foldl_nil, ready, records, command, Bool.not_true, Bool.false_eq_true, if_true,
      if_false, Option.isSome_none]

end Sys2Proof.Proofs
end

section
/-! Obligations O19, O20 and O21: the scheduler's units, from the queue to their end. -/

namespace Sys2Proof.Proofs

open Sys2Proof Sys2Proof.Machine

/-- A unit carried over from an earlier stride comes first: the destination part of a copy, while its link carries traffic (R44). -/
theorem offerCarried_of_copyDst {b : Bridge} {n : Nat} {w : Bool × Bool × Bool} {u : WorkUnit} {rest : List WorkUnit} {c first k : Nat}
    (carried : (b.chan n).sch.carried = u :: rest) (kind : u.kind = .copyDst c first k) (open' : b.linkOpen n = true) (clear : w.1 = false) :
    b.offerCarried n w = (true, b.admitDst n k u) := by
  simp [Bridge.offerCarried, carried, kind, open', clear]

/-- The head list's first unit is admitted where it lacks nothing, no window holds what it needs, and it is ready (R49). -/
theorem offerHead_of_admissible {b : Bridge} {n : Nat} {u : WorkUnit} {rest : List WorkUnit} (head : (b.chan n).sch.head = u :: rest)
    (lacks : (b.chan n).sch.headLacks u.cls (b.planOf n u).cost = (false, false, false)) (ready : b.ready n u (b.planOf n u) = true)
    (ceiling : u.cls ≠ 5 ∨ (b.chan n).sch.ceilOk (b.planOf n u).cost = true) :
    b.offerHead n (false, false, false) = (b.modSch n (fun s => s.takeHead u.cls (b.planOf n u).cost)).admitUnit n u (b.planOf n u)
      ((b.chan n).sch.headFromRsv u.cls (b.planOf n u).cost) {} := by
  simp [Bridge.offerHead, head, lacks, ready, ceiling]

/-- A channel that is not fenced decides on admission in every power state up to an entry into Doze. -/
theorem doAdmissionDecision_of_open {b : Bridge} {n : Nat} (unfenced : b.chFenced n = false) (awake : b.pwr.state ≤ 2) :
    doAdmissionDecision n b
      = if (b.offerCarried n (b.windowBlock n)).1 then (b.offerCarried n (b.windowBlock n)).2
        else (b.offerCarried n (b.windowBlock n)).2.offerHead n (b.windowBlock n) := by
  have run : ¬(b.chFenced n || decide (b.pwr.state = 3) || decide (b.pwr.state = 4)) = true := by
    simp only [unfenced, Bool.false_or, Bool.or_eq_true, decide_eq_true_eq]
    omega
  rw [doAdmissionDecision, if_neg run]

/-- Settles O19, clause by clause: what arrives is queued, what is carried comes before the head list, and ageing is its own definition. -/
theorem unitsAreQueuedAndAdmitted : Obligations.UnitsAreQueuedAndAdmitted := by
  refine ⟨⟨fun s b n send live unfenced => ?arrives,
    fun s b n u rest live unfenced awake carried head lacks window ready ceiling => ?admitted,
    fun s b n u rest c first k live unfenced awake carried kind open' window => ?carried⟩, fun s b n live => ?aged⟩
  case arrives => exact completes_of_live live rfl (if_neg (Bool.eq_false_iff.mp unfenced))
  case admitted =>
    refine completes_of_live live rfl ?_
    have nothing : b.offerCarried n (b.windowBlock n) = (false, b) := by simp [Bridge.offerCarried, carried]
    rw [doAdmissionDecision_of_open unfenced awake, nothing, window]
    exact offerHead_of_admissible head lacks ready ceiling
  case carried =>
    refine completes_of_live live rfl ?_
    rw [doAdmissionDecision_of_open unfenced awake, offerCarried_of_copyDst carried kind open' window]
    rfl
  case aged => exact completes_of_live live rfl rfl

/-- No place of a unit is one that an earlier access still owes something. -/
theorem no_earlier {b : Bridge} {r : Running} (earlier : ∀ p ∈ r.places, b.earlierOn r.seq p = false) :
    (r.places.any fun p => b.earlierOn r.seq p) = false := by
  simpa using earlier

/-- Settles O20. -/
theorem unitsFinishOrOverrun : Obligations.UnitsFinishOrOverrun := by
  refine ⟨⟨fun s b n uid r live running idle earlier sent kind => ?finishes, fun s b n uid ln l w r live running idle earlier sent kind => ?scrubbed,
    fun s b n uid ln r live running idle earlier sent kind here => ?drained,
    fun s b n uid ln r live running idle earlier kind report => ?reported⟩,
    fun s b n uid r live running late first => ?overrun, fun s b n r live member late up => ?grace⟩
  case finishes =>
    refine completes_of_live live rfl ?_
    obtain ⟨c, kind⟩ | ⟨x, kind⟩ := kind
    · simp [doUnitComplete, running, idle, sent, no_earlier earlier, kind]
    · simp [doUnitComplete, running, idle, sent, no_earlier earlier, kind]
  case scrubbed => exact completes_of_live live rfl (by simp [doUnitComplete, running, idle, sent, no_earlier earlier, kind])
  case drained => exact completes_of_live live rfl (by simp [doUnitComplete, running, idle, sent, no_earlier earlier, kind, here])
  case reported =>
    refine completes_of_live live rfl ?_
    simp [doRemoteCompletionReport, running, kind, report, idle, no_earlier earlier]
  case overrun =>
    have overdue : b.overruns n r 0 = true := decide_eq_true (by rw [Nat.add_zero]; exact late)
    refine completes_of_live live rfl ?_
    simp only [doSchedulerOverrun, running, overdue, first, Bool.not_true, Bool.false_eq_true, if_false]
  case grace =>
    have overdue : (b.chan n).sch.running.any (fun r => b.overruns n r ((b.chan n).ll.graceUs * 1500)) = true :=
      List.any_eq_true.mpr ⟨r, member, decide_eq_true late⟩
    refine completes_of_live live rfl ?_
    rw [doOverrunGraceExpiry, if_pos overdue, Bridge.takeDown, up]

/-- A step of the self-test within what class 6 may take at once is queued (R505). -/
theorem doOnlineSelfTestStep_queued {b : Bridge} {n : Nat} {cost : Slots} (unfenced : b.chFenced n = false)
    (out : cost.out ≤ (b.chan n).sch.unitMost b.glb.shares.2.2) (inb : cost.inb ≤ (b.chan n).sch.unitMost b.glb.shares.2.2)
    (eng : cost.eng ≤ (b.chan n).sch.unitMost b.glb.shares.2.2) :
    doOnlineSelfTestStep n false cost none false b
      = b.enqueue n { id := 0, cls := 6, inst := 0, kind := .selfTest cost, port := 3 } := by
  simp [doOnlineSelfTestStep, unfenced, (Nat.not_lt.mpr out), (Nat.not_lt.mpr inb), (Nat.not_lt.mpr eng)]

/-- Settles O21. -/
theorem scrubAndSelfTestAreQueued : Obligations.ScrubAndSelfTestAreQueued := by
  refine ⟨fun s b n first lines live unfenced scrubs some' most granule extent => ?scrub,
    fun s b n out inb eng live unfenced outs inbs engs => ⟨?step, ?last⟩⟩
  case scrub =>
    refine completes_of_live live rfl (if_neg ?_)
    have nonzero : lines ≠ 0 := by omega
    simp [unfenced, scrubs, nonzero, most, ← granule, Option.isSome_iff_ne_none.mp extent]
  case step => exact completes_of_live live rfl (doOnlineSelfTestStep_queued unfenced outs inbs engs)
  case last =>
    exact completes_of_live live rfl
      (doOnlineSelfTestStep_queued (b := { b with pwr := { b.pwr with stCycles := cnt32 b.pwr.stCycles 1 } }) unfenced outs inbs engs)

end Sys2Proof.Proofs
end

section
/-! Obligations O22, O23 and O24: window requests of the host, and near-tier data. -/

namespace Sys2Proof.Proofs

open Sys2Proof Sys2Proof.Machine

/-- A read of memory that is not in service is answered with poison, before its segment is looked up (R21, R86). -/
theorem readReq_of_unserved {b : Bridge} (unserved : b.memoryServed = false) (cxl : Bool) (fn tag addr len since : Nat) :
    b.readReq cxl fn tag addr len since = b.poisonRead cxl fn tag addr len fn := by
  simp [Bridge.readReq, unserved]

theorem memoryServed_of_out {b : Bridge} (out : b.glb.level < 2 ∨ b.ten.fenced = true) : b.memoryServed = false := by
  obtain base | fenced := out
  · simp [Bridge.memoryServed, Nat.not_le.mpr base]
  · simp [Bridge.memoryServed, fenced]

section PortReq

variable {b : Bridge} (q : PortReq)

/-- A request has the next number. -/
def numbered (b : Bridge) : Bridge := b.modPort (fun p => { p with nextReq := p.nextReq + 1 })

/-- A request with nothing held before it that can go on runs (R88, R92). -/
theorem portReq_runs {c : Bridge} (free : b.port.held = []) (open' : b.pwr.holdOver = false) (runs : (numbered b).runReq q = (none, c)) :
    b.portReq q = c := by
  have runs' : (b.modPort (fun p => { p with nextReq := b.port.nextReq + 1 })).runReq q = (none, c) := runs
  simp [Bridge.portReq, free, open', runs']

/-- A request with nothing held before it that cannot go on waits as what is left of it (R92). -/
theorem portReq_waits {w : PortReq} {c : Bridge} (free : b.port.held = []) (open' : b.pwr.holdOver = false)
    (waits : (numbered b).runReq q = (some w, c)) : b.portReq q = c.hold b.port.nextReq q w := by
  have waits' : (b.modPort (fun p => { p with nextReq := b.port.nextReq + 1 })).runReq q = (some w, c) := waits
  simp [Bridge.portReq, free, open', waits']

/-- A request behind a held one is held (R88). -/
theorem portReq_behind (held : b.port.held ≠ []) : b.portReq q = (numbered b).hold b.port.nextReq q q := by
  simp only [Bridge.portReq, Bridge.modPort_port, List.isEmpty_eq_false_iff.mpr held, Bool.false_and, Bool.false_eq_true, if_false]
  rfl

end PortReq

/-- Settles O22: the checks of a window read, in their order, and then the port's queue of requests. -/
theorem windowReads : Obligations.WindowReads := by
  refine ⟨fun s b fn tag addr len takes up pcie function window most block => ?served, fun cxl fn tag addr len since b out => ?poisoned,
    fun s b fn tag addr len takes up cause => ⟨?read, fun data be ep => ?write⟩⟩
  case served =>
    have read : doWindowMemoryRead fn tag addr len b
        = b.portReq (if len = 0 then .flush fn tag addr else .read fn tag addr len b.glb.time) := by
      simp [doWindowMemoryRead, Bridge.withCredit, up, pcie, function, window, takes.credit, crosses4k, (Nat.not_lt.mpr most), (Nat.not_lt.mpr block)]
    have gate {c : Bridge} (own : b.portReq (if len = 0 then .flush fn tag addr else .read fn tag addr len b.glb.time) = c) :
        Completes (.windowMemoryRead fn tag addr len) s c :=
      completes_of_run rfl ((takes.toHostTakes.gate _).trans (read.trans own))
    refine ⟨fun free open' some' => gate ?_, fun free open' none => gate ?_, fun held some' => gate ?_⟩
    · rw [if_neg some']
      exact portReq_runs _ free open' rfl
    · rw [if_pos none]
      exact portReq_runs _ free open' rfl
    · rw [if_neg some']
      exact portReq_behind _ held
  case poisoned => exact readReq_of_unserved (memoryServed_of_out out) ..
  case read =>
    refine completes_of_run rfl ((takes.gate _).trans ?_)
    have refused : (b.port.cxl || !b.takesMemory fn || !b.inWindow fn addr) = true := by simpa [or_assoc] using cause
    simp only [doWindowMemoryRead, up, refused, Bool.not_true, Bool.false_eq_true, if_false, if_true]
  case write =>
    refine completes_of_run rfl ((takes.gate _).trans ?_)
    have refused : (b.port.cxl || !b.takesMemory fn || !b.inWindow fn addr) = true := by simpa [or_assoc] using cause
    simp only [doWindowMemoryWrite, up, refused, Bool.not_true, Bool.false_eq_true, if_false, if_true]

/-- What the host's held requests use of its credits, once one more is held (R219). -/
theorem creditUse_hold (b : Bridge) (k : Nat) {q : PortReq} (w : PortReq) {c : Bool × Nat} (credit : q.credit = some c) :
    (b.hold k q w).port.creditUse c.1 = ((b.port.creditUse c.1).1 + 1, (b.port.creditUse c.1).2 + c.2) := by
  have kept : (b.port.rxBuf.filter (fun e => b.port.held.any (fun h => decide (h.1 = e.1)))).filter
        (fun e => e.2.1 == c.1 && (b.port.held ++ [(k, w)]).any (fun h => decide (h.1 = e.1)))
      = b.port.rxBuf.filter (fun e => e.2.1 == c.1 && b.port.held.any (fun h => decide (h.1 = e.1))) := by
    rw [List.filter_filter]
    refine List.filter_congr (fun e _ => ?_)
    rw [List.any_append]
    cases b.port.held.any (fun h => decide (h.1 = e.1)) <;> simp
  simp only [HostPort.creditUse, Bridge.hold, Bridge.modPort_port, credit, List.filter_append, kept]
  simp

/-- Settles O23. -/
theorem windowWrites : Obligations.WindowWrites := by
  refine ⟨fun s b fn addr data be takes up pcie function window most block => ⟨fun poor ep => ?overflow, fun credit => ?entered⟩,
    fun b k q w c credit => ⟨rfl, congrArg Prod.fst (creditUse_hold b k w credit), congrArg Prod.snd (creditUse_hold b k w credit)⟩,
    fun s b b1 k q rest live held runs => ?released⟩
  case overflow =>
    refine completes_of_run rfl ((takes.gate _).trans ?_)
    simp [doWindowMemoryWrite, Bridge.withCredit, up, pcie, function, window, poor, crosses4k, (Nat.not_lt.mpr most), (Nat.not_lt.mpr block)]
  case entered =>
    have write : doWindowMemoryWrite fn addr data be false b
        = (b.modPort (fun p => { p with rxWr := p.rxWr + data.length })).portReq (.write fn addr data be false) := by
      simp [doWindowMemoryWrite, Bridge.withCredit, up, pcie, function, window, credit, crosses4k, (Nat.not_lt.mpr most), (Nat.not_lt.mpr block)]
    have gate {c : Bridge} (own : (b.modPort (fun p => { p with rxWr := p.rxWr + data.length })).portReq (.write fn addr data be false) = c) :
        Completes (.windowMemoryWrite fn addr data be false) s c :=
      completes_of_run rfl ((takes.gate _).trans (write.trans own))
    exact ⟨fun free open' b2 runs => gate (portReq_runs _ free open' runs), fun free open' w b2 waits => gate (portReq_waits _ free open' waits),
      fun behind => gate (portReq_behind _ behind)⟩
  case released =>
    refine completes_of_live live rfl ?_
    simp only [doWcbEntryWaitEnd, held, List.length_cons, Bridge.releaseHeld, runs]

/-- Settles O24: the place that the data comes from is on the near tier, and the unit's kind says who awaits it. -/
theorem nearDataReachesItsUnit : Obligations.NearDataReachesItsUnit := by
  intro s b n uid idx ln f check r live running place awaited earlier
  refine ⟨fun rid a k kind => ?host, fun lane a k kind => ?retriever, fun l kind => ?drain, fun a k kind => ?scrub,
    fun c u i p lost kind => ?second⟩
  all_goals
    refine completes_of_live live rfl ?_
    simp only [doReadDataReturn, running, place, awaited, earlier, kind, Bool.not_true, Bool.or_self, Bool.false_eq_true, if_false]

end Sys2Proof.Proofs
end

section
/-! Obligations O25 to O28: configuration requests, function resets, configuration fields, and completions of the bridge's own reads. -/

namespace Sys2Proof.Proofs

open Sys2Proof Sys2Proof.Machine

/-- A configuration request behind its gate. -/
theorem completes_of_config {i : Instr} {s : State} {b c : Bridge} {data : Nat} {f : Bridge → Bridge} (takes : TlpTakes s false data b)
    (runs : exec i s = .next (s.run (Bridge.config data f))) (own : f b = c) : Completes i s c :=
  completes_of_run runs ((takes.configGate f).trans own)

/-- A configuration write with a row of its own, behind its gate. -/
theorem completes_of_configRow {i : Instr} {s : State} {b c : Bridge} {fn : Nat} {f : Bridge → Bridge} (takes : TlpTakes s false 1 b)
    (ready : b.cfgRetry fn = false) (runs : exec i s = .next (s.run (Bridge.configRow fn f))) (own : f b = c) : Completes i s c :=
  completes_of_run runs ((takes.rowGate ready f).trans own)

/-- A request of the host behind its gate. -/
theorem completes_of_host {i : Instr} {s : State} {b c : Bridge} {f : Bridge → Bridge} (takes : HostTakes s b)
    (runs : exec i s = .next (s.run (Bridge.host f))) (own : f b = c) : Completes i s c :=
  completes_of_run runs ((takes.gate f).trans own)

/-- An event of the host link behind its gate. -/
theorem completes_of_link {i : Instr} {s : State} {b c : Bridge} {f : Bridge → Bridge} (takes : LinkTakes s b)
    (runs : exec i s = .next (s.run (Bridge.link f))) (own : f b = c) : Completes i s c :=
  completes_of_run runs ((takes.gate f).trans own)

/-- A write of all four bytes of a register leaves nothing of its old value. -/
theorem doConfigWrite_allBytes {fn tag dword value : Nat} {b : Bridge} (there : b.exists fn = true) (ready : b.cfgRetry fn = false) :
    doConfigWrite fn tag dword value 15 b
      = (if fn = 0 then b.cfgWritePf0 (4 * dword) (value &&& 0xFFFFFFFF) else b.cfgWriteVf fn (4 * dword) (value &&& 0xFFFFFFFF)).emit
          (.cpl fn tag 0 [] false) := by
  have bits : bitOf 15 0 = true ∧ bitOf 15 1 = true ∧ bitOf 15 2 = true ∧ bitOf 15 3 = true := ⟨rfl, rfl, rfl, rfl⟩
  obtain ⟨bit0, bit1, bit2, bit3⟩ := bits
  have mask : 0xFF + 0xFF00 + 0xFF0000 + 0xFF000000 = 0xFFFFFFFF := rfl
  simp only [doConfigWrite, there, ready, Bool.not_true, Bool.false_eq_true, if_false, bit0, bit1, bit2, bit3, if_true, mask,
    Nat.xor_self, Nat.and_zero, Nat.or_zero]

/-- Settles O25: whether the function exists, and whether it is under retry status, come before the register. -/
theorem configurationRequestsComplete : Obligations.ConfigurationRequestsComplete := by
  refine fun s b fn tag dword => ⟨fun takes there ready => ?read, fun takes there ready value => ?write,
    fun takes there retry => ⟨fun plain => ?retried, fun zero visible => ?shown⟩, fun takes there retry value be => ?writeRetried,
    fun takes absent => ?absent⟩
  case read => exact completes_of_config takes rfl (by simp [doConfigRead, there, ready])
  case write => exact completes_of_config takes rfl (doConfigWrite_allBytes there ready)
  case retried =>
    have hidden : ¬(dword = 0 ∧ b.port.rrsVis = true) := by
      rintro ⟨zero, visible⟩
      simp [zero, visible] at plain
    exact completes_of_config takes rfl (by simp [doConfigRead, there, retry, hidden])
  case shown => exact completes_of_config takes rfl (by simp [doConfigRead, there, retry, zero, visible, leBytes])
  case writeRetried => exact completes_of_config takes rfl (by simp [doConfigWrite, there, retry])
  case absent => exact completes_of_config takes rfl (by simp [doConfigRead, absent])

/-- Settles O26. -/
theorem functionResets : Obligations.FunctionResets := by
  refine ⟨fun s b fn takes level there vf => ?vf, fun s b takes level => ?pf0, fun s b fn live => ?complete, fun s b takes ready off level => ?enable,
    fun s b takes ready => ?disable⟩
  case vf => exact completes_of_run rfl ((takes.flrGate level _).trans (by simp [doFunctionLevelReset, there, vf]))
  case pf0 => exact completes_of_run rfl ((takes.flrGate level _).trans (by simp [doFunctionLevelReset, Bridge.exists]))
  case complete => exact completes_of_live live rfl rfl
  case enable => exact completes_of_configRow takes ready rfl (by simp [doVfEnableChange, off, (Nat.not_lt.mpr level)])
  case disable => exact completes_of_configRow takes ready rfl rfl

/-- PF0 out of D3hot keeps the link from the L1 that D3hot of every function asks for (R196). -/
theorem allD3_of_pf0 {b : Bridge} (awake : (b.func 0).power ≠ 3) : b.allD3 = false := by
  refine List.all_eq_false.mpr ⟨0, ?_, ?_⟩
  · rw [List.mem_range]
    omega
  · simp [awake]

theorem func_modFunc (fn k : Nat) (f : Func → Func) (b : Bridge) :
    (b.modFunc fn f).func k = if k = fn then f (b.func fn) else b.func k := by
  split
  case isTrue same => rw [same]; exact Tbl.get_put_self ..
  case isFalse other => exact Tbl.get_put_ne _ _ _ other

/-- Settles O27. -/
theorem configurationFieldsAct : Obligations.ConfigurationFieldsAct := by
  refine ⟨fun s b on takes ready => ?memEnable, fun s b dec base size iw ig skip lock takes unlocked => ⟨fun sound => ?commits, fun bad => ?fails⟩,
    fun s b fn takes ready there awake => ?d0, fun s b fn on takes ready there vf => ⟨fun change => ?msix, ?mask, ?master⟩,
    fun s b on takes ready => ?disable, fun s b value takes => ?slot, fun s b takes => ⟨?dropped, ?refused⟩, fun s b takes up => ?off⟩
  case memEnable => exact completes_of_configRow takes ready rfl rfl
  case commits => exact completes_of_host takes rfl (by simp only [doHdmDecoderCommit, unlocked, sound, Bool.false_eq_true, if_false, if_true])
  case fails => exact completes_of_host takes rfl (by simp only [doHdmDecoderCommit, unlocked, bad, Bool.false_eq_true, if_false])
  case d0 =>
    have pf0 : ((b.modFunc fn (fun f => { f with power := 0 })).func 0).power ≠ 3 := by
      rw [func_modFunc]
      split
      · exact Nat.zero_ne_add_one 2
      · exact awake.resolve_left (Ne.symm ‹_›)
    refine completes_of_configRow takes ready rfl ?_
    simp [doPowerStateWrite, there, allD3_of_pf0 pf0]
  case msix => exact completes_of_configRow takes ready rfl (by simp [doMsixEnableChange, there, change, vf])
  case mask => exact completes_of_configRow takes ready rfl (by simp [doFunctionMaskWrite, there])
  case master => exact completes_of_configRow takes ready rfl (by simp [doBusMasterEnableWrite, there])
  case disable => exact completes_of_configRow takes ready rfl rfl
  case slot => exact completes_of_host takes rfl rfl
  case dropped => exact completes_of_host takes rfl rfl
  case refused => exact completes_of_host takes rfl rfl
  case off => exact completes_of_host takes rfl (if_pos up)

/-- Settles O28. -/
theorem requestsAndCompletionsAnswered : Obligations.RequestsAndCompletionsAnswered := by
  refine ⟨⟨fun s b fn tag takes => ?completed, fun s b fn tag takes => ?posted⟩, fun s b tag status data takes none => ?unexpected,
    fun s b tag id data o takes found use => ?consumer, fun s b tag status data o takes found bad => ?failed,
    fun s b tag o live found enabled => ?timeout⟩
  case completed => exact completes_of_host takes rfl rfl
  case posted => exact completes_of_host takes rfl rfl
  case unexpected =>
    refine completes_of_link takes rfl ?_
    simp only [doHostCompletionReceive, none, Bool.false_eq_true, if_false]
    rfl
  case consumer =>
    refine completes_of_link takes rfl ?_
    simp only [doHostCompletionReceive, found, use, Bool.false_eq_true, if_false, ne_eq, not_true_eq_false, or_self]
  case failed =>
    refine completes_of_link takes rfl ?_
    simp only [doHostCompletionReceive, found, bad, Bool.false_eq_true, if_false, ne_eq, not_false_eq_true, true_or, if_true, Bool.false_and]
    rfl
  case timeout =>
    refine completes_of_live live rfl ?_
    simp only [doCompletionTimeout, found, enabled, Bool.false_eq_true, if_false]
    rfl

end Sys2Proof.Proofs
end

section
/-! Obligations O29 and O30: CXL.mem requests, and events of the host link. -/

namespace Sys2Proof.Proofs

open Sys2Proof Sys2Proof.Machine

/-- The DPA at which a decoder's range begins is told by the decoders alone (R214). -/
theorem dpaBase_of_hdm {p q : HostPort} (decoders : p.hdm = q.hdm) (i : Nat) : p.dpaBase i = q.dpaBase i := by
  induction i with
  | zero => simp only [HostPort.dpaBase, decoders]
  | succ i ih => simp only [HostPort.dpaBase, decoders, ih]

/-- Data received counts for nothing in the decoding of an HPA. -/
theorem dpaServed_received (n hpa : Nat) (b : Bridge) :
    (b.modPort (fun p => { p with rxWr := p.rxWr + n })).dpaServed hpa = b.dpaServed hpa := by
  have dpa (p : HostPort) : HostPort.dpa { p with rxWr := p.rxWr + n } hpa = p.dpa hpa := by
    have base := dpaBase_of_hdm (p := { p with rxWr := p.rxWr + n }) (q := p) rfl
    simp only [HostPort.dpa, base]
  simp only [Bridge.dpaServed, Bridge.modPort_port, dpa]
  rfl

/-- Settles O29: an HPA that a decoder serves goes to the port's queue at its DPA; one that none serves is answered at once. -/
theorem cxlMemRequests : Obligations.CxlMemRequests := by
  intro s b takes cxl
  refine ⟨fun tag hpa a served free open' => ?read, fun tag hpa unserved => ?unbackedRead, fun tag hpa data unserved => ?unbackedWrite,
    fun tag hpa a data be c served free open' runs => ?write, fun hpa => ?speculative, fun op => ?other⟩
  case read =>
    have own : Bridge.cxlRead tag hpa b
        = (b.modPort (fun p => { p with nextReq := p.nextReq + 1 })).readReq true 0 tag (a / 64 * 64) 64 b.glb.time := by
      simp only [Bridge.cxlRead, cxl, served, Bool.not_true, Bool.false_eq_true, if_false]
      exact portReq_runs _ free open' rfl
    exact ⟨completes_of_host takes rfl own, completes_of_host takes rfl own⟩
  case unbackedRead =>
    have own : Bridge.cxlRead tag hpa b = (b.unbackedNone none hpa).poisonRead true 0 tag 0 64 0 := by
      simp [Bridge.cxlRead, cxl, unserved]
    exact ⟨completes_of_host takes rfl own, completes_of_host takes rfl own⟩
  case unbackedWrite =>
    have own (be : LineMask) : Bridge.cxlWrite tag hpa data be false b
        = ((b.modPort (fun p => { p with rxWr := p.rxWr + 64 })).unbackedNone none hpa).emit (.cmp tag 0) := by
      have unserved' : (b.modPort (fun p => { p with rxWr := p.rxWr + 64 })).dpaServed hpa = none := by
        rw [dpaServed_received, unserved]
      simp [Bridge.cxlWrite, cxl, unserved']
    exact ⟨completes_of_host takes rfl (own _), fun be => completes_of_host takes rfl (own be)⟩
  case write =>
    have own : Bridge.cxlWrite tag hpa data be false b = c := by
      have served' : (b.modPort (fun p => { p with rxWr := p.rxWr + 64 })).dpaServed hpa = some a := by
        rw [dpaServed_received, served]
      simp only [Bridge.cxlWrite, cxl, served', Bool.not_true, Bool.false_eq_true, if_false]
      exact portReq_runs _ free open' runs
    exact ⟨completes_of_host takes rfl own, fun full => completes_of_host takes rfl (full ▸ own)⟩
  case speculative => exact completes_of_host takes rfl rfl
  case other =>
    refine completes_of_host takes rfl ?_
    simp only [doCxlM2sOther, cxl, Bool.not_true, Bool.false_eq_true, if_false]
    rfl

/-- Training takes place where the bridge lives, PERST_N is high, the silicon fits, the port is not fenced, and the link is down with a mode
(R190). -/
theorem trains {s : State} {b : Bridge} (live : Live s b) (perst : b.pwr.perstLow = false) (fit : b.pwr.unfit = false)
    (unfenced : b.port.fenced = false) (down : b.port.up = false) (mode : b.port.noMode = false) :
    (b.heldAll || b.pwr.perstLow || b.pwr.unfit || b.port.fenced || b.port.up || b.port.noMode) = false := by
  have alive : b.heldAll = false := by
    rw [live.found]
    exact live.alive
  simp [alive, perst, fit, unfenced, down, mode]

/-- A partner whose mode is the latched one, if any is, is not refused (R190). -/
theorem mode_agrees {p : HostPort} {cxl : Bool} (agreed : p.modeLatched = true → p.cxl = cxl) : (p.modeLatched && p.cxl != cxl) = false := by
  cases latched : p.modeLatched
  · rfl
  · simp [agreed latched]

/-- Settles O30: each event's own conditions, and for training whether the mode agrees and how wide the link comes up. -/
theorem hostLinkEvents : Obligations.HostLinkEvents := by
  refine ⟨fun s b takes => ?hotReset, fun s b live up => ?down,
    fun s b cxl flit bypass reversed rate width lanes w live perst fit unfenced down mode => ⟨fun latched other => ?refused,
      fun agreed some' => ⟨fun fewer => ?degraded, fun all kept => ?full⟩⟩,
    fun s b width takes up flit most listed => ?l0p, fun s b live up flit active quiet => ?narrow, fun s b live up idle aspm => ?l1,
    fun s b live up l1 allowed => ?l12, fun s b live => ⟨fun x listed => ?correctable, fun x listed => ?uncorrectable, fun enabled => ?nine,
      fun cxl => ?ten⟩⟩
  case hotReset => exact completes_of_link takes rfl rfl
  case down => exact completes_of_live live rfl (by simp only [doHostLinkDown, up, Bool.not_true, Bool.false_eq_true, if_false])
  case refused =>
    refine completes_of_run rfl ?_
    rw [← live.found]
    have differs : (b.port.modeLatched && b.port.cxl != cxl) = true := by simp [latched, other]
    simp only [doHostLinkTraining, trains live perst fit unfenced down mode, Bridge.emit_port, differs, Bool.false_eq_true, if_false, if_true]
  case degraded =>
    refine completes_of_run rfl ?_
    rw [← live.found]
    simp only [doHostLinkTraining, trains live perst fit unfenced down mode, Bridge.emit_port, mode_agrees agreed, some', fewer, Bool.false_eq_true, if_false, if_true]
    cases cxl <;> rfl
  case full =>
    refine completes_of_run rfl ?_
    rw [← live.found]
    simp only [doHostLinkTraining, trains live perst fit unfenced down mode, Bridge.emit_port, mode_agrees agreed, some', all, Nat.lt_irrefl, Bridge.modPort_glb, Bridge.emit_glb, kept, Bool.false_eq_true, if_false]
    cases cxl <;> rfl
  case l0p =>
    have accepted : (b.port.up && b.port.flit && decide (width ≤ b.port.width) && [1, 2, 4, 8, 16].contains width) = true := by
      simpa [up, flit, most] using listed
    exact completes_of_link takes rfl (if_pos accepted)
  case narrow => exact completes_of_live live rfl (if_pos (by simp [up, flit, active, quiet]))
  case l1 => exact completes_of_live live rfl (if_pos (by simp [up, idle, aspm]))
  case l12 => exact completes_of_live live rfl (if_pos (by simp [up, l1, allowed]))
  case correctable =>
    simp only [List.mem_cons, List.not_mem_nil, or_false] at listed
    obtain rfl | rfl | rfl | rfl | rfl | rfl := listed
    all_goals exact completes_of_live live rfl rfl
  case uncorrectable =>
    simp only [List.mem_cons, List.not_mem_nil, or_false] at listed
    obtain rfl | rfl | rfl := listed
    all_goals exact completes_of_live live rfl rfl
  case nine => exact completes_of_live live rfl (if_pos enabled)
  case ten => exact completes_of_live live rfl (if_pos cxl)

end Sys2Proof.Proofs
end

section
/-! Obligations O31 to O35: register accesses by their form, counter clears, mailbox slots and rings, and the registers with an effect of their own. -/

namespace Sys2Proof.Proofs

open Sys2Proof Sys2Proof.Machine

/-- A register write behind its gate. -/
theorem completes_of_regWrite {i : Instr} {s : State} {b c : Bridge} {fn : Nat} {f : Bridge → Bridge} (takes : RegTakes s true fn b)
    (runs : exec i s = .next (s.run (Bridge.reg fn f))) (own : f b = c) : Completes i s c :=
  completes_of_run runs ((takes.writeGate f).trans own)

/-- A register read behind its gate. -/
theorem completes_of_regRead {i : Instr} {s : State} {b c : Bridge} {fn : Nat} {f : Bridge → Bridge} (takes : RegTakes s false fn b)
    (runs : exec i s = .next (s.run (Bridge.regRead fn f))) (own : f b = c) : Completes i s c :=
  completes_of_run runs ((takes.readGate f).trans own)

/-- A 4-byte read at a boundary that acquires no semaphore gives the word that is read. -/
theorem doLoRegisterRead_word {b : Bridge} {who a : Nat} (aligned : a % 4 = 0) (plain : semAt who a = none) :
    doLoRegisterRead who a 4 b = (b.readWord who a).2.emit (.regData (b.readWord who a).1) := by
  simp [doLoRegisterRead, goodForm, aligned, plain]

/-- Settles O31: what is read is the word of the register the map lists, and the form is looked at before the register. -/
theorem registerAccesses : Obligations.RegisterAccesses := by
  refine ⟨fun s b who a takes aligned plain known => ?reads, fun s b who v takes pf0 word => ?scratch,
    fun s b who a v size bad => ⟨fun takes outside => ?badWrite, fun takes => ?badRead⟩, fun s b who a v size takes pba => ?pba,
    fun s b who a v size takes function => ?poisoned⟩
  case reads =>
    have defined : ¬((who.val = 0 ∨ 256 ≤ who.val) ∧ firmwareOwned a = true) := by
      rintro ⟨pf0, owned⟩
      simp [known pf0] at owned
    have read {c : Bridge} (own : (b.readWord who a).2.emit (.regData (b.readWord who a).1) = c) : Completes (.loRegisterRead who a 4) s c :=
      completes_of_regRead takes rfl ((doLoRegisterRead_word aligned plain).trans own)
    refine ⟨fun none => read ?_, fun v found => read ?_, fun v found => read ?_, fun v found => read ?_⟩
    · simp only [Bridge.readWord, if_neg defined, none]
    · simp only [Bridge.readWord, if_neg defined, found]
    · simp only [Bridge.readWord, if_neg defined, found]
    · simp only [Bridge.readWord, if_neg defined, found]
  case scratch =>
    have outside : pbaAt who 0x40 = false := by
      obtain zero | core := pf0
      · simp [pbaAt, zero, bar4At]
      · simp [pbaAt, (Nat.not_lt.mpr core)]
    have own : who.val = 0 ∨ 256 ≤ who.val → b.writeWord who 0x40 v = b.pf0Write 0x40 v := by
      rintro (zero | core)
      · simp [Bridge.writeWord, zero, bar4At]
      · simp [Bridge.writeWord, (Nat.not_lt.mpr core), bar4At]
    refine completes_of_regWrite takes rfl ?_
    simp only [Bool.false_and, Bool.false_eq_true, if_false, doRegisterWrite, outside, goodForm, Nat.mod_eq_of_lt word]
    exact own pf0
  case badWrite =>
    refine completes_of_regWrite takes rfl ?_
    simp [doRegisterWrite, outside, bad]
    rfl
  case badRead =>
    refine completes_of_regRead takes rfl ?_
    simp [doLoRegisterRead, bad]
    rfl
  case pba =>
    refine completes_of_regWrite takes rfl ?_
    simp [doRegisterWrite, pba]
  case poisoned =>
    refine completes_of_regWrite takes rfl ?_
    simp [function]
    rfl

/-- Settles O32: the address names the block, and each block's clear is its own definition. -/
theorem countersAreCleared : Obligations.CountersAreCleared := by
  refine ⟨fun s b m takes => ⟨fun n => ?channel, fun k block => ?block, ?herder, ?journal, ?tenancy, ?scans, ?port, ?telemetry, ?power⟩,
    fun mask k was v => rfl, fun b m => ⟨rfl, rfl, rfl, rfl, rfl, rfl, rfl⟩, fun was h m => ⟨rfl, rfl⟩,
    fun was c m => ⟨rfl, rfl, rfl, rfl, rfl, rfl⟩⟩
  case channel =>
    have clears (off : Nat) (inside : off < 0x80000) :
        doCounterClear (0x1000000 + n * 0x80000 + off) m b = b.clearChannel n off m := by
      have range : 0x1000000 ≤ 0x1000000 + n.val * 0x80000 + off ∧ 0x1000000 + n.val * 0x80000 + off < 0x1880000 := by omega
      have channel : (0x1000000 + n.val * 0x80000 + off - 0x1000000) / 0x80000 = n := by omega
      have register : (0x1000000 + n.val * 0x80000 + off) % 0x80000 = off := by omega
      exact (if_pos range).trans (by rw [channel, register])
    exact ⟨completes_of_regWrite takes rfl (clears 0x18 (by decide)), completes_of_regWrite takes rfl (clears 0x2010 (by decide)),
      completes_of_regWrite takes rfl (clears 0x4010 (by decide)), completes_of_regWrite takes rfl (clears 0x5010 (by decide)),
      completes_of_regWrite takes rfl rfl, completes_of_regWrite takes rfl rfl⟩
  case block =>
    have below : ¬(0x1000000 ≤ 0x410010 + k * 0x400 ∧ 0x410010 + k * 0x400 < 0x1880000) := by omega
    have view : 0x410000 ≤ 0x410010 + k * 0x400 ∧ 0x410010 + k * 0x400 < 0x41E000 ∧ (0x410010 + k * 0x400) % 0x400 = 0x10 := by omega
    have number : (0x410010 + k * 0x400 - 0x410000) / 0x400 = k := by omega
    exact completes_of_regWrite takes rfl (((if_neg below).trans (if_pos view)).trans (by rw [number]))
  case herder => exact completes_of_regWrite takes rfl rfl
  case journal => exact completes_of_regWrite takes rfl rfl
  case tenancy => exact completes_of_regWrite takes rfl rfl
  case scans => exact completes_of_regWrite takes rfl rfl
  case port => exact completes_of_regWrite takes rfl rfl
  case telemetry => exact completes_of_regWrite takes rfl rfl
  case power => exact completes_of_regWrite takes rfl rfl

/-- The mask of one slot names that slot. -/
theorem setBits_one (slot : Fin 8) : setBits (2 ^ slot.val) 8 = [slot.val] := by
  revert slot
  decide

/-- A change of a mailbox is told by what it makes of that mailbox. -/
theorem modMbx_congr {b : Bridge} {fn : Nat} {f g : Mailbox → Mailbox} (same : f (b.mbx fn) = g (b.mbx fn)) : b.modMbx fn f = b.modMbx fn g := by
  simp only [Bridge.mbx] at same
  simp only [Bridge.modMbx, Bridge.modTen, same]

/-- Settles O33: a slot's state, and a ring's enable and size, decide. -/
theorem mailboxSlotsAndRings : Obligations.MailboxSlotsAndRings := by
  refine ⟨fun s b fn slot takes => ⟨fun free => ⟨fun word value inside => ?stored, ?posted⟩, fun busy => ⟨fun word value inside => ?discarded, ?refused⟩,
    fun done => ?freed, fun r n => ?ctrl⟩,
    fun s b fn k takes ring => ⟨fun disabled => ?enables, ?disables, fun tail word within => ?rings, fun tail word beyond => ?beyond⟩⟩
  case stored =>
    exact completes_of_regWrite takes rfl (by simp only [doMailboxCommandWrite, if_neg (Nat.not_le.mpr inside), free, if_true])
  case posted =>
    refine completes_of_regWrite takes rfl ?_
    simp only [doMailboxDoorbell, setBits_one, Bridge.each, List.foldl_cons, List.foldl_nil, free, if_true]
  case discarded =>
    exact completes_of_regWrite takes rfl (by simp only [doMailboxCommandWrite, if_neg (Nat.not_le.mpr inside), if_neg busy])
  case refused =>
    refine completes_of_regWrite takes rfl ?_
    simp only [doMailboxDoorbell, setBits_one, Bridge.each, List.foldl_cons, List.foldl_nil, if_neg busy]
  case freed =>
    refine completes_of_regWrite takes rfl (modMbx_congr ?_)
    simp only [setBits_one, List.foldl_cons, List.foldl_nil, done, if_true]
  case ctrl =>
    have resp : bitOf (b2n r + 2 * b2n n) 0 = r := by revert r n; decide
    have notify : bitOf (b2n r + 2 * b2n n) 1 = n := by revert r n; decide
    exact completes_of_regWrite takes rfl (by simp only [doMailboxCtrlWrite, resp, notify])
  case enables => exact completes_of_regWrite takes rfl (if_neg (by simp [disabled, ring]))
  case disables => exact completes_of_regWrite takes rfl (if_neg (Nat.not_le.mpr ring))
  case rings =>
    refine completes_of_regWrite takes rfl ?_
    simp only [doJobDoorbell, if_neg (Nat.not_le.mpr ring), Nat.mod_eq_of_lt word, if_neg (Nat.not_lt.mpr within)]
  case beyond =>
    refine completes_of_regWrite takes rfl ?_
    simp only [doJobDoorbell, if_neg (Nat.not_le.mpr ring), Nat.mod_eq_of_lt word, if_pos beyond]

/-- Settles O34. -/
theorem faultAndServiceRegisters : Obligations.FaultAndServiceRegisters := by
  intro s b takes
  refine ⟨fun k src unlocked other => ?forced, fun unlocked => ?forcedTenancy, fun first => ?locked, fun armed first => ?triggered,
    fun disarmed => ?missed, ?rearmed, fun was at0 => ?latched, fun first => ?debug, fun n k quiet => ?injected⟩
  case forced => exact completes_of_regWrite takes rfl (by simp only [doFaultForce, unlocked, if_neg other, Bool.false_eq_true, if_false])
  case forcedTenancy => exact completes_of_regWrite takes rfl (by simp [doFaultForce, unlocked])
  case locked => exact completes_of_regWrite takes rfl (if_neg (Bool.eq_false_iff.mp first))
  case triggered => exact completes_of_regWrite takes rfl (by simp [doSnapshotTrigger, Bridge.trigger, Bridge.snapTrigger, Bridge.modFlt, armed, first])
  case missed => exact completes_of_regWrite takes rfl (by simp [doSnapshotTrigger, Bridge.trigger, Bridge.snapTrigger, disarmed])
  case rearmed => exact completes_of_regWrite takes rfl rfl
  case latched =>
    subst at0
    exact completes_of_regWrite takes rfl rfl
  case debug => exact completes_of_regWrite takes rfl (if_neg (Bool.eq_false_iff.mp first))
  case injected => exact completes_of_regWrite takes rfl (if_neg (Bool.eq_false_iff.mp quiet))

/-- Settles O35. -/
theorem hostInterruptRegisters : Obligations.HostInterruptRegisters := by
  refine ⟨fun s b mask takes => ⟨?cleared, ?enabled⟩, fun t b due => ?evaluated, fun s b live => ?paced,
    fun s b fn v value takes served entry => ?table⟩
  case cleared => exact completes_of_regWrite takes rfl rfl
  case enabled => exact completes_of_regWrite takes rfl rfl
  case evaluated => exact if_pos due
  case paced => exact completes_of_live live rfl rfl
  case table =>
    have present : ¬(!b.takesMemory fn || decide (Nat.max 1 (b.vectors fn) ≤ v)) = true := by
      simp only [served, Bool.not_true, Bool.false_or, decide_eq_true_eq, Nat.not_le]
      exact entry
    exact ⟨completes_of_regWrite takes rfl (if_neg present), completes_of_regWrite takes rfl (if_neg present),
      completes_of_regWrite takes rfl (if_neg present), completes_of_regWrite takes rfl (if_neg present)⟩

end Sys2Proof.Proofs
end

section
/-! Obligation O36: the interrupt controller's commands. -/

namespace Sys2Proof.Proofs

open Sys2Proof Sys2Proof.Machine

/-- Settles O36: what a claim finds, and which edge, round or timer has come. -/
theorem interruptControllerCommands : Obligations.InterruptControllerCommands := by
  refine fun s b live => ⟨fun k i unfenced enabled serves best number => ?claimed, fun k unfenced nothing => ?none, fun k v word => ?threshold,
    fun on => ?disable, fun i other driven serves low => ?rises, fun g round timed due grouped serves => ?fires, fun t => ?timer⟩
  case claimed =>
    refine completes_of_live live rfl ?_
    simp only [doIcuClaim, unfenced, enabled, serves, best, number, Bool.or_self, Bool.false_eq_true, if_false, if_true]
    rfl
  case none =>
    refine completes_of_live live rfl ?_
    cases off : (b.icu.gdis || b.icu.fenced)
    · obtain ⟨enabled, serves⟩ := Bool.or_eq_false_iff.mp off
      have none : b.bestFor k = none := by simpa [enabled, serves] using nothing
      cases withdrawn : ((b.icu.port k).withdrawn && (b.icu.port k).withdrawnLater)
      · simp [doIcuClaim, unfenced, enabled, serves, none, withdrawn, ← Bool.and_eq_true]
      · simp [doIcuClaim, unfenced, enabled, serves, none, withdrawn, ← Bool.and_eq_true]
    · have disabled : ¬(b.icu.gdis = false ∧ b.icu.fenced = false ∧ (b.icu.port k).withdrawn = true ∧ (b.icu.port k).withdrawnLater = true) := by
        rintro ⟨enabled, serves, -⟩
        simp [enabled, serves] at off
      simp only [doIcuClaim, unfenced, off, if_neg disabled, if_true, Bool.false_eq_true, if_false]
      rfl
  case threshold => exact completes_of_live live rfl (by rw [doIcuThresholdWrite, Nat.mod_eq_of_lt word])
  case disable => exact completes_of_live live rfl rfl
  case rises =>
    refine completes_of_live live rfl ?_
    simp [Bridge.sourceLevel, Bridge.when, other, doIcuSourceLevelChange, Bridge.level, Icu.setLevel, driven, serves, low]
  case fires =>
    have member : g.val ≠ 0 := fun zero => grouped (Fin.ext zero)
    exact completes_of_live live rfl (if_pos ⟨round, timed, due, member, serves⟩)
  case timer => exact completes_of_live live rfl (if_pos t.isLt)

end Sys2Proof.Proofs
end

section
/-! How a Citan command that resident firmware takes completes, and obligations O37 and O38: reports, diagnostics, keys and the tamper latch. -/

namespace Sys2Proof.Proofs

open Sys2Proof Sys2Proof.Machine

@[simp] theorem badAt_eq_none {off : Nat} {bad : Bool} : badAt off bad = none ↔ bad = false := by
  cases bad <;> simp [badAt]

@[simp] theorem failIf_eq_none {status : Nat} {bad : Bool} : failIf bad status = none ↔ bad = false := by
  cases bad <;> simp [failIf]

/-- A command that passes its own checks has the effect of its row (R352). -/
theorem completes_of_citan {i : Instr} {s : State} {fn slot op : Nat} {cls : Caller} {b b' : Bridge} {c : Cmd} {f : Bridge → Bridge}
    {lenOk : Cmd → Bool} {check : Cmd → Bridge → Option Answer} {act : Cmd → Bridge → Bridge} (takes : CitanTakes s fn slot op cls b c)
    (runs : exec i s = .next (s.run (Bridge.live f))) (row : f s.br.fresh = s.br.fresh.citanRun op cls lenOk check act fn slot)
    (length : lenOk c = true) (passes : check c b = none) (own : act c b = b') : Completes i s b' :=
  completes_of_run runs (((takes.liveGate f).trans (row.trans (takes.gate length passes))).trans own)

/-- A command that one of its own checks refuses is answered with what that check finds, and does nothing else (R352). -/
theorem citanRun_refused {s : State} {fn slot op : Nat} {cls : Caller} {b : Bridge} {c : Cmd} {lenOk : Cmd → Bool}
    {check : Cmd → Bridge → Option Answer} {act : Cmd → Bridge → Bridge} {r : Answer} (takes : CitanTakes s fn slot op cls b c)
    (length : lenOk c = true) (refused : check c b = some r) :
    s.br.fresh.citanRun op cls lenOk check act fn slot = b.respond c.ref r.1 r.2.1 0 r.2.2 := by
  have given := takes.given
  have found := takes.found
  simp [Bridge.citanRun, takes.serves, takes.oldest, ← given, ← found, takes.opcode, length, takes.common, refused]

/-- A change of a lane is told by what it makes of that lane. -/
theorem modLane_congr {b : Bridge} {n k : Nat} {f g : Lane → Lane} (same : f ((b.phy n).ln k) = g ((b.phy n).ln k)) :
    b.modLane n k f = b.modLane n k g := by
  simp only [Bridge.phy] at same
  simp only [Bridge.modLane, Bridge.modPhy, Bridge.modCh, same]

/-- A lane that is put back as it was reads as before, as do the others. -/
theorem ln_modLane_self (b : Bridge) (n k j : Nat) : ((b.modLane n k (fun l => l)).phy n).ln j = (b.phy n).ln j := by
  simp only [Bridge.modLane, Bridge.modPhy_phy, Phy.ln]
  by_cases same : j = k
  · rw [same, Tbl.get_put_self]
  · rw [Tbl.get_put_ne _ _ _ same]

/-- The counts that come with the end of a lane test are those of locked checkers: with no lane locked they change nothing (R271). -/
theorem each_lane_unlocked {n : Nat} (f : Nat → Lane → Lane) (unlocked : ∀ k l, l.prbsLock = false → f k l = l) (lanes : List Nat) (b : Bridge)
    (none : ∀ k, ((b.phy n).ln k).prbsLock = false) :
    b.each lanes (fun k b => b.modLane n k (f k)) = b.each lanes (fun k b => b.modLane n k (fun l => l)) := by
  induction lanes generalizing b with
  | nil => rfl
  | cons k lanes ih =>
    have first : b.modLane n k (f k) = b.modLane n k (fun l => l) := modLane_congr (unlocked k _ (none k))
    simp only [Bridge.each, List.foldl_cons, first]
    exact ih _ (fun j => by rw [ln_modLane_self, none j])

/-- Settles O37: each row's checks find nothing under its clause's conditions, and its effect is the row's own. -/
theorem reportsAndDiagnostics : Obligations.ReportsAndDiagnostics := by
  refine ⟨⟨fun s b fn slot c takes len => ?identify, fun s b fn slot c takes len => ?echo, fun s b fn slot c takes len => ?service,
      fun s b fn slot c takes len => ⟨fun none => ?opNone, fun o alone running tag caller => ?opRuns, fun o alone ended tag caller => ?opEnded⟩,
      fun s b fn slot c takes len => ?tamper⟩,
    fun s b fn slot c takes len chan pattern rate zero1 some' bound zero2 free idle => ?laneTest,
    fun s b n live testing test unlocked => ?laneTestEnd,
    fun s b fn slot c takes len kind unit part level testable free => ?selfTest, fun s b unit o live runs => ?selfTestEnd,
    fun s b fn slot c takes len on => ?hold, fun s b fn slot c takes len held idle level => ?release⟩
  case identify => exact completes_of_citan takes rfl rfl (decide_eq_true len) rfl rfl
  case echo => exact completes_of_citan takes rfl rfl (decide_eq_true len) rfl rfl
  case service => exact completes_of_citan takes rfl rfl (decide_eq_true len) rfl rfl
  case opNone =>
    have mine : b.citan.ops.filter (fun o => decide (o.tag = c.u 16 4) && (decide (c.ref.fn = 0) || decide (o.fn = c.ref.fn))) = [] :=
      List.filter_eq_nil_iff.mpr (fun o member => by simp [none o member])
    exact completes_of_citan takes rfl rfl (decide_eq_true len) rfl (by simp [mine, Bridge.ok])
  case opRuns =>
    exact completes_of_citan takes rfl rfl (decide_eq_true len) rfl (by simp [alone, running, tag, caller, Bridge.ok])
  case opEnded =>
    exact completes_of_citan takes rfl rfl (decide_eq_true len) rfl (by simp [alone, ended, tag, caller, Bridge.ok])
  case tamper => exact completes_of_citan takes rfl rfl (decide_eq_true len) rfl rfl
  case laneTest =>
    refine completes_of_citan takes rfl rfl (decide_eq_true len) ?_ rfl
    have served : (!b.chFenced (c.u 16 1) && (b.chan (c.u 16 1)).svc.admitted) = false := by
      obtain fenced | away := free
      · simp [fenced]
      · simp [away]
    simp [firstBad_cons, served, idle, zero1, zero2, chan, pattern, rate, bound]
    omega
  case laneTestEnd =>
    refine completes_of_live live rfl ?_
    simp only [doLaneTestDurationExpiry, testing, test, decide_true, Bool.true_or, Bool.and_self, if_true]
    rw [each_lane_unlocked _ (fun k l open' => if_neg (Bool.eq_false_iff.mp open')) _ _ unlocked]
  case selfTest =>
    refine completes_of_citan takes rfl rfl (decide_eq_true len) ?_ ?_
    · have object : b.opBusy (unitObj 1 (c.u 17 1) 0) = false := free
      simp [firstBad_cons, unitChecks, object, kind, part, unit, testable]
      omega
    · simp only [kind, unitObj, if_true]
      rfl
  case selfTestEnd =>
    have found : b.opOn 0x106 (unitObj 1 unit 0) = some o := runs
    exact completes_of_live live rfl (by simp [doSelfTestEnd, found])
  case hold => exact completes_of_citan takes rfl rfl (decide_eq_true len) (badAt_eq_none.mpr (by simpa using on)) rfl
  case release =>
    exact completes_of_citan takes rfl rfl (decide_eq_true len) (badAt_eq_none.mpr (by simp [held, idle, level])) rfl

/-- A key that an import needs is there: the import is not refused (R323, R460). -/
theorem unwrapFails_of_some {c : Cmd} {b : Bridge} (key : c.u 17 1 = 1 → (c.unwrapped b).isSome = true) : c.unwrapFails b = false := by
  rw [Cmd.unwrapFails, Bool.and_eq_false_iff, decide_eq_false_iff_not]
  by_cases imported : c.u 17 1 = 1
  · exact .inr (Option.isNone_eq_false_iff.mpr (key imported))
  · exact .inl imported

/-- The kennel seals a new generation, and keeps an import's key under it (R323, R458). -/
theorem newKey_eq {c : Cmd} {b : Bridge} (i : Nat) (key : c.u 17 1 = 1 → (c.unwrapped b).isSome = true) :
    c.newKey i b = b.modKnl (fun k => { (k.sealKey i b.knl.nextGen) with
      nextGen := b.knl.nextGen + 1
      imported := if c.u 17 1 = 1 then Tbl.put b.knl.nextGen ((c.unwrapped b).getD 0) k.imported else k.imported }) := by
  by_cases imported : c.u 17 1 = 1
  · obtain ⟨v, given⟩ := Option.isSome_iff_exists.mp (key imported)
    simp only [Cmd.newKey, Bridge.modKnl, imported, given, if_true, Option.getD_some]
  · simp only [Cmd.newKey, Bridge.modKnl, imported, if_false]

/-- A tenant that is live is neither being created nor torn down (R363). -/
theorem instBusy_of_live {b : Bridge} {i : Nat} (live : (b.inst i).state = .live) : b.instBusy i = false := by
  simp [Bridge.instBusy, live]

/-- Settles O38. -/
theorem keyAndTamperCommands : Obligations.KeyAndTamperCommands := by
  refine ⟨fun s b fn slot c takes len count zero serial mac works inactive => ?release,
    fun s b fn slot c takes len live source zero free clear works fields key => ?change,
    fun s b fn slot c healthy takes len live source zero free clear lost => ?fenced⟩
  case release =>
    have authentic : (bitOf (b.fuse 3) 3 && !c.macGood b) = false := by
      obtain unkeyed | good := mac
      · simp [unkeyed]
      · simp [good]
    exact completes_of_citan takes rfl rfl (decide_eq_true len)
      (by simp [count, zero, serial, authentic, works, inactive]) rfl
  case change =>
    refine completes_of_citan takes rfl rfl (decide_eq_true len) ?_ ?_
    · simp [firstBad_cons, live, source, zero, instBusy_of_live live, free, clear, works, fields, unwrapFails_of_some key]
    · simp only [newKey_eq _ key]
  case fenced =>
    have lost' : s.br.fresh.knl.lost = true := by
      obtain ⟨-, -, -, knl⟩ := visited_fields s.br.fresh
      rw [← knl, ← takes.found, lost]
    have found : s.br.fresh.entropy healthy = s.br.fresh := if_pos (by rw [lost', Bool.or_true])
    refine completes_of_run rfl ((takes.liveGate _).trans ?_)
    rw [found]
    refine citanRun_refused (r := (7, 0, [])) takes (decide_eq_true len) ?_
    simp [live, source, zero, instBusy_of_live live, free, clear, lost, failIf, firstBad, Nat.not_lt_of_ge]

end Sys2Proof.Proofs
end

section
/-! Obligations O39 to O41: instances, settings, placement, evacuation, mirrors and cancels. -/

namespace Sys2Proof.Proofs

open Sys2Proof Sys2Proof.Machine

/-- Settles O39. -/
theorem instanceCommands : Obligations.InstanceCommands := by
  refine ⟨fun s b fn slot c takes len vf none' source grant zero fields clear works journals pools key => ?create,
    fun s b fn slot c takes len vf live journals => ?teardown, fun s b i t live tearing torn quiet late drained => ?drained,
    fun s b fn slot c takes len none' => ?query, fun s b fn slot c takes len live zero range some' most => ?segments⟩
  case create =>
    refine completes_of_citan takes rfl rfl (decide_eq_true len) ?_ rfl
    simp [vf, none', (Nat.not_lt.mpr source), grant, zero, fields, clear, works, journals.checks, pools, key]
  case teardown =>
    refine completes_of_citan takes rfl rfl (decide_eq_true len) ?_ rfl
    simp [vf, live, instBusy_of_live live, journals.checks]
  case drained =>
    refine completes_of_live live rfl ?_
    have due : ¬(b.glb.time < t * strideLen + 128 || !b.drained i) = true := by
      simp only [drained, Bool.not_true, Bool.or_false, decide_eq_true_eq, Nat.not_lt]
      exact late
    simp only [doTeardownDrained, tearing, torn, if_neg due, quiet]
  case query =>
    exact completes_of_citan takes rfl rfl (decide_eq_true len) rfl (by simp [none', Bridge.ok])
  case segments =>
    refine completes_of_citan takes rfl rfl (decide_eq_true len) ?_ ?_
    · simp [firstBad_cons, Bridge.wholeInst, live, zero, instBusy_of_live live, range, most,
        Nat.one_le_iff_ne_zero.mp some']
    · refine congrArg (fun words : Nat → List Byte => b.respond c.ref 0 0 0 ((List.range (c.u 24 1)).flatMap words))
        (funext fun k => congrArg (leBytes 8) ?_)
      cases b.segAt (c.u 16 1) (c.u 20 4 + k) with
      | none => rfl
      | some e => rw [Option.map_some, Option.getD_some]

theorem bitOf_zero (k : Nat) : bitOf 0 k = false := by simp [bitOf]

/-- A TUNE_SET that names no field leaves the tunables as they are to be (R132). -/
theorem tune_of_none {c : Cmd} (t : Tune) (fields : c.u 16 2 = 0) : c.tune t = t := by
  simp [Cmd.tune, fields, bitOf_zero]

/-- Checks that find nothing, however many, find nothing together. -/
theorem firstBad_replicate (n : Nat) : firstBad (List.replicate n none) = none := by
  induction n with
  | zero => rfl
  | succ n ih => rw [List.replicate_succ, firstBad_none, ih]

/-- Settles O40: each setting's fields are within their limits, and its change is prepared. -/
theorem settingsArePrepared : Obligations.SettingsArePrepared := by
  refine ⟨fun s b fn slot c takes len zero zero1 grant clear works journals pools => ?inst0,
    fun s b fn slot c takes len least most journals cxl => ?vfLimit,
    fun s b fn slot c takes len vf live colour zero some' range journals => ?precolour,
    fun s b fn slot c takes len sem zero => ?semAccess, fun s b fn slot c takes len => ?semRelease,
    fun s b fn slot c takes len live set chg zero some' most alloc clash journals => ?hints,
    fun s b fn slot c takes len fields order zero journals => ?tune,
    fun s b fn slot c takes len c4 c5 some' c6 sum journals => ?shares, fun s b fn slot c takes len most journals => ?reserve,
    fun s b fn slot c takes len on holdup sleds journals => ?persist, fun s b fn slot c takes len most journals => ?veto,
    fun s b fn slot c takes len block kind level some' most journals => ?classify⟩
  case inst0 =>
    refine completes_of_citan takes rfl rfl (decide_eq_true len) ?_ rfl
    simp [zero, zero1, grant, clear, works, journals.checks, pools]
  case vfLimit =>
    refine completes_of_citan takes rfl rfl (decide_eq_true len) ?_ rfl
    simp [(Nat.not_lt.mpr least), (Nat.not_lt.mpr most), journals.checks, cxl]
    split <;> rfl
  case precolour =>
    refine completes_of_citan takes rfl rfl (decide_eq_true len) ?_ rfl
    simp [firstBad_cons, Bridge.wholeInst, vf, live, (Nat.not_lt.mpr colour), zero, range, Nat.one_le_iff_ne_zero.mp some', instBusy_of_live live, journals.checks]
  case semAccess =>
    refine completes_of_citan takes rfl rfl (decide_eq_true len) ?_ rfl
    simp [firstBad_cons, sem, zero]
  case semRelease => exact completes_of_citan takes rfl rfl (decide_eq_true len) rfl rfl
  case hints =>
    refine completes_of_citan takes rfl rfl (decide_eq_true len) ?_ (by rw [set])
    have each := List.all_eq_true.mp clash
    have clashes : ((b.withHints.extentsIn (c.u 16 1) (c.u 20 4) (c.u 24 4)).map (Desc.hint 0 (c.u 18 1))).any Desc.hintClash = false :=
      List.any_eq_false.mpr (fun d member => by simpa using (Bool.and_eq_true_iff.mp (each d member)).1)
    have pins : ((b.withHints.extentsIn (c.u 16 1) (c.u 20 4) (c.u 24 4)).map (Desc.hint 0 (c.u 18 1))).filter (fun d => d.pinNear) = [] :=
      List.filter_eq_nil_iff.mpr (fun d member => by simpa using (Bool.and_eq_true_iff.mp (each d member)).2)
    simp [-List.any_map, live, set, bitOf_zero, (Nat.not_le.mpr chg), zero, alloc, (Nat.not_lt.mpr most), Nat.one_le_iff_ne_zero.mp some', instBusy_of_live live, clashes, pins,
      journals.checks]
  case tune =>
    refine completes_of_citan takes rfl rfl (decide_eq_true len) ?_ rfl
    simp [firstBad_cons, tune_of_none _ fields, fields, bitOf_zero, List.map_const', firstBad_replicate, order, zero, journals.checks]
  case shares =>
    refine completes_of_citan takes rfl rfl (decide_eq_true len) ?_ rfl
    simp [firstBad_cons, c4, c5, c6, sum, Nat.one_le_iff_ne_zero.mp some', journals.checks]
  case reserve =>
    refine completes_of_citan takes rfl rfl (decide_eq_true len) ?_ rfl
    simp [firstBad_cons, most, journals.checks]
  case persist =>
    refine completes_of_citan takes rfl rfl (decide_eq_true len) ?_ rfl
    by_cases enabled : c.u 16 1 = 1
    · obtain ⟨least, most⟩ := holdup enabled
      simp [enabled, (Nat.not_lt.mpr least), (Nat.not_lt.mpr most), sleds enabled, journals.checks]
    · simp [enabled, (Nat.not_lt.mpr on), journals.checks]
  case veto =>
    refine completes_of_citan takes rfl rfl (decide_eq_true len) ?_ rfl
    simp [firstBad_cons, most, journals.checks]
  case classify =>
    refine completes_of_citan takes rfl rfl (decide_eq_true len) ?_ rfl
    obtain corrected | error := kind
    · simp [firstBad_cons, block, corrected, Nat.one_le_iff_ne_zero.mp level, Nat.one_le_iff_ne_zero.mp some', most, journals.checks]
    · simp [firstBad_cons, block, error, Nat.one_le_iff_ne_zero.mp level, Nat.one_le_iff_ne_zero.mp some', most, journals.checks]

/-- A ring that a live tenant has passes the checks of a command about rings (R156). -/
theorem ringChecks_of_live {c : Cmd} {b : Bridge} (live : (b.inst (c.u 16 1)).state = .live)
    (ring : c.u 17 1 < (b.inst (c.u 16 1)).grant.rings) : firstBad (c.ringChecks b) = none := by
  simp [firstBad_cons, Cmd.ringChecks, live, ring]

/-- Settles O41. -/
theorem placementAndCancelCommands : Obligations.PlacementAndCancelCommands := by
  refine ⟨⟨fun s b fn slot c takes len live zero some' most => ?query,
      fun s b fn slot c takes len chan unfenced herder idle free journals room => ?evacuate,
      fun s b fn slot c takes len chan state evacuating journals => ?stop, fun s b n live evacuating moved quiet => ?evacuated,
      fun s b fn slot c o takes len chan unfenced admitted herder free journals found whole => ?restore,
      fun s b n i idx o e live op seg valid mirrored degraded home unfenced alt first => ?restored⟩,
    fun s b b1 fn slot c st n left takes len live ring recent cancelled known => ?job,
    fun s b fn slot c takes len live ring zero => ?rings⟩
  case query =>
    refine completes_of_citan takes rfl rfl (decide_eq_true len) ?_ rfl
    simp [firstBad_cons, live, zero, most, Nat.one_le_iff_ne_zero.mp some', instBusy_of_live live]
  case evacuate =>
    refine completes_of_citan takes rfl rfl (decide_eq_true len) ?_ rfl
    simp [(Nat.not_le.mpr chan), unfenced, herder, idle, free, journals.checks, (Nat.not_lt.mpr room)]
  case stop =>
    refine completes_of_citan takes rfl rfl (decide_eq_true len) ?_ rfl
    simp [(Nat.not_le.mpr chan), state, evacuating, journals.checks]
  case evacuated =>
    have ended : b.citan.ops.find? (fun o => o.running && decide (o.op = 0x0307 ∧ o.obj % 65536 = n.val)) = none :=
      List.find?_eq_none.mpr (fun o member => by simp [quiet o member])
    refine completes_of_live live rfl ?_
    simp only [doEvacuationComplete, evacuating, moved, Bridge.level_citan, Bridge.normalExts, Bridge.modHerd_citan, Bridge.modHc_citan, ended]
    rfl
  case restore =>
    refine completes_of_citan takes rfl rfl (decide_eq_true len) ?_ ?_
    · simp [(Nat.not_le.mpr chan), unfenced, admitted, herder, free, journals.checks]
    · simp only [found, whole, if_true]
  case restored =>
    exact completes_of_live live rfl
      (by simp [doMirrorSegmentRestored, op, seg, valid, mirrored, degraded, home, unfenced, alt, first])
  case job =>
    refine completes_of_citan takes rfl rfl (decide_eq_true len) ?_ ?_
    · simp [ringChecks_of_live live ring, recent, cancelled, known, instBusy_of_live live]
    · simp only [cancelled]
  case rings =>
    have passes : firstBad (c.ringChecks b ++ [c.reserved 18 2, failIf (b.instBusy (c.u 16 1)) 1]) = none := by
      simp [ringChecks_of_live live ring, zero, instBusy_of_live live]
    refine ⟨fun none' => completes_of_citan takes rfl rfl (decide_eq_true len) passes ?_,
      fun some' => completes_of_citan takes rfl rfl (decide_eq_true len) passes ?_⟩
    · dsimp only at none' ⊢
      simp only [none', if_true, if_false, Nat.reduceEqDiff, Bridge.modScan_glb]
    · dsimp only at some' ⊢
      simp only [some', if_true, if_false, Bridge.modScan_glb]

end Sys2Proof.Proofs
end

section
/-! Obligations O42 and O43: fences, the fault log, provisioning and firmware updates. -/

namespace Sys2Proof.Proofs

open Sys2Proof Sys2Proof.Machine

/-- A unit that is not fenced, on which no operation runs and no fence waits, may be fenced where its kind's own checks find nothing (R373). -/
theorem unitFence_passes {c : Cmd} {b : Bridge} (unit : firstBad (unitChecks c 5) = none) (drains : c.u 19 1 < 2)
    (plain : c.u 16 1 = 1 → c.u 19 1 = 1 ∨ b.holdsPlain (c.u 17 1) = false) (cores : c.u 16 1 = 4 → 2 ≤ popCount b.glb.coreActive 5)
    (unfenced : b.unitFenced (c.u 16 1) (c.u 17 1) (c.u 18 1) = false) (idle : ∀ o ∈ b.citan.ops, o.running = false) (none' : b.citan.waits = [])
    (journals : Journals b) :
    firstBad (unitChecks c 5 ++ [badAt 19 (decide (2 ≤ c.u 19 1)),
        failIf (decide (c.u 16 1 = 1) && decide (c.u 19 1 = 0) && b.holdsPlain (c.u 17 1)) 1,
        failIf (decide (c.u 16 1 = 4) && bitOf b.glb.coreActive (c.u 17 1) && decide (popCount b.glb.coreActive 5 ≤ 1)) 4,
        failIf (b.unitFenced (c.u 16 1) (c.u 17 1) (c.u 18 1)) 5,
        failIf (b.citan.ops.any (fun o => o.running && decide (o.obj = unitObj (c.u 16 1) (c.u 17 1) (c.u 18 1)))
          || b.citan.waits.any (fun w => decide (w.1.op = 0x502 ∧ c.u 16 1 = 1 ∧ w.2 = 2 ^ c.u 17 1))) 1] ++ b.jrnChecks) = none := by
  have holds : (decide (c.u 16 1 = 1) && decide (c.u 19 1 = 0) && b.holdsPlain (c.u 17 1)) = false := by
    by_cases kind : c.u 16 1 = 1
    · obtain drained | away := plain kind
      · simp [drained]
      · simp [away]
    · simp [kind]
  have last : (decide (c.u 16 1 = 4) && bitOf b.glb.coreActive (c.u 17 1) && decide (popCount b.glb.coreActive 5 ≤ 1)) = false := by
    by_cases kind : c.u 16 1 = 4
    · have := cores kind
      simp only [Bool.and_eq_false_iff, decide_eq_false_iff_not]
      omega
    · simp [kind]
  have runs : b.citan.ops.any (fun o => o.running && decide (o.obj = unitObj (c.u 16 1) (c.u 17 1) (c.u 18 1))) = false :=
    List.any_eq_false.mpr (fun o member => by simp [idle o member])
  simp only [firstBad_append, firstBad_cons, unit, badAt_eq_none, failIf_eq_none, holds, last, unfenced, runs, none', journals.checks, List.any_nil,
    Bool.or_self, firstBad_nil, decide_eq_false_iff_not, and_true, true_and]
  omega

/-- Settles O42. -/
theorem faultCommands : Obligations.FaultCommands := by
  refine ⟨fun s b fn slot c takes len drains unfenced idle none' journals => ⟨fun kind core part live => ?core, fun kind chan lane out => ?lane,
      fun kind chan part plain => ?channel⟩,
    fun s b n r live waits op => ?drained, fun s b fn slot c takes len kind core part zero fenced free journals => ?unfence,
    fun s b fn slot c takes len some' most => ?log, fun s b fn slot c takes len block one known zero => ?clear⟩
  case core =>
    refine completes_of_citan takes rfl rfl (decide_eq_true len) ?_ ?_
    · refine unitFence_passes ?_ drains (fun other => by omega) (fun _ => live) unfenced idle none' journals
      simp [firstBad_cons, unitChecks, kind, core, part]
    · simp only [kind]
      rfl
  case lane =>
    refine completes_of_citan takes rfl rfl (decide_eq_true len) ?_ ?_
    · refine unitFence_passes ?_ drains (fun other => by omega) (fun other => by omega) unfenced idle none' journals
      simp [firstBad_cons, unitChecks, kind, chan, lane, out]
    · simp only [kind]
      rfl
  case channel =>
    refine completes_of_citan takes rfl rfl (decide_eq_true len) ?_ ?_
    · refine unitFence_passes ?_ drains (fun _ => plain) (fun other => by omega) unfenced idle none' journals
      simp [firstBad_cons, unitChecks, kind, chan, part]
    · simp only [kind]
  case drained =>
    refine completes_of_live live rfl ?_
    simp [doFenceDrainDone, waits, op, Bridge.each]
  case unfence =>
    refine completes_of_citan takes rfl rfl (decide_eq_true len) ?_ ?_
    · simp [firstBad_cons, unitChecks, kind, core, part, zero, fenced, free]
      exact journals.checks
    · simp only [kind, part]
  case log =>
    refine completes_of_citan takes rfl rfl (decide_eq_true len) (badAt_eq_none.mpr ?_) rfl
    simp [most, Nat.one_le_iff_ne_zero.mp some']
  case clear =>
    refine completes_of_citan takes rfl rfl (decide_eq_true len) ?_ ?_
    · simp [firstBad_cons, block, Option.isNone_eq_false_iff.mpr known, zero]
    · simp only [if_neg one]
      rfl

/-- Settles O43. -/
theorem provisioningAndUpdateCommands : Obligations.ProvisioningAndUpdateCommands := by
  refine ⟨⟨fun s b fn slot c bad takes len word marginal => ?spare,
      fun s b fn slot c good img takes len part some' most zero => ⟨fun first => ?next, fun last sound allowed kek => ?applied⟩,
      fun s b fn slot c takes len image above most => ?rollback⟩,
    fun s b fn slot c takes len slots other zero some' most fits closed free => ?begins,
    fun s b x o live session erasing op => ?erased,
    fun s b fn slot c x takes len session aligned inside apart some' most fits zero erased still => ?data,
    fun s b fn slot c x takes len session erased still free => ?verify,
    fun s b x o good live session verifying op => ?verified, fun s b fn slot c takes len slots passed => ?activate,
    fun s b fn slot c takes len => ?status⟩
  case spare =>
    refine completes_of_citan takes rfl rfl (decide_eq_true len) (badAt_eq_none.mpr ?_) rfl
    simp only [marginal, Bool.not_true, Bool.or_false, decide_eq_false_iff_not]
    omega
  case next =>
    refine completes_of_citan takes rfl rfl (decide_eq_true len) ?_ ?_
    · simp [firstBad_cons, part, first, Nat.one_le_iff_ne_zero.mp some', most, zero]
    · simp [part, first, Bridge.ok]
  case applied =>
    have unlatched : (img.kek.isSome && (b.modKnl (fun k => { k with provision := 0 })).tamperSet) = false := by
      cases given : img.kek.isSome
      · rfl
      · exact (kek given).1
    have works : (img.kek.isSome && (b.modKnl (fun k => { k with provision := 0 })).knl.lost) = false := by
      cases given : img.kek.isSome
      · rfl
      · exact (kek given).2
    refine completes_of_citan takes rfl rfl (decide_eq_true len) ?_ ?_
    · simp [firstBad_cons, part, last, Nat.one_le_iff_ne_zero.mp some', most, zero]
    · simp only [part, last, sound, allowed, unlatched, works, ne_eq, not_true_eq_false, if_false, Nat.one_ne_zero, Bool.not_true, Bool.or_self,
        Bool.false_eq_true]
      rfl
  case rollback =>
    refine completes_of_citan takes rfl rfl (decide_eq_true len) ?_ rfl
    simp [firstBad_cons, image, above, most]
  case begins =>
    have named : (decide (c.u 16 1 = 0) || decide (2 < c.u 16 1) || decide (c.u 16 1 = b.boot.slot)) = false := by
      obtain one | two := slots
      · simp [one, one ▸ other]
      · simp [two, two ▸ other]
    refine ⟨Config.freeNat b.free % 2 ^ 32, completes_of_citan takes rfl rfl (decide_eq_true len) ?_ (by simp only [Bridge.freeNat])⟩
    have sized : (decide (c.u 20 4 = 0) || decide (31457280 < c.u 20 4)) = false :=
      Bool.or_eq_false_iff.mpr ⟨decide_eq_false (Nat.one_le_iff_ne_zero.mp some'), decide_eq_false (Nat.not_lt.mpr most)⟩
    have idle : (b.boot.session.isSome || b.opBusy (fwObj (c.u 16 1))) = false := by rw [closed, free]; rfl
    simp only [badAt_eq_none.mpr named, zero, badAt_eq_none.mpr sized, failIf_eq_none.mpr idle,
      failIf_eq_none.mpr (decide_eq_false (Nat.not_lt.mpr fits)), firstBad]
  case erased =>
    exact completes_of_live live rfl (by simp only [doFwEraseComplete, session, erasing, Bool.false_eq_true, if_false, op])
  case data =>
    refine completes_of_citan takes rfl rfl (decide_eq_true len) ?_ ?_
    · simp [firstBad_cons, session, aligned, inside, apart, Nat.one_le_iff_ne_zero.mp some', most, fits, zero, erased, still]
    · simp only [session]
      rfl
  case verify =>
    refine completes_of_citan takes rfl rfl (decide_eq_true len) ?_ ?_
    · simp [session, erased, still, free]
    · simp only [session]
  case verified =>
    exact completes_of_live live rfl (by simp only [doFwVerifyComplete, session, verifying, Bool.not_true, Bool.false_eq_true, if_false, op])
  case activate =>
    refine completes_of_citan takes rfl rfl (decide_eq_true len) (badAt_eq_none.mpr ?_) rfl
    simp only [passed, ne_eq, not_true_eq_false, decide_false, Bool.or_false, Bool.or_eq_false_iff, decide_eq_false_iff_not]
    omega
  case status => exact completes_of_citan takes rfl rfl (decide_eq_true len) rfl rfl

end Sys2Proof.Proofs
end

section
/-! Obligations O44 and O45: sleds, links, power and telemetry by command, and the CXL mailbox. -/

namespace Sys2Proof.Proofs

open Sys2Proof Sys2Proof.Machine

/-- A mask of channels that names one passes its check (R370). -/
theorem maskCheck_of_ne_zero {c : Cmd} (some' : c.u 16 2 ≠ 0) : c.maskCheck = none := by
  simp [Cmd.maskCheck, some']

/-- Where nothing is prepared, nothing prepared is dropped. -/
theorem dropPrepared_of_nil {b : Bridge} (unprepared : b.citan.prepared = []) (keep : Prepared → Bool) :
    ({ b with citan := { b.citan with prepared := b.citan.prepared.filter keep } } : Bridge) = b := by
  rw [unprepared, List.filter_nil, ← unprepared]

@[simp] theorem intaEval_ch (b : Bridge) : b.intaEval.ch = b.ch := by
  dsimp only [Bridge.intaEval]
  split
  · rfl
  · rfl

/-- A host interrupt leaves the channels alone. -/
@[simp] theorem raise_ch (f v : Nat) (b : Bridge) : (b.raise f v).ch = b.ch := by
  unfold Bridge.raise
  split
  case isTrue inta => rw [intaEval_ch, Bridge.modPort_ch]
  case isFalse msix =>
    split
    · rfl
    · split
      · exact Bridge.modFunc_ch ..
      · rfl

/-- An answer leaves the channels alone. -/
@[simp] theorem respond_ch (r : CmdRef) (status detail stride : Nat) (results : List Byte) (b : Bridge) :
    (b.respond r status detail stride results).ch = b.ch := by
  dsimp only [Bridge.respond, Bridge.freeNat, Bridge.mbxIrq]
  split
  · rfl
  · split
    · exact (raise_ch ..).trans rfl
    · rfl

@[simp] theorem startOp_chan (c : Cmd) (obj progress n : Nat) (b : Bridge) : (b.startOp c obj progress).chan n = b.chan n := by
  unfold Bridge.chan Bridge.startOp
  rw [respond_ch]
  rfl

/-- Settles O44: each command's checks pass under its conditions, and its row does the rest. -/
theorem sledPowerAndTelemetryCommands : Obligations.SledPowerAndTelemetryCommands := by
  refine ⟨⟨fun s b fn slot c takes len chan => ?status,
      fun s b fn slot c takes len chan admitted unfenced herder still free journals => ?remove,
      fun s b fn slot c takes len chan waits still unprepared => ?abort,
      fun s b fn slot c takes len chan present free untested journals => ?admits,
      fun s b fn slot c takes len some' rate later journals => ?limit,
      fun s b fn slot c takes len some' least most keep short long journals => ?params,
      fun s b fn slot c takes len some' zero down => ?train⟩,
    fun s b fn slot c takes len => ⟨fun shallow => ?shallow, fun doze unfenced free => ?doze⟩,
    fun s b fn slot c takes len most zero sources => ?whistle, fun s b fn slot c takes len most => ?thermal,
    fun s b fn slot c takes len => ?telemetry, fun s b fn slot c takes len inst => ?stats, fun s b fn slot live => ?timeout⟩
  case status =>
    exact completes_of_citan takes rfl rfl (decide_eq_true len) (badAt_eq_none.mpr (decide_eq_false (Nat.not_le.mpr chan))) rfl
  case remove =>
    refine completes_of_citan takes rfl rfl (decide_eq_true len) ?_ rfl
    simp [(Nat.not_le.mpr chan), admitted, unfenced, herder, still, free, journals.checks]
  case abort =>
    refine completes_of_citan takes rfl rfl (decide_eq_true len) ?_ ?_
    · simp [firstBad_cons, chan, waits]
    · simp only [dropPrepared_of_nil unprepared, still, Bool.false_eq_true, if_false]
      rfl
  case admits =>
    refine completes_of_citan takes rfl rfl (decide_eq_true len) ?_ ?_
    · simp [(Nat.not_le.mpr chan), present, free, untested, journals.checks]
    · simp [present]
  case limit =>
    refine completes_of_citan takes rfl rfl (decide_eq_true len) ?_ ?_
    · simp [firstBad_cons, maskCheck_of_ne_zero some', rate, later, journals.checks]
    · simp only [later, if_true]
      rfl
  case params =>
    refine completes_of_citan takes rfl rfl (decide_eq_true len) ?_ ?_
    · have one : c.u 18 1 ≠ 1 := by omega
      simp [firstBad_cons, maskCheck_of_ne_zero some', one, most, keep, short, long, journals.checks]
    · have kept : c.u 18 1 ≠ 0 := by omega
      have timed : c.u 20 2 ≠ 0 := by omega
      simp only [keep, if_true, kept, timed, if_false]
      rfl
  case train =>
    refine completes_of_citan takes rfl rfl (decide_eq_true len) ?_ rfl
    simp [firstBad_cons, maskCheck_of_ne_zero some', zero]
    exact down
  case shallow =>
    have awake : c.u 16 1 ≠ 2 := by omega
    refine completes_of_citan takes rfl rfl (decide_eq_true len) ?_ ?_
    · simp [firstBad_cons, awake]
      omega
    · simp only [awake, if_false]
  case doze =>
    refine completes_of_citan takes rfl rfl (decide_eq_true len) ?_ ?_
    · simp [doze, unfenced, free]
    · simp only [doze, if_true]
      rfl
  case whistle =>
    refine completes_of_citan takes rfl rfl (decide_eq_true len) ?_ rfl
    simp [firstBad_cons, most, zero, sources]
  case thermal =>
    exact completes_of_citan takes rfl rfl (decide_eq_true len) (badAt_eq_none.mpr (decide_eq_false (Nat.not_lt.mpr most))) rfl
  case telemetry => exact completes_of_citan takes rfl rfl (decide_eq_true len) rfl rfl
  case stats =>
    exact completes_of_citan takes rfl rfl (decide_eq_true len) (badAt_eq_none.mpr (decide_eq_false inst)) rfl
  case timeout => exact completes_of_live live rfl rfl

/-- Settles O45: each field of a payload is read back from its bytes. -/
theorem cxlMailbox : Obligations.CxlMailbox := by
  refine ⟨fun s b takes cxl => ⟨⟨Config.freeNat b.free, Config.freeNat (b.free + 1), ?identify⟩, ?logs, ⟨?payload, ?eighteen, ?health⟩, fun off len inside low short => ?log, fun p short => ?noLog,
      fun log four empty => ?records, ?policy, ?time, ?background, fun op => ?unsupported⟩,
    fun s b takes cxl => ⟨fun p len => ?setPolicy, fun p len => ?setTime, fun log => ?clear⟩⟩
  case identify => exact completes_of_regWrite takes rfl (if_pos cxl)
  case logs => exact completes_of_regWrite takes rfl (by rw [doCxlGetSupportedLogs, Bridge.cxlAnswer, if_pos cxl])
  case health =>
    refine completes_of_regWrite takes rfl ?_
    rw [doCxlGetHealthInfo, Bridge.cxlAnswer, if_pos cxl]
  case eighteen => rfl
  case log =>
    have at16 : fieldAt 16 4 (celUuid ++ leBytes 4 off ++ leBytes 4 len) = off := by
      simp [fieldAt, bytesAt, celUuid, leBytes, leNat]
      omega
    have at20 : fieldAt 20 4 (celUuid ++ leBytes 4 off ++ leBytes 4 len) = len := by
      simp [fieldAt, bytesAt, celUuid, leBytes, leNat]
      omega
    refine completes_of_regWrite takes rfl ?_
    simp only [doCxlGetLog, at16, at20, (Nat.not_lt.mpr inside), if_false, Bridge.cxlAnswer, cxl, if_true]
    rfl
  case noLog =>
    refine completes_of_regWrite takes rfl ?_
    simp only [doCxlGetLog, ne_eq, short, not_false_eq_true, if_true, Bridge.cxlAnswer, cxl]
  case records =>
    have named : fieldAt 0 1 (leBytes 1 log) = log := by
      simp [fieldAt, bytesAt, leBytes, leNat]
      omega
    refine completes_of_regWrite takes rfl ?_
    simp only [doCxlGetEventRecords, named, Nat.not_lt.mpr (Nat.le_of_lt_succ four), if_false, empty, Bridge.cxlAnswer, cxl, if_true]
    rfl
  case policy => exact completes_of_regWrite takes rfl (if_pos cxl)
  case time => exact completes_of_regWrite takes rfl (if_pos cxl)
  case background => exact completes_of_regWrite takes rfl (if_pos cxl)
  case unsupported => exact completes_of_regWrite takes rfl (if_pos cxl)
  case setPolicy =>
    refine completes_of_regWrite takes rfl ?_
    simp only [doCxlSetEventIntPolicy, len, ne_eq, not_true_eq_false, if_false, cxl, if_true, Bridge.cxlAnswer]
  case setTime =>
    refine completes_of_regWrite takes rfl ?_
    simp only [doCxlSetTimestamp, len, ne_eq, not_true_eq_false, if_false, cxl, if_true, Bridge.cxlAnswer]
  case clear =>
    have named : fieldAt 0 1 [BitVec.ofNat 8 log, 1, 0, 0, 0, 0] = log := by
      simp [fieldAt, bytesAt, leNat]
      omega
    have flags : fieldAt 1 1 [BitVec.ofNat 8 log, 1, 0, 0, 0, 0] = 1 := rfl
    have all : bitOf 1 0 = true := by decide
    have short : fieldAt 2 1 [BitVec.ofNat 8 log, 1, 0, 0, 0, 0] = 0 := rfl
    refine completes_of_regWrite takes rfl ?_
    have sized : ¬([BitVec.ofNat 8 log, 1, 0, 0, 0, 0].length < 6 ∨ [BitVec.ofNat 8 log, 1, 0, 0, 0, 0].length ≠ 6 + 2 * 0) := by simp
    simp only [doCxlClearEventRecords, named, flags, all, short, sized, Nat.not_lt.mpr (Nat.le_of_lt_succ log.isLt), Bridge.cxlAnswer, cxl, if_false, if_true, decide_not, ne_eq]

end Sys2Proof.Proofs
end

section
/-! Obligations O46 and O47: fault and tamper sources, and repairs. -/

namespace Sys2Proof.Proofs

open Sys2Proof Sys2Proof.Machine

/-- A snapshot's cause is marked as due once. -/
theorem snapTrigger_of_armed {b : Bridge} {cause : Nat} (armed : b.faults.armed = true) (clear : bitOf b.faults.due cause = false) :
    b.snapTrigger cause = b.modFlt (fun f => { f with due := f.due + 2 ^ cause }) :=
  (if_pos armed).trans
    (congrArg (fun due => b.modFlt (fun f => { f with due := due })) (if_neg (Bool.eq_false_iff.mp clear)))

/-- Settles O46, source by source. -/
theorem faultSources : Obligations.FaultSources := by
  refine ⟨⟨fun s b k src detail inst live other => ?event, fun s b k src live => ⟨fun due => ?leaks, fun due => ?keeps⟩,
      fun s b live pin armed clear => ?edge, fun s => ⟨fun spare => ?replaced, fun spare => ?stopped⟩,
      fun s mv range => ⟨fun enough => ?charged, fun low was => ?falls⟩, fun s src => ⟨fun others => ?still, fun last => ?quiet⟩,
      fun s b live valid => ⟨fun due => ?reverify, fun due => ?idle⟩, fun s b live verifying => ?verified,
      fun s boundary unfenced => ?jtag⟩,
    fun s src detail => ⟨fun unwatched => ?unwatched, fun watched clear tamper on level awake on' level' awake' => ?fires⟩⟩
  case event => exact completes_of_live live rfl (by simp [doFaultEvent, other])
  case leaks => exact completes_of_live live rfl (if_pos due)
  case keeps => exact completes_of_live live rfl (if_neg (Bool.eq_false_iff.mp due))
  case edge => exact completes_of_live live rfl ((if_pos pin).trans ((if_pos armed).trans (snapTrigger_of_armed armed clear)))
  case replaced => exact completes_of_run rfl (if_pos spare)
  case stopped => exact completes_of_run rfl (if_neg (Bool.eq_false_iff.mp spare))
  case charged =>
    refine completes_of_run rfl ?_
    simp [doVbatMeasure, Bridge.when, (Nat.not_lt.mpr enough), Nat.mod_eq_of_lt range, Bridge.modKnl]
  case falls =>
    refine completes_of_run rfl ?_
    simp [doVbatMeasure, Bridge.when, low, was, Nat.mod_eq_of_lt range, Bridge.modKnl]
  case still => exact completes_of_run rfl (if_neg others)
  case quiet => exact completes_of_run rfl (if_pos last)
  case reverify => exact completes_of_live live rfl (by simp only [doFuseReverify, valid, due, Bool.and_self, if_true])
  case idle => exact completes_of_live live rfl (by simp [doFuseReverify, due])
  case verified =>
    refine completes_of_live live rfl ?_
    simp [doFuseReverifyEnd, verifying, Bridge.each]
  case jtag => exact completes_of_run rfl (if_neg (Bool.eq_false_iff.mp unfenced))
  case unwatched =>
    refine completes_of_run rfl (if_pos ?_)
    simpa using unwatched
  case fires =>
    refine completes_of_run rfl ?_
    have taken : ¬((!s.br.fresh.watches src || bitOf s.br.fresh.knl.active src) = true) := by
      rw [watched, show bitOf s.br.fresh.knl.active src = false from clear]
      decide
    simp only [doTamperFire, taken, if_false, on, Bool.false_eq_true, tamper, if_true]
    exact (if_neg (Bool.eq_false_iff.mp on')).trans ((if_neg level').trans (if_neg awake'))

/-- Settles O47: each repair's condition is the guard of its step. -/
theorem repairsComplete : Obligations.RepairsComplete := by
  refine ⟨fun s b k src live severe sparing => ?heals, fun s b n idx d live found lost => ?descriptor, fun s b k live fenced other => ?stack⟩
  case heals => exact completes_of_live live rfl (by simp only [doSparingComplete, severe, sparing, Bool.and_self, if_true])
  case descriptor => exact completes_of_live live rfl (by simp only [doDescriptorRebuildDone, found, lost, if_true])
  case stack => exact completes_of_live live rfl (by simp [doStackMapRebuildDone, fenced, other])

end Sys2Proof.Proofs
end

section
/-! Obligations O48 and O49: the Herder's moves, the journal and the power-loss sequence. -/

namespace Sys2Proof.Proofs

open Sys2Proof Sys2Proof.Machine

/-- A relocation that may start does. -/
theorem doRelocationStart_of_may {b : Bridge} {g key hc hg dc slot : Nat} {d : Desc} (desc : b.descOn (b.resChOf g) (g / 512) = some (key, d))
    (home : b.homeOf key d g = some (hc, hg)) (may : b.mayRelocate g dc slot d hc = true) :
    doRelocationStart g dc slot b
      = b.startMove .relocation (b.resChOf g) g d hc hg dc slot (decide ((dc, slot) = (d.home.1, d.home.2 * 512 + g % 512))) := by
  simp only [doRelocationStart, desc, home, may, if_true]

/-- Settles O48: the conditions of each move are the guard of its start. -/
theorem herderMovesAndCopies : Obligations.HerderMovesAndCopies := by
  have wants {b : Bridge} {g : Nat} {d : Desc} (wanted : b.herd.tune.promote ≤ b.heat g ∨ d.pinNear = true) :
      (decide (b.herd.tune.promote ≤ b.heat g) || d.pinNear) = true := by simpa using wanted
  have allows {d : Desc} (migrate : d.noMigrate = false ∨ d.pinNear = true) : (!d.noMigrate || d.pinNear) = true := by simpa using migrate
  have absent_any {b : Bridge} {g : Nat} (absent : ∀ e ∈ b.herd.dir, e.1 ≠ g) : b.herd.dir.any (fun e => decide (e.1 = g)) = false :=
    List.any_eq_false.mpr (fun e member => by simpa using absent e member)
  refine ⟨⟨fun s b g frame key hc hg d live desc home wanted far migrate herder state still absent src dst unfenced staying =>
        ⟨fun full => ?quota, fun quota free stack room => ?promotes⟩,
      fun s b g key e d live entry desc clean herder still may => ?demotes,
      fun s b g key hc hg slot dc d live desc home may => ⟨?relocates, fun room quiet staying => ?retries⟩,
      fun s b g hc hg e live entry home dirty lines still src awake leaver => fun counts => ?writesBack,
      fun s b g key n hg ec ex x dc d live desc home herder leaving plain still src state allows evac dst room other => ?evacuates⟩,
    fun s b n uid c first k r live unit kind => ⟨fun over' corr unc => ?late, fun x dst copy away up first' sled got corr unc => ?arrives⟩⟩
  case quota =>
    refine completes_of_live live rfl ?_
    simp only [doPromotionStart, desc, home, wants wanted, allows migrate, far, herder, decide_eq_true state, still, absent_any absent, src, dst, unfenced,
      staying, Bool.and_self, Bool.not_false, Bool.not_true, Bool.false_eq_true, if_false, full, if_true]
  case promotes =>
    refine completes_of_live live rfl ?_
    simp only [doPromotionStart, desc, home, wants wanted, allows migrate, far, herder, decide_eq_true state, still, absent_any absent, src, dst, unfenced,
      staying, Bool.and_self, Bool.not_false, Bool.not_true, Bool.false_eq_true, if_false, (Nat.not_le.mpr quota), free, decide_eq_true stack, room, if_true]
  case demotes =>
    refine completes_of_live live rfl ?_
    simp [doDemotionStart, entry, desc, clean, herder, still, may]
  case relocates => exact completes_of_live live rfl (doRelocationStart_of_may desc home may)
  case retries =>
    refine completes_of_live live rfl ?_
    simp only [doExcBucketRetry, room, quiet, staying, Bool.false_eq_true, if_false, doRelocationStart_of_may desc home may]
  case writesBack =>
    refine completes_of_live live rfl ?_
    have goes : (b.awake || decide (b.jrn.step ≠ 0)) = true := by simpa using awake
    have turn : (e.leaving || !b.leaversFirst hc) = true := by simpa using leaver
    simp only [doWritebackStart, entry, home, decide_eq_true dirty, decide_eq_true lines, still, src, goes, turn, counts, Bool.and_self, Bool.not_false, if_true]
  case evacuates =>
    refine completes_of_live live rfl ?_
    simp [doEvacuationMoveStart, desc, home, herder, leaving, plain, still, src, state, allows, evac, dst, room, other]
  case late =>
    refine completes_of_live live rfl ?_
    simp only [doCopyDataArrive, unit, kind, over']
  case arrives =>
    refine completes_of_live live rfl ?_
    obtain ⟨a, g, sled⟩ := sled
    have quiet : r.places.any (fun p => b.earlierOn r.seq p) = false := List.any_eq_false.mpr (fun p member => by simp [first' p member])
    simp [doCopyDataArrive, unit, kind, copy, away, up, quiet, sled, got]

/-- The journal when a compaction ends: the checkpoint it wrote is the one that stands (R441). -/
def compacted (j : Journal) : Journal :=
  let j := { j with
    compacting := false, ckptSeq := j.ckptStart, ckpts := cnt32 j.ckpts 1, ckpt := j.ckptNext, ckptNext := [], ckptTick := j.ckptStride
    copy := Tbl.mapv (fun _ c => if c.state = 1 then { c with slot := 1 - c.slot } else c) j.copy }
  let j := j.write [ckptMarkRec j.ckptSeq ((j.copy.find? (fun e => decide (e.2.state = 1))).elim 0 (fun e => e.2.slot))]
  { j with region := j.region.filter (fun r => decide (j.ckptSeq ≤ r.seq)), fill := ceilDiv (j.seq - j.ckptSeq) 2 }

/-- Settles O49; a compaction's end leaves the journal `compacted`. -/
theorem journalAndPowerLoss : Obligations.JournalAndPowerLoss := by
  refine ⟨⟨fun s b live open' => ?commit, fun s b live due up idle awake => ?compaction,
      fun s b live full compacting => ⟨compacted b.jrn, ?closed, ?marked, ?checkpoint⟩⟩,
    ⟨fun s => ⟨fun off => ?off, fun por dead held idle run => ?fails⟩, fun s b n live step unfenced fresh drained clean => ?home,
      fun s b b1 n tag live up slot asked answer => ⟨?saves, ?refuses⟩⟩,
    fun s b bad diffs refused live replaying kept => ?replays, fun s b bad diffs refused live replaying lost none' => ?stops⟩
  case commit => exact completes_of_live live rfl (by simp [doCommitGroupWritten, open'])
  case compaction =>
    refine completes_of_live live rfl ?_
    have full : (decide (jrnRegion * 3 ≤ b.jrn.fill * 4) || decide (2 ^ 24 ≤ b.stride - b.jrn.ckptStride)) = true := by
      rw [← Bool.decide_or]
      exact decide_eq_true due
    simp only [doCompactionStart, full, up, idle, awake, Bool.and_self, Bool.not_false, if_true]
  case closed => rfl
  case marked => rfl
  case checkpoint =>
    refine completes_of_live live rfl ?_
    simp only [doCheckpointComplete, full, ne_eq, not_true_eq_false, if_false, compacting, if_true]
    rfl
  case off =>
    refine completes_of_run rfl (if_pos ?_)
    simpa [or_assoc] using off
  case fails =>
    refine completes_of_run rfl ?_
    have awake : ¬(3 ≤ s.br.pwr.state ∧ s.br.pwr.state ≤ 4) := by omega
    have taken : ¬((s.br.fresh.pwr.por || s.br.fresh.pwr.dead || s.br.fresh.pwr.held || decide (s.br.fresh.jrn.step ≠ 0)) = true) := by
      simp [por, dead, held, idle]
    exact (if_neg taken).trans (if_neg awake)
  case home =>
    refine completes_of_live live rfl ?_
    have stepped : (decide (b.jrn.step = 2) || decide (b.jrn.step = 3)) = true := by simpa using step
    have still : (!b.plDirty n || !b.linkOpen n) = true := by simpa using clean
    simp only [doChannelWritebackDone, stepped, unfenced, fresh, drained, still, Bool.and_self, Bool.not_false, Bool.not_true, Bool.false_eq_true, if_false]
  case saves =>
    refine completes_of_live live rfl ?_
    simp [doSaveRspReceive, up, slot, asked, answer]
  case refuses =>
    refine completes_of_live live rfl ?_
    simp [doSaveRspReceive, up, slot, asked, answer]
  case replays =>
    refine completes_of_live live rfl ?_
    simp only [doJournalReplay, replaying, kept, Bool.not_true, Bool.false_eq_true, if_false, if_true]
  case stops =>
    refine completes_of_live live rfl ?_
    obtain empty | bad' := none'
    · simp [doJournalReplay, replaying, lost, empty]
    · have good : [0, 1].filter (fun k => b.copyReads k && !bitOf bad k) = [] :=
        List.filter_eq_nil_iff.mpr (fun k member both => by
          obtain ⟨reads, sound⟩ := Bool.and_eq_true_iff.mp both
          obtain unread | found := bad' k member
          · exact absurd reads (Bool.eq_false_iff.mp unread)
          · exact absurd found (Bool.eq_false_iff.mp (Bool.not_eq_eq_eq_not.mp sound)))
      cases image : b.image with
      | none => simp [doJournalReplay, replaying, lost, image]
      | some i => simp [doJournalReplay, replaying, lost, image, good]

end Sys2Proof.Proofs
end

section
/-! Obligations O51 and O52: lanes in training and in service. -/

namespace Sys2Proof.Proofs

open Sys2Proof Sys2Proof.Machine

/-- Two changes that agree at a channel's lanes as they are change it alike. -/
theorem modPhy_congr {b : Bridge} {n : Nat} {f g : Phy → Phy} (same : f (b.phy n) = g (b.phy n)) : b.modPhy n f = b.modPhy n g := by
  simp only [Bridge.phy] at same
  simp only [Bridge.modPhy, Bridge.modCh, same]

/-- Settles O51, by the state that the lanes train in. -/
theorem lanesTrain : Obligations.LanesTrain := by
  intro s b n k live
  refine ⟨fun disabled sled => ?enabled, fun detect two => ?detected, fun com id rest x read sync => ?offered,
    fun com id g₂ g₃ g₄ rest x read locked confirm echoes => ?confirmed, fun gs body read switching => ?noticed,
    fun switching idle fast => ?switched, fun low o i count high chk x errs read ready plain equalizing fast => ?trained,
    fun skew ppm mark c carry aligning mapped near slow quick => ?aligned⟩
  case enabled => exact completes_of_live live rfl (if_pos ⟨disabled, sled⟩)
  case detected => exact completes_of_live live rfl (if_pos ⟨detect, two⟩)
  case offered =>
    refine completes_of_live live rfl ?_
    simp only [doOfferSetReceive, read,
      sync, Option.isSome_some, Bool.or_true]
  case confirmed =>
    refine completes_of_live live rfl ?_
    simp only [doConfirmSetReceive, read,
      confirm, Option.any_some,
      echoes, locked, Bool.and_self]
  case noticed =>
    exact completes_of_live live rfl (if_pos ⟨switching, by rw [read]; rfl⟩)
  case switched =>
    refine completes_of_live live rfl ?_
    simp only [doRateSwitchIdleEnd, switching, idle, Bool.not_false, and_self, if_true, fast]
    exact congrArg (Bridge.emit _) (modPhy_congr rfl)
  case trained =>
    refine completes_of_live live rfl ?_
    simp [doTrainingFrameReceive, read, ready, plain, equalizing, (Nat.not_lt.mpr fast)]
  case aligned =>
    refine completes_of_live live rfl ?_
    simp only [doAlignmentReceive, carry, aligning, mapped, (Nat.not_lt.mpr near), (Int.not_lt.mpr slow), (Int.not_lt.mpr quick), or_self, Bool.not_true, Bool.false_eq_true, if_false]

/-- Settles O52, by the state that the lanes are in. -/
theorem lanesInService : Obligations.LanesInService := by
  intro s b n k live
  refine ⟨fun equalize => ?equalize, fun sync => ?sync, fun lit => ?dark, ?lit, fun locked => ?unlocked, ?locked, fun retrain => ?late,
    fun retrain stay all => ?retrained, fun on => ?idle, fun idle => ⟨?wakes, ?woken⟩, fun exit mapped waits => ?exits, fun on bits errs checks => ?prbs⟩
  case equalize => exact completes_of_live live rfl (by simp only [doTrainingStateTimeout, equalize])
  case sync => exact completes_of_live live rfl (by simp only [doTrainingStateTimeout, sync])
  case dark => exact completes_of_live live rfl (if_pos ⟨rfl, by rw [lit]; rfl⟩)
  case lit => exact completes_of_live live rfl (by simp only [doLosChange, Bool.false_eq_true, false_and, if_false])
  case unlocked => exact completes_of_live live rfl (if_pos ⟨rfl, by rw [locked]; rfl⟩)
  case locked => exact completes_of_live live rfl (by simp only [doLolChange, Bool.false_eq_true, false_and, if_false])
  case late => exact completes_of_live live rfl (if_pos retrain)
  case retrained =>
    refine completes_of_live live rfl ?_
    simp only [doFastRetrainDone, retrain, all, decide_true, Bool.and_self, if_true, stay, Bool.false_eq_true, if_false]
  case idle => exact completes_of_live live rfl (if_pos on)
  case wakes => exact completes_of_live live rfl (if_pos idle)
  case woken => exact completes_of_live live rfl (if_pos idle)
  case exits => exact completes_of_live live rfl (if_pos ⟨exit, mapped, by rw [waits]; rfl⟩)
  case prbs => exact completes_of_live live rfl (if_pos checks)

end Sys2Proof.Proofs
end

section
/-! Obligation O53: flits, replays and credits. -/

namespace Sys2Proof.Proofs

open Sys2Proof Sys2Proof.Machine

@[simp] theorem takeDown_of_up {b : Bridge} {n : Nat} (up : (b.chan n).ll.state = .up) : b.takeDown n = (b.lanesToDetect n).linkFalls n := by
  simp only [Bridge.takeDown, up]

/-- A SEQ flit that an open link may take acknowledges, and its number decides what follows (R287, R288). -/
theorem goodFlit_of_seq {e : Bridge} {n : Nat} {flit : List Nat} (seq : (FlitHead.of flit).kind = 1) (slots : slotsBad (FlitHead.of flit) flit = false)
    (up : (e.chan n).ll.state = .up) (acks : (e.chan n).ll.ackValid (FlitHead.of flit).ack = true) :
    let h := FlitHead.of flit
    let more := decide ((h.ack + 1 + 4096 - (e.chan n).ll.oldest) % 4096 ≠ 0)
    let d := (e.ackIn n h.ack).modLl n (fun l => { l with replaying := l.replaying && !more, protoErr := cnt32 l.protoErr 0 })
    e.goodFlit n flit
      = if h.seq = (e.chan n).ll.exp then d.modLl n (fun l => { l with exp := (l.exp + 1) % 4096, retrying := false, rxFlits := l.rxFlits + 1 })
        else if 1 ≤ ((e.chan n).ll.exp + 4096 - h.seq) % 4096 ∧ ((e.chan n).ll.exp + 4096 - h.seq) % 4096 ≤ 128 then d
        else d.askRetry n := by
  simp [Bridge.goodFlit, seq, slots, up, acks]

/-- Settles O53; a good SEQ flit goes by `goodFlit_of_seq`. -/
theorem flitsReplaysAndCredits : Obligations.FlitsReplaysAndCredits := by
  refine ⟨fun s b n live up => ⟨fun h₀ h₁ s₀ s₁ s₂ crc parity =>
        ⟨fun good seq slots up' acks => ⟨fun next => ?next, fun ahead far => ?ahead⟩, fun codeword => ?uncorrectable, fun flit => ?bad⟩,
      fun exp within quiet => ?replays, fun waiting quiet => ?timer, fun retrying => ?repeats⟩,
    fun s b n live up => ⟨fun v hdr data other => ⟨?cred, ?data⟩, fun few => ?tells, fun many => ?tellsBoth, fun returned vcs => ?mcred,
      fun due none' => ?syncs, fun none' => ?quiet, fun x nonce => ⟨fun few => ?again, fun often => ?falls, fun free range => ?synced⟩,
      fun nonce vcs => ?answers⟩⟩
  case next =>
    refine completes_of_live live rfl ?_
    simp only [doFlitReceive, up, ne_eq, not_true_eq_false, false_and, if_false, good, if_true, goodFlit_of_seq seq slots up' acks, next]
  case ahead =>
    refine completes_of_live live rfl ?_
    simp only [doFlitReceive, up, ne_eq, not_true_eq_false, false_and, if_false, good, if_true, goodFlit_of_seq seq slots up' acks, ahead, (Nat.not_le.mpr far), and_false]
  case uncorrectable =>
    refine completes_of_live live rfl ?_
    simp [doFlitReceive, up, codeword, -List.append_assoc]
  case bad =>
    refine completes_of_live live rfl ?_
    simp [doFlitReceive, up, flit, -List.append_assoc]
  case replays =>
    refine completes_of_live live rfl ?_
    simp [doRetryReqReceive, up, within, quiet]
  case timer =>
    refine completes_of_live live rfl ?_
    simp [doReplayTimerExpiry, up, waiting, quiet]
  case repeats => exact completes_of_live live rfl (if_pos ⟨up, retrying⟩)
  case cred =>
    refine completes_of_live live rfl ?_
    simp [doCredReceive, up, other]
  case data =>
    refine completes_of_live live rfl ?_
    simp [doCredDataReceive, up, other]
  case tells =>
    refine completes_of_live live rfl ?_
    simp [doCredSendTimer, up, (Nat.not_le.mpr few), Bridge.each]
  case tellsBoth =>
    refine completes_of_live live rfl ?_
    simp [doCredSendTimer, up, many, Bridge.each]
  case mcred =>
    refine completes_of_live live rfl ?_
    simp only [doMcredReceive, up, ne_eq, not_true_eq_false, if_false, (Nat.not_lt.mpr vcs)]
  case syncs =>
    refine completes_of_live live rfl ?_
    simp only [doMsyncStart, due, up, none', Bool.not_true, Bool.false_eq_true, if_false, Option.isNone_none, and_self, if_true]
  case quiet => exact completes_of_live live rfl (if_pos (by rw [none']; rfl))
  case again =>
    refine completes_of_live live rfl ?_
    simp only [doMsyncTimeout, up, nonce, Option.isSome_some, and_self, if_true, (Nat.not_le.mpr few), if_false]
  case falls =>
    refine completes_of_live live rfl ?_
    simp only [doMsyncTimeout, up, nonce, Option.isSome_some, and_self, if_true, often, takeDown_of_up up]
  case synced =>
    refine completes_of_live live rfl ?_
    simp only [doMsyncRspReceive, up, nonce, ne_eq, not_true_eq_false, or_self, if_false, Nat.mod_eq_of_lt range]
  case answers =>
    refine completes_of_live live rfl ?_
    simp only [doMsyncReqReceive, up, ne_eq, not_true_eq_false, if_false, (Nat.not_lt.mpr vcs)]

end Sys2Proof.Proofs
end

section
/-! Obligations O54 to O57: messages of the sled, and a link's start, power and loss. -/

namespace Sys2Proof.Proofs

open Sys2Proof Sys2Proof.Machine

/-- Settles O54, message by message. -/
theorem sledMessages : Obligations.SledMessages := by
  intro s b n live up
  refine ⟨fun tag idx w status b1 c uid off t found inside first' use credit => ⟨fun good => ?read, fun failed => ?unreadable⟩,
    fun tag idx w status none' => ?unknown, fun b1 slot => ⟨fun tag data => ?register, fun code detail other => ?event⟩⟩
  case read =>
    refine completes_of_live live rfl ?_
    simp [doRdataReceive, up, found, (Nat.not_le.mpr inside), first', use, credit, good]
  case unreadable =>
    refine completes_of_live live rfl ?_
    simp [doRdataReceive, up, found, (Nat.not_le.mpr inside), first', use, credit, failed]
  case unknown =>
    refine completes_of_live live rfl ?_
    simp [doRdataReceive, up, none']
  case register =>
    refine completes_of_live live rfl ?_
    simp [doSregRspReceive, up, slot]
  case event =>
    refine completes_of_live live rfl ?_
    simp [doEventReceive, up, slot, other]

/-- Two changes that agree at a channel's link as it is change it alike. -/
theorem modLl_congr {b : Bridge} {n : Nat} {f g : Link → Link} (same : f (b.chan n).ll = g (b.chan n).ll) : b.modLl n f = b.modLl n g := by
  simp only [Bridge.modLl, Bridge.modCh, same]

/-- Settles O55, step by step of the initialisation. -/
theorem linkInitialises : Obligations.LinkInitialises := by
  intro s b n live init
  refine ⟨fun resume vcs txSeq rxExp rev mgmt one four => ?param, fun v p r c a x f m serial => ?serial,
    fun vendor product revision capGib persist restored selfRefresh saveMs serial some' most => ?ident,
    fun v hdr data fresh hdr16 data16 => ?credit, ?done, ?late⟩
  case param =>
    refine completes_of_live live rfl ?_
    simp [doInitParamReceive, init, one, (Nat.not_lt.mpr four)]
  case serial =>
    refine completes_of_live live rfl ?_
    simp [doInitIdentReceive, init]
  case ident =>
    refine completes_of_live live rfl ?_
    simp [doInitIdentReceive, init, Nat.one_le_iff_ne_zero.mp some', (Nat.not_lt.mpr most)]
  case credit =>
    refine completes_of_live live rfl ?_
    simp only [doCredDataReceive, init, Nat.mod_eq_of_lt hdr16, Nat.mod_eq_of_lt data16]
    exact congrArg (Bridge.checkInit n) (modLl_congr (by simp only [fresh, Bool.false_eq_true, if_false]))
  case done => exact completes_of_live live rfl (if_pos init)
  case late =>
    refine completes_of_live live rfl ((if_pos init).trans ?_)
    simp only [Bridge.takeDown, init]

/-- Settles O56, by the requests that are out. -/
theorem linkPowerAndSpeed : Obligations.LinkPowerAndSpeed := by
  intro s b n live
  refine ⟨fun up acked untagged empty still first' idle => ?asks, fun sent up active => ?pauses, fun sent => ?stays,
    fun r best up active none' other => ?starts, fun r asked => ⟨?refused, fun active => ?switches, fun retrain => ?waits⟩,
    fun paused asked => ?late⟩
  case asks =>
    refine completes_of_live live rfl ?_
    have may : (decide (b.pwr.state = 2) || (b.chan n).ll.idleEn) = true := by simpa using idle
    simp [doIdleRequest, up, acked, untagged, empty, still, first', may]
  case pauses =>
    refine completes_of_live live rfl ?_
    simp only [doPmRspReceive, sent, up, active, and_self, if_true, Bool.not_true, Bool.false_eq_true, if_false]
  case stays =>
    refine completes_of_live live rfl ?_
    simp only [doPmRspReceive, sent, Bool.not_true, Bool.false_eq_true, false_and, if_false]
  case starts =>
    refine completes_of_live live rfl ?_
    simp [doRateChangeStart, best, up, active, none', other]
  case refused =>
    refine completes_of_live live rfl ?_
    simp [doRateRspReceive, asked]
  case switches =>
    refine completes_of_live live rfl ?_
    simp [doRateRspReceive, asked, active]
  case waits =>
    refine completes_of_live live rfl ?_
    simp [doRateRspReceive, asked, retrain]
  case late =>
    refine completes_of_live live rfl ((if_pos ⟨paused, asked⟩).trans ?_)
    simp only [Bridge.takeDown, paused]

/-- Settles O57, by the link's state and the line's place. -/
theorem linkLoss : Obligations.LinkLoss := by
  intro s b live
  refine ⟨fun n up => ⟨?down, fun reason => ?reset⟩, fun n grace reads => ?holds, fun n grace held => ?ends, fun n flush held run => ?flushed,
    fun rid idx r l ch c read line on waits own exposed partner => ?partner, fun rid idx r l ch read line on waits exposed alone => ?poison,
    fun n ln e c x g entry at' offered unsealed free bad sealed' d grace => ?drain⟩
  case down => exact completes_of_live live rfl (takeDown_of_up up)
  case reset => exact completes_of_live live rfl (takeDown_of_up up)
  case holds => exact completes_of_live live rfl (if_pos ⟨grace, by rw [reads]; rfl⟩)
  case ends =>
    refine completes_of_live live rfl ?_
    simp [doGraceExpiry, grace, held]
  case flushed =>
    refine completes_of_live live rfl ?_
    simp only [doFlushComplete, flush, held, run, ne_eq, not_true_eq_false, if_false, if_true]
  case partner =>
    refine completes_of_live live rfl ?_
    simp [doHoldLimitPartner, read, line, on, waits, own, exposed, partner]
  case poison =>
    refine completes_of_live live rfl ?_
    obtain second | single := alone
    · simp [doHoldLimitPoison, read, line, on, waits, exposed, second]
    · simp [doHoldLimitPoison, read, line, on, waits, exposed, single]
  case drain =>
    refine completes_of_live live rfl ?_
    simp only [doDrainHoldLimit, entry, at', offered, unsealed, free, bad, Bool.not_true, Bool.or_self, Bool.false_eq_true, if_false, sealed', grace]

end Sys2Proof.Proofs
end

section
/-! Obligations O59 and O60: sled positions, and a clause of the scans that fails. -/

namespace Sys2Proof.Proofs

open Sys2Proof Sys2Proof.Machine

/-- Settles O59, by the position's state. -/
theorem sledPositions : Obligations.SledPositions := by
  intro s n
  refine ⟨fun absent free => ?inserted, fun present => ⟨fun idle => ?leaves, fun waits => ?abandons, fun admitting => ?fails, fun used => ?surprises⟩,
    fun b live => ⟨fun awake service => ⟨fun asks => ?asks, fun waits => ?aborts, fun admitted may => ?removes, fun waits => ?stays, fun idle => ?ignored⟩,
      fun deaf => ?deaf, fun waits => ?admits, fun waits => ?begins, fun admitting off present => ?powered, fun off => ?removed, fun lit => ?dark⟩⟩
  case inserted =>
    refine completes_of_run rfl ?_
    obtain empty | ready | ⟨lost, none'⟩ := free
    · simp [doSledInserted, absent, empty]
    · simp [doSledInserted, absent, ready]
    · have none'' : ((s.br.fresh.modSvc n (fun x => { x with present := true, inserts := cnt32 x.inserts 1 })).level (48 * n + 6) true).opOn
          0x0503 (65536 + n) = none := none'
      simp [doSledInserted, absent, lost, none'']
  case leaves =>
    refine completes_of_run rfl ?_
    obtain present' | ready | failed := idle
    · simp [doSledDeparted, present, present']
    · simp [doSledDeparted, present, ready]
    · simp [doSledDeparted, present, failed]
  case abandons =>
    refine completes_of_run rfl ?_
    simp [doSledDeparted, present, waits]
  case fails =>
    refine completes_of_run rfl ?_
    simp [doSledDeparted, present, admitting]
  case surprises =>
    refine completes_of_run rfl ?_
    obtain admitted | waits | evacuating | off := used
    · simp [doSledDeparted, present, admitted]
    · simp [doSledDeparted, present, waits]
    · simp [doSledDeparted, present, evacuating]
    · simp [doSledDeparted, present, off]
  case asks =>
    refine completes_of_live live rfl ?_
    obtain present | failed := asks
    · simp [doAttnButtonPress, awake, (Nat.not_lt.mpr service), present]
    · simp [doAttnButtonPress, awake, (Nat.not_lt.mpr service), failed]
  case aborts =>
    refine completes_of_live live rfl ?_
    simp [doAttnButtonPress, awake, (Nat.not_lt.mpr service), waits]
  case removes =>
    refine completes_of_live live rfl ?_
    have may' : (b.level (48 * n + 7) true).mayRemove n = true := may
    simp [doAttnButtonPress, awake, (Nat.not_lt.mpr service), admitted, may']
  case stays =>
    refine completes_of_live live rfl ?_
    simp [doAttnButtonPress, awake, (Nat.not_lt.mpr service), waits]
  case ignored =>
    refine completes_of_live live rfl ?_
    obtain empty | ready | evacuating := idle
    · simp [doAttnButtonPress, awake, (Nat.not_lt.mpr service), empty]
    · simp [doAttnButtonPress, awake, (Nat.not_lt.mpr service), ready]
    · simp [doAttnButtonPress, awake, (Nat.not_lt.mpr service), evacuating]
  case deaf =>
    refine completes_of_live live rfl (if_pos ?_)
    simpa using deaf
  case admits => exact completes_of_live live rfl (by simp only [doServiceWindowExpiry, waits])
  case begins => exact completes_of_live live rfl (by simp only [doServiceWindowExpiry, waits])
  case powered => exact completes_of_live live rfl ((if_pos admitting).trans (if_pos ⟨off, present⟩))
  case removed => exact completes_of_live live rfl (if_pos off)
  case dark => exact completes_of_live live rfl (if_pos lit)

/-- A piece on a lane, of a job, that has ended or not. -/
def pieceOf (job : Nat) (ended : Bool) : Piece := { job := job, ord := 0, ext := 0, backed := true, dla := 0, near := false, ended := ended }

/-- A state whose lane 0 of channel 0 is listed twice: with a piece of job 7, which is gone, and with an ended piece of job 3, which has lost
its function. -/
def laneListedTwice : State :=
  { br := { ch := [(0, { rtv := { lane := [(0, pieceOf 7 false), (0, pieceOf 3 true)] } })],
            scan := { job := [(3, { fn := 0, ring := 0, index := 0, desc := [], prog := [], set := [], rr := {}, lost := true })] } } }

/-- PIECE_END takes both entries off the lane, and counts the second one's piece. -/
theorem pieceEnd_laneListedTwice :
    ((laneListedTwice.br.fresh.settle (doPieceEnd 0 0 laneListedTwice.br.fresh)).chan 0).rtv.pieces = 1 := by
  decide +kernel

/-- Where only the first entry is taken off the lane, no piece is counted by what settles. -/
theorem delLane_laneListedTwice :
    ((laneListedTwice.br.fresh.settle (laneListedTwice.br.fresh.modRtv 0 (fun r => { r with lane := Tbl.del 0 r.lane }))).chan 0).rtv.pieces = 0 := by
  decide +kernel

/-- Two own effects of one command in one state settle to the same channels. -/
theorem settle_chan_of_completes {i : Instr} {s : State} {b : Bridge} {f : Bridge → Bridge} (completes : Completes i s b)
    (runs : exec i s = .next (s.run f)) (n : Nat) : (s.br.fresh.settle (f s.br.fresh)).chan n = (s.br.fresh.settle b).chan n := by
  obtain ⟨t, next, follows⟩ := completes
  have ran : s.run f = t := by
    rw [runs] at next
    injection next
  have settled : (s.run f).br.chan n = ({ s.br.fresh.settle b with lands := [] } : Bridge).chan n := by rw [ran, follows.bridge]
  exact settled

/-- Refutes O60: PIECE_END first runs the lane, which drops a piece whose job is gone, and then looks the lane up again. In a state whose
table lists the lane twice (the statement is for every state, and `Tbl.del` takes one entry off) it then ends the second entry's piece, which
the statement leaves on the lane. -/
theorem not_scansProceed : ¬ Obligations.ScansProceed := by
  intro h
  obtain ⟨-, -, clauses⟩ := h
  obtain ⟨-, -, -, -, -, -, -, -, -, -, ends⟩ := clauses laneListedTwice laneListedTwice.br.fresh ⟨rfl, rfl⟩
  have same := settle_chan_of_completes ((ends 0 0 (pieceOf 7 false)).1 rfl rfl) (f := Bridge.live (doPieceEnd 0 0)) rfl 0
  have alive : ¬(laneListedTwice.br.fresh.heldAll = true) := by decide
  rw [Bridge.live, if_neg alive] at same
  have counts : 1 = 0 := calc
    1 = ((laneListedTwice.br.fresh.settle (doPieceEnd 0 0 laneListedTwice.br.fresh)).chan 0).rtv.pieces := pieceEnd_laneListedTwice.symm
    _ = ((laneListedTwice.br.fresh.settle (laneListedTwice.br.fresh.modRtv 0 (fun r => { r with lane := Tbl.del 0 r.lane }))).chan 0).rtv.pieces :=
      congrArg (fun c : Channel => c.rtv.pieces) same
    _ = 0 := delLane_laneListedTwice
  exact Nat.one_ne_zero counts

end Sys2Proof.Proofs
end

section
/-! For O58: what is prepared, and settles at a power-on reset, leaves the board's pins and the fuses alone (R488, R489). -/

namespace Sys2Proof.Proofs
open Sys2Proof Sys2Proof.Machine

/-- The board's pins PERST_N and PWR_FAIL_N as the bridge saw them last, and the fuses. -/
def pins (b : Bridge) : Bool × Bool × Fuses := (b.pwr.perstLow, b.pwr.failLow, b.fuses)

theorem pins_each {α : Type} (xs : List α) (f : α → Bridge → Bridge) (b : Bridge) (keeps : ∀ x c, pins (f x c) = pins c) :
    pins (b.each xs f) = pins b :=
  Bridge.each_keeps pins xs f keeps b

/-- Either of two steps keeps the pins where both do. -/
theorem pins_ite {c : Prop} [Decidable c] {x y b : Bridge} (yes : pins x = pins b) (no : pins y = pins b) : pins (if c then x else y) = pins b := by
  split
  · exact yes
  · exact no

theorem pins_when (c : Bool) (f : Bridge → Bridge) (b : Bridge) (keeps : pins (f b) = pins b) : pins (b.when c f) = pins b :=
  pins_ite keeps rfl

theorem pins_modFlt (f : Faults → Faults) (b : Bridge) : pins (b.modFlt f) = pins b := rfl

-- Interrupts, messages and events -------------------------------------------------------------------------------------------

theorem pins_intaEval (b : Bridge) : pins b.intaEval = pins b := pins_ite rfl rfl

theorem pins_raise (f v : Nat) (b : Bridge) : pins (b.raise f v) = pins b :=
  pins_ite (pins_intaEval _) (pins_ite rfl (pins_ite rfl rfl))

theorem pins_mbxIrq (fn : Nat) (enabled : Bool) (b : Bridge) : pins (b.mbxIrq fn enabled) = pins b := pins_ite (pins_raise ..) rfl

theorem pins_notify (fn kind tag : Nat) (data : List Byte) (b : Bridge) : pins (b.notify fn kind tag data) = pins b :=
  pins_ite (pins_mbxIrq ..) (pins_ite rfl rfl)

theorem pins_regain (b : Bridge) : pins b.regain = pins b := pins_ite rfl rfl

theorem pins_forward (b : Bridge) : pins b.forward = pins b := pins_ite rfl (pins_raise ..)

theorem pins_logWrite (block src kind : Nat) (forced : Bool) (suppressed : Nat) (inst : Option Nat) (detail : Nat) (b : Bridge) :
    pins (b.logWrite block src kind forced suppressed inst detail) = pins b := by
  unfold Bridge.logWrite
  split
  · rfl
  · split
    · exact (pins_forward _).trans (pins_modFlt ..)
    · exact pins_modFlt ..

theorem pins_logEvent (k s : Nat) (kind : FaultKind) (forced : Bool) (inst : Option Nat) (detail : Nat) (b : Bridge) :
    pins (b.logEvent k s kind forced inst detail) = pins b :=
  pins_ite rfl (pins_logWrite ..)

theorem pins_snapTrigger (cause : Nat) (b : Bridge) : pins (b.snapTrigger cause) = pins b := pins_ite rfl rfl

theorem pins_cxlRecord (k s : Nat) (kind : FaultKind) (detail : Nat) (b : Bridge) : pins (b.cxlRecord k s kind detail) = pins b :=
  pins_ite rfl (pins_ite (pins_raise ..) rfl)

theorem pins_leak (k s : Nat) (b : Bridge) : pins (b.leak k s) = pins b := pins_ite rfl rfl

/-- A block's source, where it has one, is raised. -/
theorem pins_blockSource (k : Nat) (b : Bridge) :
    pins (match blockSource k with
      | some i => b.level i true
      | none => b) = pins b := by
  split
  · rfl
  · rfl

theorem pins_countEvent (k s : Nat) (forced : Bool) (detail : Nat) (inst : Option Nat) (b : Bridge) :
    pins (b.countEvent k s forced detail inst) = pins b := by
  unfold Bridge.countEvent
  split
  · rfl
  case h_2 kind _ =>
    refine pins_ite rfl ?_
    extract_lets was n counted recorded logged fresh severe told
    have step1 : pins counted = pins b := pins_leak k s b
    have step2 : pins recorded = pins counted := rfl
    have step3 : pins logged = pins recorded := (pins_cxlRecord ..).trans (pins_logEvent ..)
    have step4 : pins severe = pins logged := pins_ite (pins_logWrite ..) rfl
    have step5 : pins told = pins severe := pins_blockSource ..
    have all : pins told = pins b := by rw [step5, step4, step3, step2, step1]
    exact pins_ite all all

theorem pins_trigger (cause : Nat) (b : Bridge) : pins (b.trigger cause) = pins b :=
  pins_ite (pins_snapTrigger ..) ((pins_countEvent ..).trans (pins_snapTrigger ..))

theorem pins_event (k s : Nat) (forced : Bool) (detail : Nat) (inst : Option Nat) (b : Bridge) : pins (b.event k s forced detail inst) = pins b :=
  pins_ite ((pins_trigger ..).trans (pins_countEvent ..)) (pins_countEvent ..)

theorem pins_spareLog (k s detail : Nat) (b : Bridge) : pins (b.spareLog k s detail) = pins b :=
  (pins_blockSource ..).trans (pins_logWrite ..)

theorem pins_endOp (o : Operation) (status : Nat) (data : List Byte) (b : Bridge) : pins (b.endOp o status data) = pins b :=
  pins_ite rfl (pins_notify ..)

/-- An operation, where one is there, ends. -/
theorem pins_endFound (found : Option Operation) (status : Nat) (data : List Byte) (b : Bridge) :
    pins (match found with
      | some o => b.endOp o status data
      | none => b) = pins b := by
  split
  · exact pins_endOp ..
  · rfl

theorem pins_endSvcOp (op n status : Nat) (data : List Byte) (b : Bridge) : pins (b.endSvcOp op n status data) = pins b :=
  pins_endFound ..

theorem pins_toSvc (n : Nat) (st : SvcState) (b : Bridge) : pins (b.toSvc n st) = pins b := pins_ite rfl (pins_raise ..)

-- The herder and its copies -------------------------------------------------------------------------------------------------

theorem pins_modHerd (f : Herder → Herder) (b : Bridge) : pins (b.modHerd f) = pins b := rfl

theorem pins_freeExt (n x : Nat) (b : Bridge) : pins (b.freeExt n x) = pins b := rfl

theorem pins_freeGran (n g : Nat) (b : Bridge) : pins (b.freeGran n g) = pins b := rfl

theorem pins_rewrite (ln : Nat) (loc : Loc) (w : Codeword) (b : Bridge) : pins (b.rewrite ln loc w) = pins b := by
  unfold Bridge.rewrite
  split
  · exact pins_ite rfl rfl
  · rfl

theorem pins_setHome (ch g : Nat) (home : Nat × Nat) (b : Bridge) : pins (b.setHome ch g home) = pins b := by
  unfold Bridge.setHome
  split
  · rfl
  · exact pins_modHerd ..

theorem pins_frameMoved (x : Copy) (home : Loc) (b : Bridge) : pins (b.frameMoved x home) = pins b :=
  (pins_each _ _ _ (fun _ _ => pins_rewrite ..)).trans (pins_modHerd ..)

theorem pins_reserveLoc (l : Loc) (retired : Bool) (b : Bridge) : pins (b.reserveLoc l retired) = pins b := pins_modHerd ..

theorem pins_dropCopy (c : Nat) (b : Bridge) : pins (b.dropCopy c) = pins b := pins_modHerd ..

/-- A location that is given back, where there is one. -/
theorem pins_reserveFound (old : Option (Nat × Nat)) (retired : Bool) (b : Bridge) :
    pins (match old with
      | some (oc, og) => b.reserveLoc (.sled oc og) retired
      | none => b) = pins b := by
  split
  · rfl
  · rfl

theorem pins_switchCopy (c : Nat) (b : Bridge) : pins (b.switchCopy c) = pins b := by
  unfold Bridge.switchCopy
  split
  · rfl
  · extract_lets ch dropped
    split
    · rfl
    · exact (pins_modHerd ..).trans ((pins_frameMoved ..).trans ((pins_reserveFound ..).trans (pins_setHome ..)))
    · exact pins_ite ((pins_modHerd ..).trans ((pins_reserveLoc ..).trans (pins_setHome ..))) rfl
    · rfl

theorem pins_releaseDst (x : Copy) (b : Bridge) : pins (b.releaseDst x) = pins b := by
  unfold Bridge.releaseDst
  extract_lets ch
  split
  · rfl
  · extract_lets filtered
    split
    · rfl
    · rfl
    · exact pins_ite rfl rfl

theorem pins_dropParts (c : Nat) (b : Bridge) : pins (b.dropParts c) = pins b :=
  pins_each _ _ _ (fun _ _ => pins_ite rfl rfl)

theorem pins_writeLost (ln inst : Nat) (b : Bridge) : pins (b.writeLost ln inst) = pins b := pins_event ..

theorem pins_modInst (i : Nat) (f : Inst → Inst) (b : Bridge) : pins (b.modInst i f) = pins b := rfl

theorem pins_modDir (g : Nat) (f : DirEntry → DirEntry) (b : Bridge) : pins (b.modDir g f) = pins b := rfl

theorem pins_endCopy (c cause : Nat) (b : Bridge) : pins (b.endCopy c cause) = pins b := by
  unfold Bridge.endCopy
  split
  · rfl
  · extract_lets counted bad dropped
    have base : pins dropped = pins b := (pins_dropParts ..).trans (pins_modHerd ..)
    rw [← base]
    split
    · exact pins_ite ((pins_each _ _ _ (fun _ _ => pins_rewrite ..)).trans ((pins_releaseDst ..).trans (pins_dropCopy ..)))
        ((pins_releaseDst ..).trans ((pins_dropCopy ..).trans (pins_modDir ..)))
    · exact (pins_releaseDst ..).trans ((pins_each _ _ _ (fun _ _ => pins_writeLost ..)).trans (pins_dropCopy ..))
    · exact pins_ite ((pins_releaseDst ..).trans (pins_dropCopy ..)) ((pins_modDir ..).trans (pins_dropCopy ..))
    · exact (pins_modInst ..).trans (pins_dropCopy ..)

/-- An extent that is given back, where there is one. -/
theorem pins_freeFound (found : Option (Nat × Nat)) (b : Bridge) :
    pins (match found with
      | some (c, x) => b.freeExt c x
      | none => b) = pins b := by
  split
  · rfl
  · rfl

theorem pins_foldExtent (key : Nat) (b : Bridge) : pins (b.foldExtent key) = pins b := by
  unfold Bridge.foldExtent
  split
  · rfl
  · split
    · rfl
    · extract_lets homed filtered freed own
      have step : pins freed = pins filtered := by
        unfold freed
        split
        · exact pins_ite rfl rfl
        · rfl
      have step2 : pins own = pins freed := pins_ite rfl rfl
      exact step2.trans (step.trans rfl)

theorem pins_freeDesc (key : Nat) (d : Desc) (b : Bridge) : pins (b.freeDesc key d) = pins b :=
  (pins_modHerd ..).trans ((pins_each _ _ _ (fun _ _ => pins_freeGran ..)).trans ((pins_freeFound ..).trans (pins_freeExt ..)))

theorem pins_normalExts (n : Nat) (b : Bridge) : pins (b.normalExts n) = pins b := pins_modHerd ..

-- Tenancy -------------------------------------------------------------------------------------------------------------------

theorem pins_modTen (f : Tenancy → Tenancy) (b : Bridge) : pins (b.modTen f) = pins b := rfl

theorem pins_breakSem (k : Nat) (b : Bridge) : pins (b.breakSem k) = pins b := pins_ite rfl rfl

theorem pins_breakSems (fn : Nat) (b : Bridge) : pins (b.breakSems fn) = pins b :=
  pins_each _ _ _ (fun _ _ => pins_ite (pins_breakSem ..) rfl)

theorem pins_releaseMaps (i : Nat) (b : Bridge) : pins (b.releaseMaps i) = pins b := by
  unfold Bridge.releaseMaps
  extract_lets freed stopped unmapped
  have step : pins freed = pins b := pins_each _ _ _ (fun _ _ => pins_freeDesc ..)
  have step2 : pins stopped = pins freed := by
    refine pins_each _ _ _ (fun l c => ?_)
    split
    · exact pins_freeGran ..
    · rfl
  exact (pins_modHerd ..).trans ((pins_modTen ..).trans (step2.trans step))

theorem pins_abortCreate (i : Nat) (b : Bridge) : pins (b.abortCreate i) = pins b := (pins_modInst ..).trans (pins_releaseMaps ..)

theorem pins_switchCreate (i : Nat) (b : Bridge) : pins (b.switchCreate i) = pins b :=
  (pins_modInst ..).trans ((pins_modHerd ..).trans (pins_modTen ..))

theorem pins_modSch (n : Nat) (f : Sched → Sched) (b : Bridge) : pins (b.modSch n f) = pins b := rfl

theorem pins_switchTeardown (i : Nat) (b : Bridge) : pins (b.switchTeardown i) = pins b :=
  (pins_modInst ..).trans ((pins_each _ _ _ (fun _ _ => pins_modSch ..)).trans ((pins_each _ _ _ (fun _ _ => pins_endCopy ..)).trans
    ((pins_breakSems ..).trans (pins_modTen ..))))

-- Channels and fences -------------------------------------------------------------------------------------------------------

theorem pins_modSvc (n : Nat) (f : Service → Service) (b : Bridge) : pins (b.modSvc n f) = pins b := rfl

theorem pins_modAcc (n : Nat) (f : Access → Access) (b : Bridge) : pins (b.modAcc n f) = pins b := rfl

theorem pins_freezeLost (n : Nat) (homes : Bool) (b : Bridge) : pins (b.freezeLost n homes) = pins b := (pins_modSvc ..).trans (pins_modHerd ..)

theorem pins_liftFence (n : Nat) (homes : Bool) (b : Bridge) : pins (b.liftFence n homes) = pins b :=
  pins_ite rfl ((pins_regain ..).trans ((pins_freezeLost ..).trans (pins_modAcc ..)))

theorem pins_buildCopy (k n : Nat) (b : Bridge) : pins (b.buildCopy k n) = pins b := rfl

theorem pins_sledInForce (n : Nat) (on : Bool) (serial cap pct : Nat) (b : Bridge) : pins (b.sledInForce n on serial cap pct) = pins b := by
  unfold Bridge.sledInForce
  split
  · extract_lets lost admitted lifted back
    have step : pins lifted = pins admitted := pins_ite (pins_liftFence ..) rfl
    have step2 : pins back = pins b := (pins_toSvc ..).trans ((pins_modSvc ..).trans (step.trans (pins_modSvc ..)))
    split
    · exact (pins_buildCopy ..).trans step2
    · exact (pins_endSvcOp ..).trans step2
  · exact (pins_modSvc ..).trans (pins_modHerd ..)

theorem pins_dropCached (e : SegEntry) (b : Bridge) : pins (b.dropCached e) = pins b := pins_ite rfl rfl

theorem pins_mirrorLost (n : Nat) (b : Bridge) : pins (b.mirrorLost n) = pins b :=
  (pins_each _ _ _ (fun _ _ => pins_notify ..)).trans ((pins_each _ _ _ (fun _ _ => pins_dropCached ..)).trans (pins_modTen ..))

theorem pins_modHc (n : Nat) (f : HerdCh → HerdCh) (b : Bridge) : pins (b.modHc n f) = pins b := rfl

theorem pins_evacBegins (n : Nat) (auto : Bool) (b : Bridge) : pins (b.evacBegins n auto) = pins b :=
  (pins_mirrorLost ..).trans ((pins_modHerd ..).trans (pins_modHc ..))

theorem pins_evacStops (n : Nat) (b : Bridge) : pins (b.evacStops n) = pins b := (pins_normalExts ..).trans (pins_modHc ..)

theorem pins_mirrorBack (n i idx : Nat) (b : Bridge) : pins (b.mirrorBack n i idx) = pins b := by
  unfold Bridge.mirrorBack
  extract_lets key marked dropped left
  have step : pins dropped = pins b := by
    unfold dropped
    split
    · exact (pins_dropCached ..).trans (pins_modTen ..)
    · rfl
  split
  · exact (pins_ite (pins_endOp ..) rfl).trans step
  · exact step

theorem pins_stackBack (k : Nat) (b : Bridge) : pins (b.stackBack k) = pins b :=
  (pins_each _ _ _ (fun _ _ => pins_ite rfl (pins_liftFence ..))).trans (pins_modHerd ..)

theorem pins_modRtv (n : Nat) (f : Rtv → Rtv) (b : Bridge) : pins (b.modRtv n f) = pins b := rfl

theorem pins_level (i : Nat) (high : Bool) (b : Bridge) : pins (b.level i high) = pins b := rfl

theorem pins_modGlb (f : Global → Global) (b : Bridge) : pins (b.modGlb f) = pins b := rfl

theorem pins_pcSpareIn (stack : Nat) (b : Bridge) : pins (b.pcSpareIn stack) = pins b := pins_modGlb ..

theorem pins_coreSpareIn (b : Bridge) : pins b.coreSpareIn = pins b := pins_modGlb ..

/-- An unfence that is over ends its operation, where one is there, and the service level is looked at again (R373). -/
theorem pins_unfenceEnds (found : Option Operation) (status : Nat) (b : Bridge) :
    pins (match found with
      | some o => (b.endOp o status []).regain
      | none => b.regain) = pins b := by
  split
  · exact (pins_regain _).trans (pins_endOp ..)
  · exact pins_regain _

theorem pins_unfenced (kind unit sub : Nat) (b : Bridge) : pins (b.unfenced kind unit sub) = pins b := by
  unfold Bridge.unfenced
  extract_lets obj done
  have ends (ok : Bool) (c : Bridge) : pins (done ok c) = pins c := pins_unfenceEnds ..
  split
  · exact (ends ..).trans ((pins_ite (pins_modSvc ..) rfl).trans ((pins_ite (pins_toSvc ..) rfl).trans (pins_liftFence ..)))
  · exact pins_ite ((ends ..).trans (pins_when _ _ _ ((pins_spareLog ..).trans (pins_modRtv ..))))
      ((ends ..).trans ((pins_level ..).trans (pins_modRtv ..)))
  · refine pins_ite ((ends ..).trans (pins_when _ _ _ (pins_modGlb ..))) (pins_ite (pins_ite ?spared (ends ..)) ?back)
    case spared =>
      exact (ends ..).trans ((pins_spareLog ..).trans ((pins_modGlb ..).trans ((pins_pcSpareIn ..).trans ((pins_modHerd ..).trans (pins_modGlb ..)))))
    case back => exact (ends ..).trans ((pins_modGlb ..).trans ((pins_modHerd ..).trans (pins_modGlb ..)))
  · exact pins_ite ((ends ..).trans (pins_when _ _ _ ((pins_spareLog ..).trans (pins_coreSpareIn _)))) ((ends ..).trans rfl)
  · rfl

theorem pins_applyChange (c : Change) (b : Bridge) : pins (b.applyChange c) = pins b := by
  cases c with
  | instCreate i => exact pins_ite ((pins_level ..).trans (pins_switchCreate ..)) rfl
  | instTeardown i => exact pins_ite (pins_switchTeardown ..) rfl
  | keyChange i gen imported => rfl
  | precolour i first count colour => rfl
  | semAccess sem set => rfl
  | semRelease mask => exact pins_each _ _ _ (fun _ _ => pins_breakSem ..)
  | hints i first count set change => exact pins_each _ _ _ (fun _ _ => pins_modHerd ..)
  | tune t => rfl
  | shares x y z => rfl
  | reserve pct => rfl
  | persist on => rfl
  | veto mask => rfl
  | classify k s n w => rfl
  | whistle srcs => rfl
  | power n => exact pins_when _ _ _ (pins_each _ _ _ (fun _ _ => pins_modSch ..))
  | thermal w => rfl
  | linkIdle mask en => exact pins_each _ _ _ (fun _ _ => rfl)
  | evacStart n auto => exact pins_ite rfl (pins_evacBegins ..)
  | evacStop n => exact pins_evacStops ..
  | onAlt n => exact pins_mirrorLost ..
  | copySwitch c => exact pins_switchCopy ..
  | copyEnd c cause => exact pins_endCopy ..
  | fold d => exact pins_foldExtent ..
  | sledRecord n on serial cap pct _ => exact pins_ite rfl (pins_sledInForce ..)
  | unfence kind unit sub => exact pins_unfenced ..
  | fenceRecord _ _ _ => rfl
  | inst0 g => rfl
  | vfLimit l => rfl
  | hdmCommit dec h => rfl
  | segRestored n i idx => exact pins_mirrorBack ..
  | rebuilt key => exact pins_modHerd ..
  | stackRebuilt k => exact pins_stackBack ..

theorem pins_undoChange (c : Change) (b : Bridge) : pins (b.undoChange c) = pins b := by
  unfold Bridge.undoChange
  split
  · exact pins_ite (pins_abortCreate ..) rfl
  · exact pins_modInst ..
  · rfl

/-- What is prepared is decided at a power-on reset without a change of the pins or the fuses. -/
theorem pins_settlePrepared (all : Bool) (b : Bridge) : pins (b.settlePrepared all) = pins b :=
  (pins_each _ _ _ (fun _ _ => pins_ite rfl (pins_ite (pins_applyChange ..) (pins_undoChange ..)))).trans rfl

end Sys2Proof.Proofs
end

section
/-! For O58: after a power-on reset nothing goes on by itself, so that what the reset leaves is what settles (R488, R489). -/

namespace Sys2Proof.Proofs
open Sys2Proof Sys2Proof.Machine

/-- A channel of which only the sled's position is known. -/
def atPosition (present : Bool) : Channel := { svc := { present := present, state := if present then .present else .empty } }

/-- A bridge in which nothing goes on by itself: no event, no sequence, no command, no work on a channel. -/
structure Blank (b : Bridge) : Prop where
  glb : b.glb = {}
  faults : b.faults = {}
  jrn : b.jrn = {}
  citan : b.citan = {}
  chan : ∀ n, ∃ present, b.chan n = atPosition present

/-- What a reset leaves in force: the registers, the kennel, the fuses and the power state. -/
def lasting (b : Bridge) : Global × Kennel × Fuses × Power := (b.glb, b.knl, b.fuses, b.pwr)

/-- A run whose steps all leave the bridge as it is leaves it as it is. -/
theorem each_of_still {α : Type} {xs : List α} {f : α → Bridge → Bridge} {b : Bridge} (still : ∀ x ∈ xs, f x b = b) : b.each xs f = b := by
  unfold Bridge.each
  induction xs with
  | nil => rfl
  | cons x t ih => rw [List.foldl_cons, still x List.mem_cons_self, ih (fun y member => still y (List.mem_cons_of_mem _ member))]

section
variable {b : Bridge} (blank : Blank b)
include blank

theorem Blank.unfenced (n : Nat) : b.chFenced n = false := by simp [Bridge.chFenced, blank.glb, bitOf_zero]

theorem Blank.opOn (op obj : Nat) : b.opOn op obj = none := by simp [Bridge.opOn, blank.citan]

theorem Blank.released : b.released = b := by
  have idle : b.holding = [] := by
    have none' (n : Nat) : (b.chan n).sch.running = [] := by
      obtain ⟨present, chan⟩ := blank.chan n
      rw [chan]
      rfl
    have empty : (channels.map (fun _ => ([] : List (Nat × Running)))).flatten = [] := rfl
    simp only [Bridge.holding, none', List.filter_nil, List.map_nil, empty, List.foldr_nil]
  simp [Bridge.released, Bridge.releaseHolds, idle, Bridge.each, blank.glb]

theorem Blank.reactAll : b.reactAll 64 = b := by simp [Bridge.reactAll, blank.faults]

theorem Blank.snapEdge : b.snapEdge = b := if_pos (by rw [blank.faults])

theorem Blank.plOn : b.plOn = b := if_pos (by rw [blank.jrn])

theorem Blank.testFailures : b.testFailures = b := by
  refine each_of_still (fun n member => absurd member ?_)
  obtain ⟨present, chan⟩ := blank.chan n
  simp [Bridge.phy, chan, atPosition]

theorem Blank.unfenceSteps : b.unfenceSteps = b := by
  refine each_of_still (fun n member => absurd member ?_)
  simp [blank.opOn]

theorem Blank.copyCheck : b.copyCheck = b := by
  refine each_of_still (fun k _ => ?_)
  have none' : b.jrn.at k = {} := by
    rw [blank.jrn]
    rfl
  simp [none']

theorem Blank.svcSteps : b.svcSteps = b := by
  unfold Bridge.svcSteps
  rw [blank.copyCheck]
  refine each_of_still (fun n member => absurd member ?_)
  obtain ⟨present, chan⟩ := blank.chan n
  cases present
  · simp [chan, atPosition]
  · simp [chan, atPosition]

theorem Blank.sledCheck (n : Nat) : b.sledCheck n = b := by
  obtain ⟨present, chan⟩ := blank.chan n
  cases present
  · simp [Bridge.sledCheck, chan, atPosition]
  · simp [Bridge.sledCheck, chan, atPosition]

theorem Blank.linkWaits : b.linkWaits = b := by
  have quiet : b.citan.waits = [] := by rw [blank.citan]
  simp only [Bridge.linkWaits, quiet, List.filter_nil, Bridge.each, List.foldl_nil]
  rw [← quiet]

theorem Blank.restoreFails : b.restoreFails = b := by
  refine each_of_still (fun n member => absurd member ?_)
  simp [blank.unfenced]

theorem Blank.waitsOn : b.waitsOn = b := by
  unfold Bridge.waitsOn
  dsimp only
  rw [blank.testFailures, blank.unfenceSteps, blank.svcSteps, each_of_still (fun n _ => blank.sledCheck n), blank.linkWaits, blank.restoreFails]

theorem Blank.lanesOn (n : Nat) : b.lanesOn n = b := by
  obtain ⟨present, chan⟩ := blank.chan n
  have unbound : b.bindAgain n = b := by simp [Bridge.bindAgain, chan, atPosition]
  unfold Bridge.lanesOn
  dsimp only
  rw [each_of_still (fun _ _ => unbound), chan]
  rfl

theorem Blank.stir : b.stir = b := by
  unfold Bridge.stir Bridge.scansOn
  rw [blank.released, blank.reactAll, blank.snapEdge, blank.plOn, blank.waitsOn, each_of_still (fun n _ => blank.lanesOn n), blank.reactAll,
    blank.snapEdge]

/-- The journal of a blank bridge takes no record. -/
theorem Blank.logGroup (rs : List (RecKind × List Byte)) : b.logGroup rs = b := if_pos (by simp [Bridge.journalUp, blank.jrn])

/-- What settles after a blank bridge is left changes neither its registers, its kennel, its fuses nor its power state. -/
theorem Blank.settle (was : Bridge) : lasting (was.settle b) = lasting b := by
  rw [Bridge.settle, Bridge.faultPin_rest, Bridge.syncLevels_rest]
  change lasting (if was.goesOn b then was.markBack (was.logOps b.stir) else b) = lasting b
  split
  · rw [blank.stir]
    refine (Bridge.each_keeps lasting _ _ (fun n c => ?_) _).trans (congrArg lasting (blank.logGroup _))
    rfl
  · rfl

end

/-- A sled's position that is found occupied leaves a blank bridge blank. -/
theorem Blank.modSvc {b : Bridge} (blank : Blank b) (n : Nat) : Blank (b.modSvc n (fun s => { s with present := true, state := .present })) where
  glb := blank.glb
  faults := blank.faults
  jrn := blank.jrn
  citan := blank.citan
  chan m := by
    by_cases same : m = n
    · obtain ⟨present, chan⟩ := blank.chan n
      refine ⟨true, ?_⟩
      rw [same, Bridge.modSvc_chan, chan]
      rfl
    · rw [Bridge.modSvc, Bridge.modCh_chan_ne _ _ same]
      exact blank.chan m

theorem Blank.each_modSvc {b : Bridge} (blank : Blank b) (ns : List Nat) :
    Blank (b.each ns (fun n b => b.modSvc n (fun s => { s with present := true, state := .present }))) := by
  unfold Bridge.each
  induction ns generalizing b with
  | nil => exact blank
  | cons n ns ih => exact ih (blank.modSvc n)

/-- Power-on reset leaves the bridge blank. -/
theorem blank_doPowerOnReset (kept : Bool) (b : Bridge) : Blank (doPowerOnReset kept b) := by
  unfold doPowerOnReset
  extract_lets loaded settled image old present fresh kept' boot empty base marked kennel k logged lost
  have blank : Blank marked := Blank.each_modSvc (b := base) ⟨rfl, rfl, rfl, rfl, fun _ => ⟨false, rfl⟩⟩ _
  split
  · exact ⟨blank.glb, blank.faults, blank.jrn, blank.citan, blank.chan⟩
  · exact ⟨blank.glb, blank.faults, blank.jrn, blank.citan, blank.chan⟩

theorem lasting_kennel {b : Bridge} {glb : Global} {pwr : Power} (knl : Kennel) (registers : b.glb = glb) (power : b.pwr = pwr) :
    lasting { b with knl := knl } = (glb, knl, b.fuses, pwr) := by
  subst registers power
  rfl

/-- What power-on reset leaves in force: LEVEL 0, the pins and the fuses as they are, and a kennel without its KEK where the battery failed. -/
theorem lasting_doPowerOnReset (kept : Bool) (b : Bridge) : ∃ knl fuses,
    lasting (doPowerOnReset kept b) = ({}, knl, fuses, { por := true, perstLow := b.pwr.perstLow, failLow := b.pwr.failLow })
      ∧ fuses.array = b.fuses.array ∧ (kept = false → knl.kekValid = false ∧ knl.latch = true ∧ knl.stateLost = true) := by
  unfold doPowerOnReset
  extract_lets loaded settled image old present fresh kept' boot empty base marked kennel k logged lost
  have pinned : pins settled = pins b := pins_settlePrepared ..
  have stays : lasting marked = lasting base := by
    refine Bridge.each_keeps lasting _ _ (fun n c => ?_) _
    rfl
  simp only [pins, Prod.mk.injEq] at pinned
  obtain ⟨perst, fail, fuses⟩ := pinned
  simp only [lasting, Prod.mk.injEq] at stays
  obtain ⟨glb, -, array, power⟩ := stays
  have array' : marked.fuses.array = b.fuses.array := by
    rw [array, ← fuses]
  have power' : marked.pwr = { por := true, perstLow := b.pwr.perstLow, failLow := b.pwr.failLow } := by
    rw [power, ← perst, ← fail]
  cases kept with
  | true => exact ⟨_, marked.fuses, lasting_kennel _ glb power', array', fun h => absurd h (by decide)⟩
  | false => exact ⟨_, marked.fuses, lasting_kennel _ glb power', array', fun _ => ⟨rfl, rfl, rfl⟩⟩

/-- What power-on reset leaves once it has settled (R488, R489). -/
theorem settle_doPowerOnReset (kept : Bool) (was b : Bridge) :
    let r := was.settle (doPowerOnReset kept b)
    r.pwr.por = true ∧ r.pwr.perstLow = b.pwr.perstLow ∧ r.pwr.failLow = b.pwr.failLow ∧ r.glb.level = 0 ∧ r.pwr.started = false
      ∧ r.fuses.array = b.fuses.array ∧ (kept = false → r.knl.kekValid = false ∧ r.knl.latch = true ∧ r.knl.stateLost = true) := by
  obtain ⟨knl, fuses, left, array, lost⟩ := lasting_doPowerOnReset kept b
  have settled := ((blank_doPowerOnReset kept b).settle was).trans left
  simp only [lasting, Prod.mk.injEq] at settled
  obtain ⟨glb, kennel, fuses', power⟩ := settled
  dsimp only
  rw [glb, kennel, fuses', power]
  exact ⟨rfl, rfl, rfl, rfl, rfl, array, lost⟩

end Sys2Proof.Proofs
end

section
/-! Obligation O58: power-on reset, start-up, PERST_N, Doze and samples. -/

namespace Sys2Proof.Proofs

open Sys2Proof Sys2Proof.Machine

/-- PERST_N's fall reaches a bridge that has started (R473, R492). -/
theorem perstTaken {s : State} (high : s.br.pwr.perstLow = false) (por : s.br.pwr.por = false) (alive : s.br.pwr.dead = false)
    (started : s.br.pwr.started = true) :
    ¬((s.br.fresh.pwr.perstLow || s.br.fresh.pwr.por || s.br.fresh.pwr.dead || !s.br.fresh.pwr.started) = true) := by
  simp [high, por, alive, started]

/-- A watched level that is high wakes the bridge from Doze (R428). -/
theorem whistle_of_watched {b : Bridge} {i : Nat} (watched : b.watchedHigh = some i) (doze : b.pwr.state = 3) :
    b.whistle = ({ b with icu := { b.icu with whCause := some i, whTime := b.glb.time, wakes := cnt32 b.icu.wakes 1 } } : Bridge).startWake 1 := by
  unfold Bridge.whistle
  split
  case h_1 j found =>
    obtain rfl : i = j := Option.some.inj (watched.symm.trans found)
    rw [if_pos doze]
  case h_2 none' => exact absurd (none'.symm.trans watched) (by simp)

/-- Two changes that agree at the power state as it is change it alike. -/
theorem modPwr_congr {b : Bridge} {f g : Power → Power} (same : f b.pwr = g b.pwr) : b.modPwr f = b.modPwr g := by
  rw [Bridge.modPwr, Bridge.modPwr, same]

/-- A bridge that keeps no tamper for its wake has none to drop. -/
theorem dropAtWake_of_quiet {b : Bridge} (quiet : b.knl.atWake = []) : b.modKnl (fun k => { k with atWake := [] }) = b := by
  rw [Bridge.modKnl, ← quiet]

/-- The end of a wake, where no tamper waited for it (R429): what it wakes for follows. -/
theorem doWakeComplete_of_quiet {b : Bridge} (waking : b.pwr.state = 4) (quiet : b.knl.atWake = []) :
    doWakeComplete b
      = let d := b.modPwr (fun p => { p with state := p.prev, wakeThen := 0 })
        if bitOf b.pwr.wakeThen 1 || bitOf b.pwr.wakeThen 2 then
          if bitOf b.pwr.wakeThen 0 then d.powerLoss.modPwr (fun p => { p with perstDue := true }) else d.powerLoss
        else if bitOf b.pwr.wakeThen 0 then
          if d.perstFalls.pwr.perstLow then d.perstFalls else d.perstFalls.riseAgain
        else d := by
  have quiet' : (b.modPwr (fun p => { p with state := p.prev, wakeThen := 0 })).knl.atWake = [] := quiet
  simp only [doWakeComplete, waking, ne_eq, not_true_eq_false, if_false, quiet', Bridge.each, List.foldl_nil, dropAtWake_of_quiet quiet']

/-- Where the board does not have the NOR's pins, it has programmed nothing (R471). -/
theorem unprogrammed {b : Bridge} (board : b.boot.qspiFree = false) (slotA slotB : FwSlot) (next : Option Nat) (seq : Nat) :
    b.fresh.when (b.fresh.boot.qspiFree && b.fresh.pwr.perstLow) (fun b =>
      { b with boot := { b.boot with slots := [(1, slotA), (2, slotB)], next := next, seq := seq % 2 ^ 32 } }) = b.fresh :=
  if_neg (by simp [board])

/-- Steps that do the same to each of a list's members do the same. -/
theorem each_congr {α : Type} {xs : List α} {f g : α → Bridge → Bridge} {b : Bridge} (same : ∀ x ∈ xs, ∀ c, f x c = g x c) : b.each xs f = b.each xs g := by
  unfold Bridge.each
  induction xs generalizing b with
  | nil => rfl
  | cons x t ih =>
    rw [List.foldl_cons, List.foldl_cons, same x List.mem_cons_self]
    exact ih (fun y member => same y (List.mem_cons_of_mem _ member))

/-- Settles O58; what power-on reset leaves is `settle_doPowerOnReset`. -/
theorem powerAndReset : Obligations.PowerAndReset := by
  intro s
  refine ⟨fun kept => ?reset, fun por => ?supply, ?below, fun hbms cores tenancy board fresh alive => ?startUp,
    fun high por alive started => ⟨fun losing held => ?later, fun idle doze => ?wakes, fun idle run => ?falls⟩,
    fun hbms cores tenancy slotA slotB next seq low board => ⟨fun fresh => ?unstarted, fun started por alive due wake => ?rises⟩,
    fun por alive held run idle => ?trip,
    fun b live => ⟨fun rom board => ?board, fun asked ready idle down => ?dozes, fun i watched doze => ?whistles, fun cause doze => ?wake,
      fun waking none' quiet => ?woken, fun waking first' second quiet => ?wokenLoss, fun t open' => ?sensors, fun mw seven range open' => ?rails,
      fun packet open' => ?packet, fun data open' => ?char⟩⟩
  case reset => exact ⟨_, rfl, rfl, rfl, settle_doPowerOnReset kept s.br.fresh s.br.fresh⟩
  case supply =>
    refine completes_of_run rfl ?_
    simp [doSupplyFault, por]
  case below =>
    obtain ⟨por, -, -, level, started, -, -⟩ :=
      settle_doPowerOnReset true s.br.fresh (if s.br.fresh.pwr.por then s.br.fresh else doTamperFire 4 0 s.br.fresh)
    exact ⟨_, rfl, rfl, rfl, por, level, started⟩
  case startUp =>
    refine completes_of_run rfl (if_neg ?_)
    simp [fresh, alive]
  case later => exact completes_of_run rfl ((if_neg (perstTaken high por alive started)).trans (if_pos ⟨losing, by simpa using held⟩))
  case wakes =>
    refine completes_of_run rfl ((if_neg (perstTaken high por alive started)).trans ((if_neg ?_).trans (if_pos ?_)))
    · simp [idle]
    · simp [doze]
  case falls =>
    refine completes_of_run rfl ((if_neg (perstTaken high por alive started)).trans ((if_neg ?_).trans ((if_neg ?_).trans ?_)))
    · simp [idle]
    · simp; omega
    · rw [Bridge.abandonDoze, if_pos (by simp; omega)]
      rfl
  case unstarted =>
    refine completes_of_run rfl ((congrArg (doPerstDeassert hbms cores tenancy) (unprogrammed board slotA slotB next seq)).trans ?_)
    exact (if_neg (by simp [low])).trans (if_pos (by simp [fresh]))
  case rises =>
    refine completes_of_run rfl ((congrArg (doPerstDeassert hbms cores tenancy) (unprogrammed board slotA slotB next seq)).trans ?_)
    exact (if_neg (by simp [low])).trans (if_neg (by simp [started, por, alive, due, wake]))
  case trip =>
    have awake : ¬(3 ≤ s.br.pwr.state ∧ s.br.pwr.state ≤ 4) := by omega
    refine completes_of_run rfl ((if_neg ?_).trans ((if_neg (Bool.eq_false_iff.mp held)).trans ((if_neg (Classical.not_not.mpr idle)).trans (if_neg awake))))
    simp [por, alive]
  case board => exact completes_of_live live rfl (if_pos (by simp [rom, board]))
  case dozes =>
    refine completes_of_live live rfl ?_
    simp [doDozeEntry, asked, ready, idle, down]
  case whistles => exact completes_of_live live (f := Bridge.whistle) rfl (whistle_of_watched watched doze)
  case wake =>
    refine completes_of_live live rfl ?_
    simp [doWakeStart, Bridge.abandonDoze, Bridge.startWake, doze]
  case woken =>
    refine completes_of_live live rfl ?_
    simp only [doWakeComplete_of_quiet waking quiet, none', bitOf_zero, Bool.or_self, Bool.false_eq_true, if_false]
    exact modPwr_congr (by rw [none'])
  case wokenLoss =>
    refine completes_of_live live rfl ?_
    simp only [doWakeComplete_of_quiet waking quiet, first', second, Bool.true_or, if_true, Bool.false_eq_true, if_false]
  case sensors =>
    refine completes_of_live live rfl ?_
    have read {i : Nat} (die : i < 15) : (((List.range 15).map (fun i => some (t (Fin.ofNat 15 i))))[i]?).getD none = some (t (Fin.ofNat 15 i)) := by
      simp [die]
    have all : (List.range 15).all (fun i => ((((List.range 15).map (fun i => some (t (Fin.ofNat 15 i))))[i]?).getD none).isSome) = true :=
      List.all_eq_true.mpr (fun i die => by rw [read (List.mem_range.mp die)]; rfl)
    simp only [doSensorSample, open', Bool.false_eq_true, if_false, all, Bool.or_true, Bool.true_and]
    rw [each_congr (fun i die c => by rw [read (List.mem_range.mp die)])] <;> rfl
  case rails =>
    refine completes_of_live live rfl ?_
    have within (r : Nat) : (mw[r]?.getD 0) % 2 ^ 20 = mw[r]?.getD 0 := by
      cases found : mw[r]? with
      | none => rfl
      | some x => exact Nat.mod_eq_of_lt (range x (List.mem_of_getElem? found))
    simp only [doRailSample, within, List.take_of_length_le (Nat.le_of_eq seven)]
  case packet => exact completes_of_live live rfl (if_neg (Bool.eq_false_iff.mp open'))
  case char => exact completes_of_live live rfl (if_neg (Bool.eq_false_iff.mp open'))

end Sys2Proof.Proofs
end
